-- ==== Sys2Proof/Word.lean ====
section
/-!
DEFINITION. The words of the SB410: what the manual treats as bits, and the small index types.
-/

namespace Sys2Proof

/-- One byte of a payload, of the buffer or of the settings block. -/
abbrev Byte := BitVec 8

/-- A tick count: 32 bits, wrapping (R25). -/
abbrev Tick := BitVec 32

/-- A block number or a size in blocks: 32 bits (00_scope section 4). -/
abbrev BlockNo := BitVec 32

/-- A request's tag, 0 to 255. -/
abbrev Tag := BitVec 8

/-- A station number, 0 to 15. -/
abbrev Station := Fin 16

/-- A page of the buffer, 0 to 255 (R101). -/
abbrev Page := Nat

end Sys2Proof
end

