-- ==== Sys2Proof/Config.lean ====
section
/-!
DEFINITION. What the part fixes: the timeouts, limits and counts of the manual. The spec leaves no result of a command
open, so there is no free value here (NOTES.md, Assumptions).
-/

namespace Sys2Proof.Config

/-- Ticks to one second (R25). -/
def ticksPerSecond : Nat := 100
/-- Largest value of a counter (R24, R33, R93, R116, R143, R144). -/
def counterMax : Nat := 65535
/-- Announcement timer, in ticks (R32). -/
def announceTicks : Nat := 400
/-- Silence after which a station is unheard, in ticks (R166, R168). -/
def silenceTicks : Nat := 1200
/-- Table timer, in ticks (R53). -/
def tableTicks : Nat := 100
/-- Claim hold-off, in ticks (R58). -/
def claimHoldOffTicks : Nat := 1000
/-- Longest deferral, in ticks (R70). -/
def deferralTicks : Nat := 500
/-- Adequate shelf 12 V level, in steps (R70, R96). -/
def adequateSteps : Nat := 675
/-- Longest ready wait, in ticks (R71). -/
def readyWaitTicks : Nat := 1500
/-- Reply limit of the SYNC of spin-down, in ticks (R75). -/
def spinDownSyncTicks : Nat := 500
/-- Reply limit of every other lane command, in ticks (R75). -/
def commandTicks : Nat := 200
/-- A waiting chunk read goes first after this many ticks (R76). -/
def resyncLaneTicks : Nat := 100
/-- Smallest drive, in blocks (R72). -/
def smallestDrive : Nat := 1024
/-- Blocks reserved at the end of the drive (R72). -/
def reservedBlocks : Nat := 8
/-- Room of the request queue (R99). -/
def queueRoom : Nat := 16
/-- Pages of the buffer, and bytes of a page (R101). -/
def pages : Nat := 256
/-- Bytes of one page, and of one block of the drive (R101). -/
def pageBytes : Nat := 512
/-- Data timeout of a DATA_IN entry, in ticks (R108). -/
def dataTicks : Nat := 200
/-- Age limit of a QUEUED entry, in ticks (R113). -/
def ageTicks : Nat := 6000
/-- Retry wait of a DATA piece, in ticks, and its attempts (R116). -/
def pieceRetryTicks : Nat := 5
/-- Attempts on one DATA piece (R116). -/
def pieceAttempts : Nat := 8
/-- DONEs for CLEAR-FAULTs that may wait to be placed (R82). -/
def clearFaultRoom : Nat := 4
/-- REPORTs that may wait to be placed (R176). -/
def reportRoom : Nat := 4
/-- Attempts on a MIRROR-ACK or MIRROR-MISS (R130). -/
def mirrorAttempts : Nat := 4
/-- MIRROR-MISS messages without an entry that may wait (R130). -/
def noEntryMisses : Nat := 8
/-- Longest wait in WAIT_MIRROR, in ticks (R135). -/
def waitMirrorTicks : Nat := 2000
/-- Retry wait of a resync message, in ticks (R145, R149, R151). -/
def resyncRetryTicks : Nat := 10
/-- Reply wait of the resync engine, in ticks (R147). -/
def replyWaitTicks : Nat := 7000
/-- Resync hold-off, in ticks (R153). -/
def resyncHoldOffTicks : Nat := 500
/-- Blocks of one chunk at most (R148). -/
def chunkBlocks : Nat := 64
/-- Resync wake interval, in ticks (R155). -/
def wakeIntervalTicks : Nat := 6000
/-- Sleep retry hold, take hold-off and absence hold, in ticks (R163, R166, R168). -/
def holdTicks : Nat := 100
/-- Time between two pass checks, in ticks (R167). -/
def passCheckTicks : Nat := 6000
/-- Room of the proxy queue, proxy DONEs not yet placed counted in (R170). -/
def proxyRoom : Nat := 8
/-- Life of a waking mark, in ticks (R170). -/
def wakingTicks : Nat := 300
/-- Time between two WAKEs of one target, in ticks (R171). -/
def wakeRepeatTicks : Nat := 100
/-- Retry wait of a FORWARD, in ticks (R172). -/
def forwardRetryTicks : Nat := 10
/-- Current of one step of the trip levels, in mA (R88). -/
def tripStep : Nat := 32
/-- Device address of the serial memory on the settings lane (R178). -/
def settingsDevice : BitVec 7 := 0x50
/-- Clock of the settings lane, in Hz (R178). -/
def settingsClock : Nat := 100000
/-- Bytes of the settings block (R174). -/
def settingsBytes : Nat := 16
/-- Life of a proxy entry, in ticks (R173). -/
def proxyTicks : Nat := 3000

end Sys2Proof.Config
end

