-- ==== Sys2Proof/Syntax.lean ====
section
/-!
DEFINITION. The commands of the SB410: one constructor of `Instr` for each row of spec/opcode_table.json, with the
operands that the rules give the row. The table gives no row any bits.
-/

namespace Sys2Proof

/-- The header of a message, fields 1 to 5 of section 1.2. -/
structure Header where
  cls : BitVec 3
  origin : BitVec 4
  target : BitVec 5
  kind : BitVec 5
  length : BitVec 10
  deriving DecidableEq, Repr

/-- A message as it stands on the line, fields 1 to 7 of section 1.2: header, payload bytes, check field. -/
structure Frame where
  header : Header
  payload : List Byte
  check : BitVec 16
  deriving DecidableEq, Repr

/-- The answer slot of a received message: what OTHER stations drive in its two bits, and whether the station's own
transmitter fails to reach the line (R10, R36, R165). -/
structure AnswerSlot where
  ack : Bool
  obj : Bool
  ownFails : Bool
  deriving DecidableEq, Repr

/-- What the settings read gave (R174, R175): an acknowledge was missing or bytes did not come, or the bytes read. The
transaction on the settings lane stands in Machine/Operands.lean (log 45). -/
inductive SettingsRead where
  | notAcknowledged
  | bytes (block : List Byte)
  deriving DecidableEq, Repr

/-- The reply to IDENTIFY (R72). -/
inductive IdentifyReply where
  | ok (size : BlockNo)
  | mediaError
  deriving DecidableEq, Repr

/-- A drive lane reply (R74). `blocks` are the blocks that a READ returned, in block order: all of them on OK, those
before the failing block on MEDIA_ERROR; none for the other commands. -/
inductive LaneReply where
  | ok (blocks : List (List Byte))
  | mediaError (failing : BlockNo) (blocks : List (List Byte))
  deriving DecidableEq, Repr

/-- How the SYNC of spin-down ends (R78, step 4). -/
inductive SyncEnd where
  | ok
  | mediaError
  | timeout
  deriving DecidableEq, Repr

/-- The name of a request: its origin together with its tag (00_scope section 5). -/
structure Key where
  origin : Station
  tag : Tag
  deriving DecidableEq, Repr

/-- The commands. Receptions carry origin `o`, target `t` (targeted kinds), payload bytes `p` and the answer slot `a`. -/
inductive Instr where
  /-- RESET_ASSERT (R66) -/
  | resetAssert
  /-- RESET_RELEASE (R174): the levels of the strap pins, S3 the most significant -/
  | resetRelease (straps : BitVec 4)
  /-- SETTINGS_READ_DONE (R175) -/
  | settingsReadDone (r : SettingsRead)
  /-- LINE_IDLE (R18) -/
  | lineIdle
  /-- ARBITRATION_LOST (R5) -/
  | arbitrationLost
  /-- SEND_SPOILED (R6) -/
  | sendSpoiled
  /-- SEND_OUTCOME (R16): the acknowledge and objection bits as the sender reads them, true for dominant -/
  | sendOutcome (ack obj : Bool)
  /-- CHECK_ERROR (R8): the frame received -/
  | checkError (f : Frame)
  /-- FILL_ERROR_DROP (R7) -/
  | fillErrorDrop
  /-- MALFORMED_DROP (R3): the header received -/
  | malformedDrop (h : Header)
  /-- CLAIM_RECEIVED (R46) -/
  | claimReceived (o : Station) (p : List Byte) (a : AnswerSlot)
  /-- RELEASE_RECEIVED (R48) -/
  | releaseReceived (o : Station) (p : List Byte) (a : AnswerSlot)
  /-- QUERY_RECEIVED (R52) -/
  | queryReceived (o : Station) (p : List Byte) (a : AnswerSlot)
  /-- TABLE_TIMER_EXPIRY (R53) -/
  | tableTimerExpiry
  /-- TABLE_RECEIVED (R55) -/
  | tableReceived (o : Station) (p : List Byte) (a : AnswerSlot)
  /-- AWAKE_RECEIVED (R33) -/
  | awakeReceived (o : Station) (p : List Byte) (a : AnswerSlot)
  /-- ASLEEP_RECEIVED (R34) -/
  | asleepReceived (o : Station) (p : List Byte) (a : AnswerSlot)
  /-- WAKE_RECEIVED (R164) -/
  | wakeReceived (o : Station) (p : List Byte) (a : AnswerSlot)
  /-- ABSENT_RECEIVED (R35) -/
  | absentReceived (o : Station) (p : List Byte) (a : AnswerSlot)
  /-- WATCH_TAKE_RECEIVED (R166) -/
  | watchTakeReceived (o : Station) (p : List Byte) (a : AnswerSlot)
  /-- WATCH_PASS_RECEIVED (R167) -/
  | watchPassReceived (o t : Station) (p : List Byte) (a : AnswerSlot)
  /-- DONE_RECEIVED (R147) -/
  | doneReceived (o t : Station) (p : List Byte) (a : AnswerSlot)
  /-- MIRROR_ACK_RECEIVED (R133) -/
  | mirrorAckReceived (o t : Station) (p : List Byte) (a : AnswerSlot)
  /-- MIRROR_MISS_RECEIVED (R134) -/
  | mirrorMissReceived (o t : Station) (p : List Byte) (a : AnswerSlot)
  /-- RESYNC_BEGIN_RECEIVED (R146) -/
  | resyncBeginReceived (o t : Station) (p : List Byte) (a : AnswerSlot)
  /-- RESYNC_END_RECEIVED (R152) -/
  | resyncEndReceived (o t : Station) (p : List Byte) (a : AnswerSlot)
  /-- PROMOTE_RECEIVED (R158) -/
  | promoteReceived (o t : Station) (p : List Byte) (a : AnswerSlot)
  /-- READ_RECEIVED (R103) -/
  | readReceived (o t : Station) (p : List Byte) (a : AnswerSlot)
  /-- WRITE_RECEIVED (R104) -/
  | writeReceived (o t : Station) (p : List Byte) (a : AnswerSlot)
  /-- SYNC_RECEIVED (R103) -/
  | syncReceived (o t : Station) (p : List Byte) (a : AnswerSlot)
  /-- RESYNC_WRITE_RECEIVED (R104) -/
  | resyncWriteReceived (o t : Station) (p : List Byte) (a : AnswerSlot)
  /-- CANCEL_RECEIVED (R119) -/
  | cancelReceived (o t : Station) (p : List Byte) (a : AnswerSlot)
  /-- CLEAR_FAULT_RECEIVED (R82) -/
  | clearFaultReceived (o t : Station) (p : List Byte) (a : AnswerSlot)
  /-- PROBE_RECEIVED (R176) -/
  | probeReceived (o t : Station) (p : List Byte) (a : AnswerSlot)
  /-- FORWARD_RECEIVED (R106) -/
  | forwardReceived (o t : Station) (p : List Byte) (a : AnswerSlot)
  /-- DATA_RECEIVED (R107) -/
  | dataReceived (o t : Station) (p : List Byte) (a : AnswerSlot)
  /-- REPORT_RECEIVED (R22) -/
  | reportReceived (o t : Station) (p : List Byte) (a : AnswerSlot)
  /-- ANNOUNCEMENT_TIMER_EXPIRY (R32) -/
  | announcementTimerExpiry
  /-- CLAIM_HOLD_OFF_EXPIRY (R58) -/
  | claimHoldOffExpiry
  /-- DEFERRAL_END (R70) -/
  | deferralEnd
  /-- DEFERRAL_GIVE_UP (R70) -/
  | deferralGiveUp
  /-- READY_LINE_HIGH (R71) -/
  | readyLineHigh
  /-- READY_WAIT_EXPIRY (R71) -/
  | readyWaitExpiry
  /-- IDENTIFY_REPLY (R72) -/
  | identifyReply (r : IdentifyReply)
  /-- DRIVE_REPLY (R112) -/
  | driveReply (r : LaneReply)
  /-- COMMAND_TIMEOUT (R75) -/
  | commandTimeout
  /-- IDLE_LIMIT (R77) -/
  | idleLimit
  /-- SPIN_DOWN_SYNC_REPLY (R78) -/
  | spinDownSyncReply (r : SyncEnd)
  /-- RECORD_LOAD_REPLY (R140) -/
  | recordLoadReply (r : LaneReply)
  /-- RECORD_WRITE_REPLY (R143) -/
  | recordWriteReply (r : LaneReply)
  /-- PROMOTION_WRITE_REPLY (R159) -/
  | promotionWriteReply (r : LaneReply)
  /-- CHUNK_PAGES_TAKEN (R148) -/
  | chunkPagesTaken
  /-- CHUNK_READ_REPLY (R148) -/
  | chunkReadReply (r : LaneReply)
  /-- RESYNC_RETRY_WAIT_END (R149) -/
  | resyncRetryWaitEnd
  /-- REPLY_WAIT_EXPIRY (R147) -/
  | replyWaitExpiry
  /-- RESYNC_HOLD_OFF_EXPIRY (R153) -/
  | resyncHoldOffExpiry
  /-- RESYNC_WAKE_INTERVAL_EXPIRY (R155) -/
  | resyncWakeIntervalExpiry
  /-- CONVERSION_DONE (R86): the converter's result -/
  | conversionDone (result : BitVec 10)
  /-- COMPARATOR_OVER (R88, R90): the drive 12 V current has gone over the threshold of the level in force -/
  | comparatorOver
  /-- EXCURSION_FILTERED (R90) -/
  | excursionFiltered
  /-- SWITCH_HOLD_END (R90): the drive 12 V current at the end of the hold, in mA -/
  | switchHoldEnd (current : Nat)
  /-- TRIP (R91) -/
  | trip
  /-- DATA_TIMEOUT (R108) of one entry -/
  | dataTimeout (k : Key)
  /-- AGE_LIMIT (R113) of one entry -/
  | ageLimit (k : Key)
  /-- DATA_RETRY_WAIT_END (R116) of one entry -/
  | dataRetryWaitEnd (k : Key)
  /-- MIRROR_WAIT_TIMEOUT (R135) of one entry -/
  | mirrorWaitTimeout (k : Key)
  /-- ASLEEP_PLACED (R162) -/
  | asleepPlaced
  /-- SLEEP_RETRY_HOLD_EXPIRY (R163) -/
  | sleepRetryHoldExpiry
  /-- WATCH_TAKE_TEST (R166) -/
  | watchTakeTest
  /-- TAKE_HOLD_OFF_EXPIRY (R166) -/
  | takeHoldOffExpiry
  /-- TERM_TIMER_EXPIRY (R167) -/
  | termTimerExpiry
  /-- PASS_CHECK (R167) -/
  | passCheck
  /-- ABSENCE_TEST (R168) -/
  | absenceTest
  /-- ABSENCE_HOLD_EXPIRY (R168) of one station -/
  | absenceHoldExpiry (who : Station)
  /-- WAKING_MARK_EXPIRY (R170) of one station -/
  | wakingMarkExpiry (who : Station)
  /-- WAKE_REPEAT (R171) of one station -/
  | wakeRepeat (who : Station)
  /-- PROXY_TIMEOUT (R173) of one proxy entry -/
  | proxyTimeout (target : Station) (k : Key)
  /-- FORWARD_RETRY (R172) of one proxy entry -/
  | forwardRetry (target : Station) (k : Key)
  /-- TICK_ADVANCE (R25) -/
  | tickAdvance
  /-- ARBITRATION_WON (R19) -/
  | arbitrationWon
  deriving DecidableEq, Repr

end Sys2Proof
end

