-- ==== Sys2Proof/WellFormed.lean ====
section
/-!
DEFINITION. Which commands the outside can send: the bounds that the operand types do not carry. The machine runs every
command, well-formed or not; these checks say which operands a line, a drive or a memory can produce.
-/

namespace Sys2Proof

/-- A payload is at most 520 bytes (section 1.2, length field). -/
def payloadOk (p : List Byte) : Bool := p.length ≤ 520

/-- A block is 512 bytes (00_scope section 4). -/
def blockOk (b : List Byte) : Bool := b.length == 512

/-- A lane reply carries at most 64 blocks, each of 512 bytes (R74). -/
def LaneReply.wellFormed : LaneReply → Bool
  | .ok bs => bs.length ≤ 64 && bs.all blockOk
  | .mediaError _ bs => bs.length ≤ 63 && bs.all blockOk

/-- A frame's payload has the length its header names, where that is 520 or less (R3, R7). -/
def Frame.wellFormed (f : Frame) : Bool :=
  payloadOk f.payload && f.payload.length == f.header.length.toNat

/-- The check of a command's operands. -/
def Instr.wellFormed : Instr → Bool
  | .settingsReadDone (.bytes b) => b.length == 16
  | .checkError f => f.wellFormed
  | .claimReceived _ p _ | .releaseReceived _ p _ | .queryReceived _ p _ | .tableReceived _ p _
  | .awakeReceived _ p _ | .asleepReceived _ p _ | .wakeReceived _ p _ | .absentReceived _ p _
  | .watchTakeReceived _ p _ => payloadOk p
  | .watchPassReceived o t p _ | .doneReceived o t p _ | .mirrorAckReceived o t p _
  | .mirrorMissReceived o t p _ | .resyncBeginReceived o t p _ | .resyncEndReceived o t p _
  | .promoteReceived o t p _ | .readReceived o t p _ | .writeReceived o t p _ | .syncReceived o t p _
  | .resyncWriteReceived o t p _ | .cancelReceived o t p _ | .clearFaultReceived o t p _
  | .probeReceived o t p _ | .forwardReceived o t p _ | .dataReceived o t p _
  | .reportReceived o t p _ => payloadOk p && o != t
  | .driveReply r | .recordLoadReply r | .recordWriteReply r | .promotionWriteReply r
  | .chunkReadReply r => r.wellFormed
  | .resetAssert | .resetRelease _ | .settingsReadDone .notAcknowledged | .lineIdle | .arbitrationLost
  | .sendSpoiled | .sendOutcome _ _ | .fillErrorDrop | .malformedDrop _ | .tableTimerExpiry
  | .announcementTimerExpiry | .claimHoldOffExpiry | .deferralEnd | .deferralGiveUp | .readyLineHigh
  | .readyWaitExpiry | .identifyReply _ | .commandTimeout | .idleLimit | .spinDownSyncReply _
  | .chunkPagesTaken | .resyncRetryWaitEnd | .replyWaitExpiry | .resyncHoldOffExpiry
  | .resyncWakeIntervalExpiry | .conversionDone _ | .comparatorOver | .excursionFiltered
  | .switchHoldEnd _ | .trip | .dataTimeout _ | .ageLimit _ | .dataRetryWaitEnd _
  | .mirrorWaitTimeout _ | .asleepPlaced | .sleepRetryHoldExpiry | .watchTakeTest
  | .takeHoldOffExpiry | .termTimerExpiry | .passCheck | .absenceTest | .absenceHoldExpiry _
  | .wakingMarkExpiry _ | .wakeRepeat _ | .proxyTimeout _ _ | .forwardRetry _ _ | .tickAdvance
  | .arbitrationWon => true

/-- The payload bytes of the message that a command brings; none for a command that brings no message. -/
def Instr.payload : Instr → List Byte
  | .checkError f => f.payload
  | .claimReceived _ p _ | .releaseReceived _ p _ | .queryReceived _ p _ | .tableReceived _ p _
  | .awakeReceived _ p _ | .asleepReceived _ p _ | .wakeReceived _ p _ | .absentReceived _ p _
  | .watchTakeReceived _ p _
  | .watchPassReceived _ _ p _ | .doneReceived _ _ p _ | .mirrorAckReceived _ _ p _ | .mirrorMissReceived _ _ p _
  | .resyncBeginReceived _ _ p _ | .resyncEndReceived _ _ p _ | .promoteReceived _ _ p _ | .readReceived _ _ p _
  | .writeReceived _ _ p _ | .syncReceived _ _ p _ | .resyncWriteReceived _ _ p _ | .cancelReceived _ _ p _
  | .clearFaultReceived _ _ p _ | .probeReceived _ _ p _ | .forwardReceived _ _ p _ | .dataReceived _ _ p _
  | .reportReceived _ _ p _ => p
  | _ => []

end Sys2Proof
end

