-- ==== Sys2Proof/Decode.lean ====
section
/-!
DEFINITION. The command that a word spells by the bits of spec/opcode_table.json. The table gives no row any bits
("fields": [] and no "fixed" in all 80 rows), so no word spells a command.
-/

namespace Sys2Proof

/-- The table gives bits to no row: every word is refused. -/
def decodeTableWord (_nbits _w : Nat) : Option Instr := none

end Sys2Proof
end

