-- ==== Sys2Proof/Machine/State.lean ====
section
/-!
DEFINITION. Everything the spec gives the station to hold, as plain data, and its values after reset.
-/

namespace Sys2Proof.Machine

/-! ## Names -/

/-- Station power states (R160), in the order of R177's station summary. -/
inductive PowerState where
  | starting | unset | listening | sleeping | resuming
  deriving DecidableEq, Repr

/-- Drive states (R66, R67). -/
inductive DriveState where
  | off | spinUp | ready | spinDown | fault
  deriving DecidableEq, Repr

/-- Fault causes (R66, R80). -/
inductive FaultCause where
  | overcurrent | spinUpFail | driveTimeout | size | expelled
  deriving DecidableEq, Repr

/-- Mirror roles (R121), and not loaded. -/
inductive Role where
  | single | primary | secondary | notLoaded
  deriving DecidableEq, Repr

/-- Link values (R121, R123, R124), in the order of R177. -/
inductive Link where
  | none | unloaded | apart | resyncing | inStep | mismatched | following
  deriving DecidableEq, Repr

/-- States of a presence entry (R27). -/
inductive PresenceState where
  | unknown | listening | sleeping | absent
  deriving DecidableEq, Repr

/-- Kind of a presence entry (R27). -/
inductive StationKind where
  | bay | other
  deriving DecidableEq, Repr

/-- Own claim states (R43). -/
inductive ClaimState where
  | none | asking | waiting | spinUnits | runUnits | releasing
  deriving DecidableEq, Repr

/-- Census states (R42). -/
inductive Census where
  | incomplete | complete
  deriving DecidableEq, Repr

/-- Results of the settings test (R175). -/
inductive SettingsResult where
  | good | missing | marker | check | range
  deriving DecidableEq, Repr

/-- Ranges of a conversion (R84, R86). -/
inductive Gain where
  | x4 | x1
  deriving DecidableEq, Repr

/-- The two trip levels (R88). -/
inductive TripLevel where
  | spinUp | run
  deriving DecidableEq, Repr

/-- Statuses of a DONE (R117), in the order of their numbers. -/
inductive Status where
  | ok | okDegraded | cancelled | range | media | driveFault | noPower | dataTimeout | stale | role
  | notAwake | denied | undelivered
  deriving DecidableEq, Repr

/-- Kinds of a queue entry (R98); a RESYNC_BEGIN holds its epoch (R146). -/
inductive EntryKind where
  | read | write | sync | resyncIn | replica | resyncBegin (epoch : Nat) | promote
  deriving DecidableEq, Repr

/-- States of a queue entry (R98, R100). -/
inductive EntryState where
  | dataIn | queued | running | sending | waitMirror | ending
  deriving DecidableEq, Repr

/-- Record conditions (R139). -/
inductive RecordCond where
  | notLoaded | loading | opening | opened | closed
  deriving DecidableEq, Repr

/-- States of the resync engine (R144). -/
inductive EngineState where
  | idle | beginning | beginWait | copying | ending
  deriving DecidableEq, Repr

/-- Steps of a chunk (R144). -/
inductive ChunkStep where
  | waitPages | read | send | reply
  deriving DecidableEq, Repr

/-- The six send slots (R17). -/
inductive SlotId where
  | budget | presence | watch | request | mirror | resync
  deriving DecidableEq, Repr

/-- What the station drives in an answer slot (R10, R12): BUSY is an objection that the BUSY-given counter counts. -/
inductive Answer where
  | nothing | acknowledge | objection | busy
  deriving DecidableEq, Repr

/-- Outcomes of an own message (R16); a broadcast's acknowledge bit is reported with the outcome. -/
inductive SendOutcome where
  | taken | busy | unanswered | inForce (acked : Bool) | objected (acked : Bool) | spoiled
  deriving DecidableEq, Repr

/-- A withdrawal asked for the message on the line (R19). -/
inductive Withdrawal where
  | notAsked | held | refused
  deriving DecidableEq, Repr

/-- Why a RELEASE is sent: settling (R62), giving everything back (R57, R63), giving up a place in the list (R61). -/
inductive ReleaseWhy where
  | settle | full | giveUp
  deriving DecidableEq, Repr

/-- Who asked for a WAKE: the watch unit (R171), a resync wake or a read wake of the mirror unit (R155). -/
inductive WakeWhy where
  | proxy | resync | read
  deriving DecidableEq, Repr

/-! ## Records of the blocks -/

/-- The settings in force (R174); the partner byte is kept whole, because it is tested only in modes 1 and 2. -/
structure Settings where
  budget : Nat
  spinCost : Nat
  runCost : Nat
  mode : Role
  partner : Byte
  freshPair : Bool
  idleLimit : Nat
  sleepDelay : Nat
  watchTerm : Nat
  runTrip : Nat
  spinTrip : Nat
  filterWidth : Nat
  tempLimit : Nat
  wakeThreshold : Nat
  deriving DecidableEq, Repr

/-- One entry of the presence table (R27). -/
structure PresenceEntry where
  state : PresenceState
  kind : StationKind
  lastHeard : Tick
  drive : DriveState
  role : Role
  epoch : Nat
  behind : Bool
  usable : BlockNo
  duty : Bool
  budget : Nat
  holding : Nat
  deriving DecidableEq, Repr

/-- What a proxy entry or a FORWARD asks for (R106, R169). -/
inductive ProxyReq where
  | read (start : BlockNo) (count : Nat)
  | probe (item : Nat)
  deriving DecidableEq, Repr

/-- A message waiting in a slot or in an outgoing list, with what its owner must remember of it. TABLE and AWAKE are
filled at the start bit (R20). -/
inductive OutMsg where
  | claim (units : Nat)
  | release (units : Nat) (withdraw : Bool) (why : ReleaseWhy)
  | query
  | table (querier : Station)
  | awake
  | asleep
  | wake (mask : BitVec 16) (why : WakeWhy)
  | absent (who : Station)
  | watchTake
  | watchPass (dest : Station)
  | forward (dest : Station) (key : Key) (req : ProxyReq)
  | done (dest : Station) (tag : Tag) (status : Status) (cancelLate : Bool) (via onBehalf : Option Station)
  | data (dest : Station) (tag : Tag) (index : Nat) (resync : Bool) (bytes : List Byte)
  | report (dest : Station) (tag : Tag) (item : Nat) (contents : List Byte)
  | mirrorAck (dest : Station) (key : Key) (start : BlockNo) (attempts : Nat) (answersEntry : Bool)
  | mirrorMiss (dest : Station) (key : Key) (start : BlockNo) (count attempts : Nat) (answersEntry : Bool)
  | resyncBegin (dest : Station) (tag : Tag) (epoch : Nat)
  | resyncEnd (dest : Station) (epoch : Nat) (rejoin : Bool)
  | resyncWrite (dest : Station) (tag : Tag) (start : BlockNo) (count : Nat)
  deriving DecidableEq, Repr

/-- The six send slots (R17). -/
structure Slots where
  budget : Option OutMsg
  presence : Option OutMsg
  watch : Option OutMsg
  request : Option OutMsg
  mirror : Option OutMsg
  resync : Option OutMsg
  deriving DecidableEq, Repr

/-- The transmission in progress: slot and message, the frame as its start bit fixed it (R20), whether the arbitration
field has been won (R5, R19), and the withdrawal asked for it (R19). -/
structure Sending where
  slot : SlotId
  msg : OutMsg
  frame : Frame
  won : Bool
  withdrawal : Withdrawal
  deriving DecidableEq, Repr

/-- The bus port (R17, R24). `idle` says that the line has been counted idle and that nothing has begun on it since (R2). -/
structure BusPort where
  slots : Slots
  sending : Option Sending
  answer : Answer
  idle : Bool
  checkErrors : Nat
  busyGiven : Nat
  spoiled : Nat
  arbLosses : Nat
  deriving DecidableEq, Repr

/-- The presence unit's own announcement state (R31, R32) and mismatch counter (R33). -/
structure Announcer where
  timer : Option Tick
  again : Bool
  mismatches : Nat
  deriving DecidableEq, Repr

/-- An item of the waiters list (R41). -/
structure Waiter where
  station : Station
  units : Nat
  deriving DecidableEq, Repr

/-- The budget unit's shelf-wide tables and values (R40 to R42). -/
structure Shelf where
  holdings : Vector Nat 16
  waiters : List Waiter
  budget : Nat
  census : Census
  watch : Option Station
  adopted : Bool
  deriving DecidableEq, Repr

/-- The budget unit's own claim and its outgoing list (R42 to R44, R53, R58, R61, R63). -/
structure ClaimUnit where
  state : ClaimState
  holdOff : Option Tick
  out : List OutMsg
  tableTimer : Option Tick
  giveUp : Bool
  fullWanted : Bool
  deriving DecidableEq, Repr

/-- The mirror record's fields (R138). -/
structure RecordFields where
  role : Role
  epoch : Nat
  partner : Byte
  regionSize : Nat
  clean : Bool
  dirty : BitVec 256
  deriving DecidableEq, Repr

/-- Standing calls for a record write, one for each event of R142 but the entry into SPIN_DOWN. -/
structure RecordCalls where
  opening : Bool
  roleChange : Bool
  mark : Bool
  writeQueued : Bool
  clean : Bool
  deriving DecidableEq, Repr

/-- Drive lane commands (R74). -/
inductive LaneCmd where
  | identify
  | read (start : BlockNo) (count : Nat)
  | write (start : BlockNo) (count : Nat)
  | sync
  deriving DecidableEq, Repr

/-- Who sent the lane command (R74). A record write remembers what it wrote and the calls it answered (R143); a chunk
read whose resync has stopped keeps the lane as `stoppedChunk` (R153). -/
inductive Requester where
  | port
  | recordLoad
  | recordWrite (fields : RecordFields) (answered : RecordCalls)
  | promotionWrite (fields : RecordFields)
  | entry (key : Key)
  | chunk
  | stoppedChunk
  deriving DecidableEq, Repr

/-- The command in flight (R66, R75). -/
structure Flight where
  cmd : LaneCmd
  requester : Requester
  start : Tick
  deriving DecidableEq, Repr

/-- The drive port (R66). `hotStop` is the model's own (log 43): HOT was reported in READY with a command in flight, so
that command's end brings SPIN_DOWN (R79). -/
structure DrivePort where
  state : DriveState
  cause : Option FaultCause
  powered : Bool
  deferral : Option Tick
  readyWait : Option Tick
  usable : BlockNo
  flight : Option Flight
  idle : Option Nat
  offSince : Tick
  need : Bool
  resyncWait : Tick
  hotStop : Bool
  deriving DecidableEq, Repr

/-- The trip comparator (R88 to R90): no level while disarmed. -/
structure Comparator where
  level : Option TripLevel
  hold : Bool
  counting : Bool
  deriving DecidableEq, Repr

/-- A sample record (R87). -/
structure SampleRecord where
  value : Nat
  gain : Gain
  overFlag : Bool
  sequence : BitVec 8
  valid : Bool
  deriving DecidableEq, Repr

/-- The sampling sequencer, the records, HOT and the trip counter (R85 to R87, R93, R94). -/
structure Sampler where
  channel : Fin 6
  gain : Gain
  records : Vector SampleRecord 6
  hot : Bool
  trips : Nat
  deriving DecidableEq, Repr

/-- Start and count of an entry (R98). -/
structure Extent where
  start : BlockNo
  count : Nat
  deriving DecidableEq, Repr

/-- Send position, attempts on the piece, and its retry wait with the tick of the BUSY outcome (R98, R116). -/
structure SendPos where
  pos : Nat
  attempts : Nat
  retry : Option Tick
  deriving DecidableEq, Repr

/-- An entry of the request queue (R98). -/
structure Entry where
  key : Key
  kind : EntryKind
  extent : Option Extent
  state : EntryState
  pages : List Page
  pieces : List Nat
  lastPiece : Option Tick
  queued : Option Tick
  forwardedBy : Option Station
  cancelLate : Bool
  ackEarly : Bool
  send : Option SendPos
  status : Option Status
  deriving DecidableEq, Repr

/-- An item of the request unit's outgoing list (R115). -/
inductive ReqOut where
  | entryDone (key : Key)
  | clearDone (key : Key) (status : Status)
  | piece (key : Key)
  | report (key : Key) (item : Nat)
  deriving DecidableEq, Repr

/-- The request unit (R98, R115, R116). -/
structure RequestUnit where
  queue : List Entry
  out : List ReqOut
  undelivered : Nat
  deriving DecidableEq, Repr

/-- State of a copy item (R131). -/
inductive CopyState where
  | notExpected
  | missHeard
  | waiting (since : Tick)
  deriving DecidableEq, Repr

/-- An item of the copy table (R131). -/
structure CopyItem where
  key : Key
  extent : Extent
  state : CopyState
  deriving DecidableEq, Repr

/-- A pending promotion: its entry, and whether its write has been sent (R158, R159). -/
structure Promotion where
  key : Key
  sent : Bool
  deriving DecidableEq, Repr

/-- The mirror unit (R121, R139 to R142, R152, R155, R158). -/
structure MirrorUnit where
  role : Role
  epoch : Nat
  link : Link
  behind : Bool
  regionSize : Nat
  dirty : BitVec 256
  copies : List CopyItem
  partnerBehind : Bool
  wakeInterval : Option Tick
  out : List OutMsg
  rejoinRetry : Option Tick
  cond : RecordCond
  image : Option RecordFields
  notedBehind : Bool
  calls : RecordCalls
  recordErrors : Nat
  blockStore : List Byte
  promotion : Option Promotion
  behindAnnounced : Bool
  readWake : Bool
  deriving DecidableEq, Repr

/-- The chunk in hand (R144, R148, R149): `sendPos` is none until its RESYNC-WRITE is taken, then the next piece. -/
structure Chunk where
  start : Nat
  count : Nat
  step : ChunkStep
  pages : List Page
  sendPos : Option Nat
  deriving DecidableEq, Repr

/-- The resync engine (R144). -/
structure ResyncEngine where
  state : EngineState
  region : Option (Fin 256)
  cursor : Fin 256
  chunk : Option Chunk
  redo : Bool
  tagCounter : Tag
  outstanding : Option Tag
  replyWait : Option Tick
  holdOff : Option Tick
  redoCount : Nat
  ready : Bool
  retry : Option Tick
  readStarted : Bool
  orphans : List Page
  deriving DecidableEq, Repr

/-- The watch unit's marks for one station (R161). -/
structure WatchMarks where
  waking : Option Tick
  wakeWanted : Bool
  lastWake : Option Tick
  absenceHold : Option Tick
  deriving DecidableEq, Repr

/-- State of a proxy entry (R169): HELD, or FORWARDING in step SENDING or in step RETRY since a tick. -/
inductive ProxyState where
  | held
  | sending
  | retry (since : Tick)
  deriving DecidableEq, Repr

/-- A proxy entry (R169). `expired` and `recalled` wait for the outcome of a FORWARD that could not be withdrawn at
once (R173, R169). -/
structure ProxyEntry where
  target : Station
  key : Key
  req : ProxyReq
  arrival : Tick
  state : ProxyState
  expired : Bool
  recalled : Bool
  deriving DecidableEq, Repr

/-- The watch unit (R161). -/
structure WatchUnit where
  listeningSince : Tick
  sleepRetry : Option Tick
  takeHold : Option Tick
  term : Option (BitVec 32)
  passCheck : Option Tick
  marks : Vector WatchMarks 16
  proxy : List ProxyEntry
  out : List OutMsg
  deriving DecidableEq, Repr

/-- The whole station, and the queue of commands that wait (`pending`, first in, first out). -/
structure State where
  resetAsserted : Bool
  station : Station
  power : PowerState
  settingsResult : Option SettingsResult
  settings : Option Settings
  tick : Tick
  seconds : BitVec 32
  bus : BusPort
  peers : Vector PresenceEntry 16
  announce : Announcer
  shelf : Shelf
  claim : ClaimUnit
  drive : DrivePort
  comp : Comparator
  supply : Sampler
  request : RequestUnit
  mirror : MirrorUnit
  engine : ResyncEngine
  watch : WatchUnit
  buffer : List Host.Cell
  pending : List Instr
  deriving DecidableEq, Repr

/-- No command stops the station with a fault: what the manual calls faults is state (drive FAULT, UNSET). -/
inductive Fault where
  deriving DecidableEq, Repr

/-- Refusals. -/
inductive Refusal where
  /-- Raised by `exec` for a command that has no meaning yet; safe. No arm raises it in this model. -/
  | notModelled (mnemonic : String)
  deriving DecidableEq, Repr

/-! ## Values after reset -/

/-- Six empty slots (R21). -/
def Slots.empty : Slots := ⟨none, none, none, none, none, none⟩

/-- The bus port after reset (R2, R21, R24). -/
def BusPort.reset : BusPort :=
  { slots := .empty, sending := none, answer := .nothing, idle := false, checkErrors := 0, busyGiven := 0, spoiled := 0,
    arbLosses := 0 }

/-- An entry of the presence table after reset (R38), heard at `t` (R39). -/
def PresenceEntry.fresh (t : Tick) : PresenceEntry :=
  { state := .unknown, kind := .other, lastHeard := t, drive := .off, role := .notLoaded, epoch := 0, behind := false,
    usable := 0, duty := false, budget := 0, holding := 0 }

/-- The presence unit after reset (R38). -/
def Announcer.reset : Announcer := { timer := none, again := false, mismatches := 0 }

/-- The tables and values of the budget unit after reset (R40 to R42). -/
def Shelf.reset : Shelf :=
  { holdings := Vector.replicate 16 0, waiters := [], budget := 0, census := .incomplete, watch := none, adopted := false }

/-- The own claim after reset (R42, R44). -/
def ClaimUnit.reset : ClaimUnit :=
  { state := .none, holdOff := none, out := [], tableTimer := none, giveUp := false, fullWanted := false }

/-- The drive port after reset (R66). -/
def DrivePort.reset : DrivePort :=
  { state := .off, cause := none, powered := false, deferral := none, readyWait := none, usable := 0, flight := none,
    idle := none, offSince := 0, need := false, resyncWait := 0, hotStop := false }

/-- The trip comparator after reset: disarmed (R89). -/
def Comparator.reset : Comparator := { level := none, hold := false, counting := false }

/-- A sample record after reset (R87). -/
def SampleRecord.reset : SampleRecord := { value := 0, gain := .x4, overFlag := false, sequence := 0, valid := false }

/-- The sampler after reset (R85, R87, R93, R94). -/
def Sampler.reset : Sampler :=
  { channel := 0, gain := .x4, records := Vector.replicate 6 .reset, hot := false, trips := 0 }

/-- The request unit after reset (R120). -/
def RequestUnit.reset : RequestUnit := { queue := [], out := [], undelivered := 0 }

/-- No record write is called for. -/
def RecordCalls.quiet : RecordCalls :=
  { opening := false, roleChange := false, mark := false, writeQueued := false, clean := false }

/-- The mirror unit after reset (R121, R139, R152, R155, R158), with the block store given: reset gives it no value. -/
def MirrorUnit.reset (store : List Byte) : MirrorUnit :=
  { role := .notLoaded, epoch := 0, link := .unloaded, behind := false, regionSize := 0, dirty := 0, copies := [],
    partnerBehind := false, wakeInterval := none, out := [], rejoinRetry := none, cond := .notLoaded, image := none,
    notedBehind := false, calls := .quiet, recordErrors := 0, blockStore := store, promotion := none,
    behindAnnounced := false, readWake := false }

/-- The resync engine after reset (R144). -/
def ResyncEngine.reset : ResyncEngine :=
  { state := .idle, region := none, cursor := 0, chunk := none, redo := false, tagCounter := 0, outstanding := none,
    replyWait := none, holdOff := none, redoCount := 0, ready := false, retry := none, readStarted := false, orphans := [] }

/-- The watch unit's marks of one station, all clear (R161). -/
def WatchMarks.clear : WatchMarks := { waking := none, wakeWanted := false, lastWake := none, absenceHold := none }

/-- The watch unit after reset and on resuming (R161). -/
def WatchUnit.reset : WatchUnit :=
  { listeningSince := 0, sleepRetry := none, takeHold := none, term := none, passCheck := none,
    marks := Vector.replicate 16 .clear, proxy := [], out := [] }

/-- Every block at its reset values, for a station with strap number `n`. The contents of the buffer and of the block
store, which reset does not touch, and the queue of commands are given. -/
def State.resetWith (n : Station) (buffer : List Host.Cell) (store : List Byte) (pending : List Instr) : State :=
  { resetAsserted := false, station := n, power := .starting, settingsResult := none, settings := none, tick := 0,
    seconds := 0, bus := .reset, peers := Vector.replicate 16 (.fresh 0), announce := .reset, shelf := .reset,
    claim := .reset, drive := .reset, comp := .reset, supply := .reset, request := .reset, mirror := .reset store,
    engine := .reset, watch := .reset, buffer := buffer, pending := pending }

/-- The station right after its first reset release: strap number 0 (log 6), buffer and block store reading 0
(logs 7, 8), no command waiting. -/
def State.reset : State := State.resetWith 0 [] (List.replicate 512 0) []

end Sys2Proof.Machine
end

