-- ==== Sys2Proof/Machine/Bytes.lean ====
section
/-!
DEFINITION. Byte order (high-order byte first, section 1.2) and bits (most significant first), and the line's bit level:
check field (R4), fill bits (R1), header form (R3).
-/

namespace Sys2Proof.Machine

/-- A number as one byte. -/
def byte (n : Nat) : Byte := BitVec.ofNat 8 n

/-- A number as two bytes, high-order first. -/
def be16 (n : Nat) : List Byte := [byte (n / 256), byte n]

/-- A 32-bit word as four bytes, high-order first. -/
def be32 (w : BitVec 32) : List Byte :=
  [w.extractLsb' 24 8, w.extractLsb' 16 8, w.extractLsb' 8 8, w.extractLsb' 0 8]

/-- Two bytes read high-order first. -/
def word16 (h l : Byte) : Nat := h.toNat * 256 + l.toNat

/-- Four bytes read high-order first. -/
def word32 (a b c d : Byte) : BitVec 32 := a ++ b ++ c ++ d

/-- A flag as a byte. -/
def flagByte (b : Bool) : Byte := if b then 1 else 0

/-- The bits of a word, most significant first. -/
def bitsOf {w : Nat} (x : BitVec w) : List Bool := (List.range w).map fun i => x.getMsbD i

/-- The bits of a byte sequence, in transmission order. -/
def bitsOfBytes (p : List Byte) : List Bool := p.flatMap bitsOf

/-- Eight bits, most significant first, as a byte; missing bits are 0. -/
def byteOfBits (bs : List Bool) : Byte := bs.foldl (fun acc b => (acc <<< 1) ||| (if b then 1 else 0)) 0

/-- One bit through the check register (R4). -/
def checkStep (r : BitVec 16) (b : Bool) : BitVec 16 :=
  let shifted := r <<< 1
  if xor b r.msb then shifted ^^^ 0x1021 else shifted

/-- The check value of a bit sequence (R4). -/
def checkOfBits (bs : List Bool) : BitVec 16 := bs.foldl checkStep 0xFFFF

/-- The 27 header bits in transmission order (section 1.2). -/
def headerBits (h : Header) : List Bool :=
  bitsOf h.cls ++ bitsOf h.origin ++ bitsOf h.target ++ bitsOf h.kind ++ bitsOf h.length

/-- The check value of a message: over its header and payload bits (R4). -/
def frameCheck (h : Header) (p : List Byte) : BitVec 16 := checkOfBits (headerBits h ++ bitsOfBytes p)

/-- The bits from the start bit to the end of the check field, without fill bits; dominant is 0 (R1). -/
def frameBits (f : Frame) : List Bool :=
  false :: (headerBits f.header ++ bitsOfBytes f.payload ++ bitsOf f.check)

/-- Fill bits put in: after every run of five equal levels one bit of the opposite level, which begins the next run
(R1). `lvl` and `n` are the level and length of the run so far. No fill bit follows the last check bit: R1's seven
recessive bit times are five check bits and the answer slot. -/
def fillFrom (lvl : Bool) (n : Nat) : List Bool → List Bool
  | [] => []
  | b :: bs =>
    if n = 5 then
      if b = !lvl then (!lvl) :: b :: fillFrom b 2 bs else (!lvl) :: b :: fillFrom b 1 bs
    else if b = lvl then b :: fillFrom b (n + 1) bs
    else b :: fillFrom b 1 bs

/-- A bit sequence as the line carries it, fill bits included (R1). -/
def fill : List Bool → List Bool
  | [] => []
  | b :: bs => b :: fillFrom b 1 bs

/-- Fill bits taken out again; none at six equal levels in a row (R1, R7). -/
def unfillFrom (lvl : Bool) (n : Nat) : List Bool → Option (List Bool)
  | [] => some []
  | b :: bs =>
    if n = 5 then (if b = lvl then none else unfillFrom b 1 bs)
    else (unfillFrom b (if b = lvl then n + 1 else 1) bs).map (b :: ·)

/-- What a receiver makes of the levels from the start bit on: the bits, or none for a fill error (R7). -/
def unfill : List Bool → Option (List Bool)
  | [] => some []
  | b :: bs => (unfillFrom b 1 bs).map (b :: ·)

/-- The levels on the line for a frame, from its start bit to the end of its check field. -/
def lineBits (f : Frame) : List Bool := fill (frameBits f)

/-- Kinds sent to all stations (section 1.9: CLAIM to WATCH-TAKE). -/
def broadcastKind (k : Nat) : Bool := k ≤ 8

/-- The class of each kind (section 1.9). -/
def classOfKind (k : Nat) : Nat :=
  if k ≤ 3 then 0 else if k ≤ 9 then 1 else if k ≤ 12 then 2 else if k ≤ 15 then 3
  else if k ≤ 22 then 4 else if k ≤ 24 then 5 else 6

/-- The header tests of R3, one clause each. -/
def headerMalformed (h : Header) : Bool :=
  h.cls.toNat == 7
  || (16 ≤ h.target.toNat && h.target.toNat ≤ 30)
  || 25 < h.kind.toNat
  || 520 < h.length.toNat
  || h.cls.toNat != classOfKind h.kind.toNat
  || (h.target.toNat == 31 && !broadcastKind h.kind.toNat)
  || (h.target.toNat ≤ 15 && broadcastKind h.kind.toNat)
  || h.target.toNat == h.origin.toNat

end Sys2Proof.Machine
end

