-- ==== Sys2Proof/Machine/Ops.lean ====
section
/-!
DEFINITION. The named operations over State: one update function per field, saturating counters, time, the buffer's
bytes and pages, the send slots and withdrawals.
-/

namespace Sys2Proof.Machine

/-! ## Updates of one field -/

def State.onBus (f : BusPort → BusPort) (s : State) : State := { s with bus := f s.bus }
def State.onPeers (f : Vector PresenceEntry 16 → Vector PresenceEntry 16) (s : State) : State :=
  { s with peers := f s.peers }
def State.onAnnounce (f : Announcer → Announcer) (s : State) : State := { s with announce := f s.announce }
def State.onShelf (f : Shelf → Shelf) (s : State) : State := { s with shelf := f s.shelf }
def State.onClaim (f : ClaimUnit → ClaimUnit) (s : State) : State := { s with claim := f s.claim }
def State.onDrive (f : DrivePort → DrivePort) (s : State) : State := { s with drive := f s.drive }
def State.onComp (f : Comparator → Comparator) (s : State) : State := { s with comp := f s.comp }
def State.onSupply (f : Sampler → Sampler) (s : State) : State := { s with supply := f s.supply }
def State.onRequest (f : RequestUnit → RequestUnit) (s : State) : State := { s with request := f s.request }
def State.onMirror (f : MirrorUnit → MirrorUnit) (s : State) : State := { s with mirror := f s.mirror }
def State.onEngine (f : ResyncEngine → ResyncEngine) (s : State) : State := { s with engine := f s.engine }
def State.onWatch (f : WatchUnit → WatchUnit) (s : State) : State := { s with watch := f s.watch }
def State.onBuffer (f : List Host.Cell → List Host.Cell) (s : State) : State := { s with buffer := f s.buffer }
def State.setPower (p : PowerState) (s : State) : State := { s with power := p }
def State.setSettings (r : SettingsResult) (c : Option Settings) (s : State) : State :=
  { s with settingsResult := some r, settings := c }
def State.setTime (t : Tick) (secs : BitVec 32) (s : State) : State := { s with tick := t, seconds := secs }
def State.setPending (q : List Instr) (s : State) : State := { s with pending := q }

/-! ## Counters and time -/

/-- A counter that stays at 65535 once it reaches it (R24). -/
def satInc (n : Nat) : Nat := if n < Config.counterMax then n + 1 else n

/-- Ticks since `since`, modulo 2^32 (R26). -/
def elapsed (now since : Tick) : Nat := (now - since).toNat

/-- The tick `n` ticks after `t` (R26). -/
def tickAfter (t : Tick) (n : Nat) : Tick := t + BitVec.ofNat 32 n

/-- The end tick `stop` has been reached. No interval is as long as half the count (R26). -/
def reached (now stop : Tick) : Bool := elapsed now stop < 2147483648

/-- A timer that was started has run for `n` ticks. -/
def expired (now : Tick) (n : Nat) : Option Tick → Bool
  | some start => n ≤ elapsed now start
  | none => false

/-- A hold that runs to an end tick has ended. -/
def ended (now : Tick) : Option Tick → Bool
  | some stop => reached now stop
  | none => false

/-! ## Messages made ready in one event -/

/-- An outgoing list parted at this event: what is left of `before`, the list before it, and what has joined since. A list
loses messages anywhere and gains them at the back. -/
def splitFresh {α : Type} [DecidableEq α] : List α → List α → List α × List α
  | [], l => ([], l)
  | _ :: _, [] => ([], [])
  | b :: bs, m :: ms =>
    if b = m then (m :: (splitFresh bs ms).1, (splitFresh bs ms).2) else splitFresh bs (m :: ms)

/-- A list in ascending order of a place below `n`; items of one place keep their order. -/
def inOrder {α : Type} (n : Nat) (place : α → Nat) (l : List α) : List α :=
  (List.range n).flatMap fun i => l.filter fun x => place x == i

/-! ## The buffer: bytes in canonical form -/

/-- What a byte that nothing has written reads as (log 7). -/
def unlistedByte : Byte := 0

/-- Canonical form: addresses strictly rising, and no entry that reads as an unlisted byte. -/
def memWf : List Host.Cell → Bool
  | [] => true
  | c :: rest => c.2 != unlistedByte && rest.all (fun d => c.1 < d.1) && memWf rest

/-- The byte at an address. -/
def readByte (m : List Host.Cell) (a : Nat) : Byte :=
  match m with
  | [] => unlistedByte
  | c :: rest => if c.1 = a then c.2 else readByte rest a

/-- The cells of a run of bytes from an address, unlisted values left out. -/
def cellsFrom (a : Nat) : List Byte → List Host.Cell
  | [] => []
  | b :: bs => if b = unlistedByte then cellsFrom (a + 1) bs else (a, b) :: cellsFrom (a + 1) bs

/-- A run of bytes written from an address. -/
def writeRun (m : List Host.Cell) (a : Nat) (bs : List Byte) : List Host.Cell :=
  m.filter (fun c => c.1 < a) ++ cellsFrom a bs ++ m.filter (fun c => a + bs.length ≤ c.1)

/-- A run of bytes read from an address. -/
def readRun (m : List Host.Cell) (a n : Nat) : List Byte := (List.range n).map fun i => readByte m (a + i)

/-- Exactly 512 bytes: what a drive block or a DATA piece holds (log 29). -/
def fit (bs : List Byte) : List Byte :=
  (bs ++ List.replicate (Config.pageBytes - bs.length) 0).take Config.pageBytes

/-- The address of a page's first byte. -/
def pageBase (p : Page) : Nat := p * Config.pageBytes

/-- One page written whole (R101). -/
def writePage (m : List Host.Cell) (p : Page) (bs : List Byte) : List Host.Cell := writeRun m (pageBase p) (fit bs)

/-- One page read whole. -/
def readPage (m : List Host.Cell) (p : Page) : List Byte := readRun m (pageBase p) Config.pageBytes

/-- Blocks into pages, in block order; a page without a block keeps what it holds (R74). -/
def writePages (m : List Host.Cell) : List Page → List (List Byte) → List Host.Cell
  | p :: ps, b :: bs => writePages (writePage m p b) ps bs
  | _, _ => m

/-! ## Pages -/

/-- The pages that entries, the chunk in hand and a stopped chunk read own (R101). -/
def State.ownedPages (s : State) : List Page :=
  s.request.queue.flatMap (·.pages)
    ++ (match s.engine.chunk with | some c => c.pages | none => [])
    ++ s.engine.orphans

/-- The free pages, lowest number first (R101; log 9). -/
def State.freePages (s : State) : List Page :=
  (List.range Config.pages).filter fun p => !s.ownedPages.contains p

/-! ## Send slots -/

def Slots.get (x : Slots) : SlotId → Option OutMsg
  | .budget => x.budget
  | .presence => x.presence
  | .watch => x.watch
  | .request => x.request
  | .mirror => x.mirror
  | .resync => x.resync

def Slots.set (x : Slots) (i : SlotId) (m : Option OutMsg) : Slots :=
  match i with
  | .budget => { x with budget := m }
  | .presence => { x with presence := m }
  | .watch => { x with watch := m }
  | .request => { x with request := m }
  | .mirror => { x with mirror := m }
  | .resync => { x with resync := m }

/-- The message in a slot. -/
def State.slot (i : SlotId) (s : State) : Option OutMsg := s.bus.slots.get i

/-- A message put in a slot, or the slot emptied. -/
def State.putSlot (i : SlotId) (m : Option OutMsg) (s : State) : State :=
  s.onBus fun b => { b with slots := b.slots.set i m }

/-- A slot holds a message of some form. -/
def State.slotHolds (i : SlotId) (p : OutMsg → Bool) (s : State) : Bool :=
  match s.slot i with
  | some m => p m
  | none => false

/-- The transmission in progress is this slot's. -/
def State.onLine (i : SlotId) (s : State) : Bool :=
  match s.bus.sending with
  | some t => t.slot == i
  | none => false

/-- R9: a counter of sent messages after one more; a station in UNSET or SLEEPING keeps its counters (log 42). -/
def State.sendCount (n : Nat) (s : State) : Nat := if s.power = .unset ∨ s.power = .sleeping then n else satInc n

/-- R19: a withdrawal of a message of some form from a slot. Waiting for an idle line it is taken at once (answer
true); on the line it is held until the arbitration field ends, or refused after the win. -/
def withdraw (i : SlotId) (p : OutMsg → Bool) (s : State) : Bool × State :=
  if s.slotHolds i p then
    match s.bus.sending with
    | some t =>
      if t.slot = i then
        (false, s.onBus fun b =>
          { b with sending := some { t with withdrawal := if t.won then .refused else .held } })
      else (true, s.putSlot i none)
    | none => (true, s.putSlot i none)
  else (false, s)

/-- What the station drives in the answer slot of the message just heard; a BUSY answer is counted (R10, R12), one that its own
transmitter fails to bring to the line too (log 46). The line that carried the message is not idle until it is counted again
(R2). -/
def State.answers (d : Answer) (s : State) : State :=
  s.onBus fun b =>
    { b with answer := d, idle := false, busyGiven := if d = .busy then satInc b.busyGiven else b.busyGiven }

/-- A list split off a message of some form: whether it held one, and the rest. -/
def dropFrom (p : OutMsg → Bool) (l : List OutMsg) : Bool × List OutMsg :=
  (l.any p, l.filter fun m => !p m)

/-! ## Entries -/

/-- The entry of a key. -/
def State.entry (k : Key) (s : State) : Option Entry := s.request.queue.find? fun e => e.key == k

/-- One entry changed in place. -/
def State.onEntry (k : Key) (f : Entry → Entry) (s : State) : State :=
  s.onRequest fun r => { r with queue := r.queue.map fun e => if e.key = k then f e else e }

/-- Write-like entries (R98). -/
def EntryKind.writeLike : EntryKind → Bool
  | .write | .resyncIn | .replica => true
  | .read | .sync | .resyncBegin _ | .promote => false

/-- The place in the queue of the entry of a key; the queue's length for none. -/
def placeIn (q : List Entry) (k : Option Key) : Nat := q.findIdx fun e => some e.key == k

/-- Drive work outstanding (R98). -/
def Entry.outstanding (e : Entry) : Bool :=
  match e.state with
  | .dataIn | .queued | .running => true
  | .sending | .waitMirror | .ending => false

/-- Two extents share a block (R98). -/
def Extent.overlaps (x y : Extent) : Bool :=
  x.start.toNat < y.start.toNat + y.count && y.start.toNat < x.start.toNat + x.count

end Sys2Proof.Machine
end

