-- ==== Sys2Proof/Machine/Operands.lean ====
section
/-!
DEFINITION. The operand forms: the payload of every message kind read from its bytes with the tests that make it
malformed, every message written as bytes, the settings lane and block (R174, R175, R178) and the mirror record (R138).
-/

namespace Sys2Proof.Machine

/-! ## Codes -/

def DriveState.code : DriveState → Nat
  | .off => 0 | .spinUp => 1 | .ready => 2 | .spinDown => 3 | .fault => 4

def DriveState.ofCode (n : Nat) : Option DriveState :=
  match n with
  | 0 => some .off | 1 => some .spinUp | 2 => some .ready | 3 => some .spinDown | 4 => some .fault | _ => none

def Role.code : Role → Nat
  | .single => 0 | .primary => 1 | .secondary => 2 | .notLoaded => 3

def Role.ofCode (n : Nat) : Option Role :=
  match n with
  | 0 => some .single | 1 => some .primary | 2 => some .secondary | 3 => some .notLoaded | _ => none

/-- Status numbers (R117). -/
def Status.code : Status → Nat
  | .ok => 0 | .okDegraded => 1 | .cancelled => 2 | .range => 3 | .media => 4 | .driveFault => 5 | .noPower => 6
  | .dataTimeout => 7 | .stale => 8 | .role => 9 | .notAwake => 10 | .denied => 11 | .undelivered => 12

def Status.ofCode (n : Nat) : Option Status :=
  match n with
  | 0 => some .ok | 1 => some .okDegraded | 2 => some .cancelled | 3 => some .range | 4 => some .media
  | 5 => some .driveFault | 6 => some .noPower | 7 => some .dataTimeout | 8 => some .stale | 9 => some .role
  | 10 => some .notAwake | 11 => some .denied | 12 => some .undelivered | _ => none

/-- A station number in one byte. -/
def stationOf (b : Byte) : Option Station := if h : b.toNat < 16 then some ⟨b.toNat, h⟩ else none

/-- A station number as a byte. -/
def stationByte (n : Station) : Byte := byte n.val

/-- A station number, or 255 for none (R54, R117, R177). -/
def optStationByte : Option Station → Byte
  | some n => stationByte n
  | none => 255

/-- A byte that is 0 or 1. -/
def flagOf (b : Byte) : Option Bool := if b = 0 then some false else if b = 1 then some true else none

/-- A count of blocks, 1 to 64 (R102). -/
def countOf (b : Byte) : Option Nat := if 1 ≤ b.toNat && b.toNat ≤ 64 then some b.toNat else none

/-! ## Payloads read (none: malformed) -/

/-- Payloads without a field: QUERY, ASLEEP, WATCH-TAKE, WATCH-PASS (R52, R162, R166, R167). -/
def parseEmpty : List Byte → Option Unit
  | [] => some ()
  | _ => none

/-- CLAIM (R45). -/
def parseClaim : List Byte → Option Nat
  | [u] => if u = 0 then none else some u.toNat
  | _ => none

/-- RELEASE (R48): units and withdraw flag. -/
def parseRelease : List Byte → Option (Nat × Bool)
  | [u, w] => (flagOf w).map fun f => (u.toNat, f)
  | _ => none

/-- The contents of a TABLE (R54). -/
structure TableBody where
  querier : Station
  budget : Nat
  watch : Option Station
  holdings : Vector Nat 16
  waiters : List Waiter
  deriving DecidableEq, Repr

/-- Waiters as pairs of bytes (R54); units 0 or a station above 15 make the TABLE malformed. -/
def parseWaiters : List Byte → Option (List Waiter)
  | [] => some []
  | [_] => none
  | st :: u :: rest =>
    match stationOf st, parseWaiters rest with
    | some n, some ws => if u = 0 then none else some (⟨n, u.toNat⟩ :: ws)
    | _, _ => none

/-- The sum of a holdings table (R40). -/
def sumOf (h : Vector Nat 16) : Nat := h.toList.sum

/-- No station twice in a list of waiters (R54). -/
def distinctWaiters : List Waiter → Bool
  | [] => true
  | w :: ws => ws.all (fun v => v.station != w.station) && distinctWaiters ws

/-- TABLE (R54), from origin `o`. -/
def parseTable (o : Station) (p : List Byte) : Option TableBody :=
  let at' := fun i => p.getD i 0
  let count := (at' 19).toNat
  let holdings : Vector Nat 16 := Vector.ofFn fun i => (at' (3 + i.val)).toNat
  let watch := at' 2
  match stationOf (at' 0), parseWaiters (p.drop 20) with
  | some q, some ws =>
    if p.length = 20 + 2 * count && count ≤ 16 && q != o && at' 1 != 0
        && (watch.toNat < 16 || watch = 255)
        && distinctWaiters ws && ws.all (fun w => holdings[w.station] == 0)
        && sumOf holdings ≤ (at' 1).toNat then
      some { querier := q, budget := (at' 1).toNat, watch := stationOf watch, holdings := holdings, waiters := ws }
    else none
  | _, _ => none

/-- The fields of an AWAKE (R30). -/
structure Announcement where
  bay : Bool
  drive : DriveState
  role : Role
  epoch : Nat
  behind : Bool
  usable : BlockNo
  duty : Bool
  budget : Nat
  holding : Nat
  deriving DecidableEq, Repr

/-- AWAKE (R30). -/
def parseAwake : List Byte → Option Announcement
  | [bay, dr, ro, eh, el, be, u3, u2, u1, u0, du, bu, ho] =>
    match flagOf bay, DriveState.ofCode dr.toNat, Role.ofCode ro.toNat, flagOf be, flagOf du with
    | some bay, some dr, some ro, some be, some du =>
      if ((word16 eh el == 0) == (ro == .notLoaded)) && bu != 0 then
        some { bay := bay, drive := dr, role := ro, epoch := word16 eh el, behind := be, usable := word32 u3 u2 u1 u0,
               duty := du, budget := bu.toNat, holding := ho.toNat }
      else none
    | _, _, _, _, _ => none
  | _ => none

/-- WAKE (R164): the station mask, mark n at bit n. -/
def parseWake : List Byte → Option (BitVec 16)
  | [h, l] => if word16 h l = 0 then none else some (BitVec.ofNat 16 (word16 h l))
  | _ => none

/-- ABSENT (R35), from origin `o`. -/
def parseAbsent (o : Station) : List Byte → Option Station
  | [b] => (stationOf b).bind fun n => if n = o then none else some n
  | _ => none

/-- The fields of a DONE (R117) that a receiver uses. -/
structure DoneBody where
  tag : Tag
  status : Status
  cancelLate : Bool
  via : Option Station
  onBehalf : Option Station
  deriving DecidableEq, Repr

/-- DONE (R117). -/
def parseDone : List Byte → Option DoneBody
  | tag :: st :: cl :: via :: rest =>
    match Status.ofCode st.toNat, flagOf cl with
    | some st, some cl =>
      if via.toNat < 16 || via = 255 then
        match rest with
        | [] => some { tag := tag, status := st, cancelLate := cl, via := stationOf via, onBehalf := none }
        | [b] => (stationOf b).map fun n =>
            { tag := tag, status := st, cancelLate := cl, via := stationOf via, onBehalf := some n }
        | _ => none
      else none
    | _, _ => none
  | _ => none

/-- MIRROR-ACK (R129): the write's name and start. -/
def parseMirrorAck : List Byte → Option (Key × BlockNo)
  | [o, t, s3, s2, s1, s0] => (stationOf o).map fun n => (⟨n, t⟩, word32 s3 s2 s1 s0)
  | _ => none

/-- MIRROR-MISS (R129): the write's name and extent. -/
def parseMirrorMiss : List Byte → Option (Key × Extent)
  | [o, t, s3, s2, s1, s0, c] =>
    match stationOf o, countOf c with
    | some n, some k => some (⟨n, t⟩, ⟨word32 s3 s2 s1 s0, k⟩)
    | _, _ => none
  | _ => none

/-- RESYNC-BEGIN (R145, R146): tag and epoch. -/
def parseResyncBegin : List Byte → Option (Tag × Nat)
  | [t, h, l] => if word16 h l = 0 then none else some (t, word16 h l)
  | _ => none

/-- RESYNC-END (R151, R152): epoch. -/
def parseResyncEnd : List Byte → Option Nat
  | [h, l] => if word16 h l = 0 then none else some (word16 h l)
  | _ => none

/-- PROMOTE, SYNC, CANCEL, CLEAR-FAULT (R158, R102, R119, R82): tag. -/
def parseTag : List Byte → Option Tag
  | [t] => some t
  | _ => none

/-- READ, WRITE, RESYNC-WRITE (R102): tag and extent. -/
def parseExtent : List Byte → Option (Tag × Extent)
  | [t, s3, s2, s1, s0, c] => (countOf c).map fun k => (t, ⟨word32 s3 s2 s1 s0, k⟩)
  | _ => none

/-- PROBE (R176): tag and item. -/
def parseProbe : List Byte → Option (Tag × Nat)
  | [t, i] => if i.toNat ≤ 4 then some (t, i.toNat) else none
  | _ => none

/-- FORWARD (R106) at station `self`: original origin and tag, and what is carried. -/
def parseForward (self : Station) : List Byte → Option (Key × ProxyReq)
  | [o, k, t, s3, s2, s1, s0, c] =>
    match stationOf o, countOf c with
    | some n, some cnt => if k = 16 && n != self then some (⟨n, t⟩, .read (word32 s3 s2 s1 s0) cnt) else none
    | _, _ => none
  | [o, k, t, i] =>
    match stationOf o with
    | some n => if k = 21 && n != self && i.toNat ≤ 4 then some (⟨n, t⟩, .probe i.toNat) else none
    | none => none
  | _ => none

/-- The fields of a DATA (R107). -/
structure DataBody where
  tag : Tag
  index : Nat
  resync : Bool
  bytes : List Byte
  deriving DecidableEq, Repr

/-- DATA (R107). -/
def parseData : List Byte → Option DataBody
  | t :: i :: r :: bytes =>
    match flagOf r with
    | some f =>
      if bytes.length = 512 && i.toNat ≤ 63 then some { tag := t, index := i.toNat, resync := f, bytes := bytes }
      else none
    | none => none
  | _ => none

/-- REPORT goes to no block (R22): any payload. -/
def parseReport (p : List Byte) : Option (List Byte) := some p

/-! ## Messages written -/

/-- The kind number of an own message (section 1.9). -/
def OutMsg.kind : OutMsg → Nat
  | .claim _ => 0 | .release _ _ _ => 1 | .query => 2 | .table _ => 3 | .awake => 4 | .asleep => 5 | .wake _ _ => 6
  | .absent _ => 7 | .watchTake => 8 | .watchPass _ => 9 | .done _ _ _ _ _ _ => 10 | .mirrorAck _ _ _ _ _ => 11
  | .mirrorMiss _ _ _ _ _ _ => 12 | .resyncBegin _ _ _ => 13 | .resyncEnd _ _ _ => 14 | .forward _ _ _ => 22
  | .data _ _ _ _ _ => 23 | .report _ _ _ _ => 24 | .resyncWrite _ _ _ _ => 25

/-- The station an own message is addressed to, none for all stations. -/
def OutMsg.dest : OutMsg → Option Station
  | .watchPass d | .forward d _ _ | .done d _ _ _ _ _ | .data d _ _ _ _ | .report d _ _ _ | .mirrorAck d _ _ _ _
  | .mirrorMiss d _ _ _ _ _ | .resyncBegin d _ _ | .resyncEnd d _ _ | .resyncWrite d _ _ _ => some d
  | .claim _ | .release _ _ _ | .query | .table _ | .awake | .asleep | .wake _ _ | .absent _ | .watchTake => none

/-- The fields of an AWAKE as bytes (R30). -/
def Announcement.bytes (x : Announcement) : List Byte :=
  [flagByte x.bay, byte x.drive.code, byte x.role.code] ++ be16 x.epoch ++ [flagByte x.behind] ++ be32 x.usable
    ++ [flagByte x.duty, byte x.budget, byte x.holding]

/-- The contents of a TABLE as bytes (R54). -/
def TableBody.bytes (x : TableBody) : List Byte :=
  [stationByte x.querier, byte x.budget, optStationByte x.watch] ++ x.holdings.toList.map byte
    ++ [byte x.waiters.length] ++ x.waiters.flatMap fun w => [stationByte w.station, byte w.units]

/-- What a FORWARD or a proxy entry carries, as bytes after the original origin (R106). -/
def ProxyReq.bytes (t : Tag) : ProxyReq → List Byte
  | .read s c => [16, t] ++ be32 s ++ [byte c]
  | .probe i => [21, t, byte i]

/-- The payload of an own message; TABLE and AWAKE are filled from what the owner's state gives (R20). -/
def OutMsg.payload (ann : Announcement) (tab : Station → TableBody) : OutMsg → List Byte
  | .claim u => [byte u]
  | .release u w _ => [byte u, flagByte w]
  | .query | .asleep | .watchTake | .watchPass _ => []
  | .table q => (tab q).bytes
  | .awake => ann.bytes
  | .wake m _ => be16 m.toNat
  | .absent n => [stationByte n]
  | .forward _ k r => stationByte k.origin :: r.bytes k.tag
  | .done _ t st cl via ob =>
    [t, byte st.code, flagByte cl, optStationByte via] ++ (match ob with | some n => [stationByte n] | none => [])
  | .data _ t i r bs => [t, byte i, flagByte r] ++ bs
  | .report _ t i c => [t, byte i] ++ c
  | .mirrorAck _ k st _ _ => [stationByte k.origin, k.tag] ++ be32 st
  | .mirrorMiss _ k st c _ _ => [stationByte k.origin, k.tag] ++ be32 st ++ [byte c]
  | .resyncBegin _ t e => t :: be16 e
  | .resyncEnd _ e _ => be16 e
  | .resyncWrite _ t st c => [t] ++ be32 st ++ [byte c]

/-- The header of an own message of station `self`. -/
def OutMsg.header (self : Station) (m : OutMsg) (len : Nat) : Header :=
  { cls := BitVec.ofNat 3 (classOfKind m.kind), origin := BitVec.ofNat 4 self.val,
    target := match m.dest with | some d => BitVec.ofNat 5 d.val | none => 31,
    kind := BitVec.ofNat 5 m.kind, length := BitVec.ofNat 10 len }

/-- The frame of an own message with a given payload: header, payload, check (section 1.2, R4). -/
def OutMsg.frame (self : Station) (m : OutMsg) (p : List Byte) : Frame :=
  let h := m.header self p.length
  { header := h, payload := p, check := frameCheck h p }

/-! ## The settings block -/

/-- What the SB410 does on the two lines of the settings lane, as their controller (R174, R178): it sends a byte and reads
the memory's acknowledge, or takes a byte and acknowledges it or not. -/
inductive LaneStep where
  | start
  | send (b : Byte)
  | take (acknowledge : Bool)
  | stop
  deriving DecidableEq, Repr

/-- The device address with the write bit or the read bit. -/
def deviceByte (read : Bool) : Byte := Config.settingsDevice ++ (if read then 1#1 else 0#1)

/-- R174: the one sequential read of the settings block from byte 0 of the serial memory. -/
def settingsTransaction : List LaneStep :=
  [.start, .send (deviceByte false), .send 0, .start, .send (deviceByte true)]
    ++ (List.range Config.settingsBytes).map (fun i => .take (i + 1 != Config.settingsBytes)) ++ [.stop]

/-- R175, first test: what the read gave, from the memory's acknowledges of the bytes sent to it and the bytes that came. -/
def readOf (acknowledges : List Bool) (bytes : List Byte) : SettingsRead :=
  if acknowledges = [true, true, true] ∧ bytes.length = Config.settingsBytes then .bytes bytes else .notAcknowledged

/-- A field of the block within bounds (R174). -/
def within (lo hi : Nat) (b : Byte) : Bool := lo ≤ b.toNat && b.toNat ≤ hi

/-- The tests of R175 in order, on the block read, for station `self`; the settings when all pass. -/
def testSettings (self : Station) : SettingsRead → SettingsResult × Option Settings
  | .notAcknowledged => (.missing, none)
  | .bytes b =>
    let x := fun i => b.getD i 0
    if b.length ≠ 16 then (.missing, none)
    else if x 0 ≠ 0xE5 then (.marker, none)
    else if (b.map (·.toNat)).sum % 256 ≠ 0xA5 then (.check, none)
    else
      match Role.ofCode (x 4).toNat with
      | some mode =>
        if within 1 255 (x 1) && within 1 127 (x 2) && within 1 (x 2).toNat (x 3) && mode != .notLoaded
            && (mode == .single || (within 0 15 (x 5) && (x 5).toNat != self.val))
            && within 0 1 (x 6) && within 1 255 (x 7) && within 1 24 (x 9) && within 0 15 (x 12)
            && within 30 80 (x 13) then
          (.good, some
            { budget := (x 1).toNat, spinCost := (x 2).toNat, runCost := (x 3).toNat, mode := mode, partner := x 5,
              freshPair := x 6 == 1, idleLimit := (x 7).toNat, sleepDelay := (x 8).toNat, watchTerm := (x 9).toNat,
              runTrip := (x 10).toNat, spinTrip := (x 11).toNat, filterWidth := (x 12).toNat,
              tempLimit := (x 13).toNat, wakeThreshold := (x 14).toNat })
        else (.range, none)
      | none => (.range, none)

/-! ## The mirror record -/

/-- The dirty map as 32 bytes, region 0 in the most significant bit of the first (R138). -/
def dirtyBytes (d : BitVec 256) : List Byte :=
  (List.range 32).map fun i => byteOfBits ((List.range 8).map fun j => d.getLsbD (8 * i + j))

/-- The dirty map read from 32 bytes. -/
def dirtyOf (bs : List Byte) : BitVec 256 :=
  (List.range 256).foldl
    (fun acc r => if (bs.getD (r / 8) 0).getMsbD (r % 8) then acc ||| (1#256 <<< r) else acc) 0

/-- Bytes 0 to 42 of the record block (R138). -/
def RecordFields.head (f : RecordFields) : List Byte :=
  [0xE5, 0x4D, byte f.role.code] ++ be16 f.epoch ++ [f.partner] ++ be32 (BitVec.ofNat 32 f.regionSize)
    ++ [flagByte f.clean] ++ dirtyBytes f.dirty

/-- The record block, 512 bytes (R138). -/
def RecordFields.block (f : RecordFields) : List Byte :=
  fit (f.head ++ be16 (checkOfBits (bitsOfBytes f.head)).toNat)

/-- What a load's OK reply holds (R140): the record's fields, or none where the record is unreadable whatever the
settings are. -/
def parseRecord (b : List Byte) : Option RecordFields :=
  let x := fun i => b.getD i 0
  match Role.ofCode (x 2).toNat, flagOf (x 10) with
  | some ro, some cl =>
    if x 0 = 0xE5 && x 1 = 0x4D && ro != .notLoaded && word16 (x 3) (x 4) != 0
        && (checkOfBits (bitsOfBytes (b.take 43))).toNat == word16 (x 43) (x 44) then
      some { role := ro, epoch := word16 (x 3) (x 4), partner := x 5,
             regionSize := (word32 (x 6) (x 7) (x 8) (x 9)).toNat, clean := cl, dirty := dirtyOf ((b.drop 11).take 32) }
    else none
  | _, _ => none

end Sys2Proof.Machine
end

