-- ==== Sys2Proof/Machine/Flags.lean ====
section
/-!
DEFINITION. The conditions and views the blocks compute from their state: who takes part (R9), watch duty (R165), the own
presence entry (R28), free units and admission (R46), need for spin-up (R68), runnability (R110), link (R123, R124), the
tests of the watch unit (R162, R166, R171).
-/

namespace Sys2Proof.Machine

/-! ## Station -/

/-- The bus port hands every message to the blocks: census running, RESUMING or LISTENING (R9). -/
def State.takesPart (s : State) : Bool :=
  !s.resetAsserted &&
    (match s.power with
     | .starting => s.settings.isSome
     | .listening | .resuming => true
     | .unset | .sleeping => false)

/-- The station holds watch duty (R165). -/
def State.duty (s : State) : Bool := s.power == .listening && s.shelf.watch == some s.station

/-- The mirror partner: the settings' station in modes 1 and 2 (R121, R174). -/
def State.partner (s : State) : Option Station :=
  match s.settings with
  | some c => if c.mode = .single then none else stationOf c.partner
  | none => none

/-! ## Presence -/

/-- The station's own presence entry (R28). -/
def State.ownEntry (s : State) : PresenceEntry :=
  { state := if s.power = .listening then .listening else .unknown
    kind := .bay
    lastHeard := s.tick
    drive := s.drive.state
    role := s.mirror.role
    epoch := s.mirror.epoch
    behind := s.mirror.behind
    usable := s.drive.usable
    duty := s.duty
    budget := s.shelf.budget
    holding := s.shelf.holdings[s.station] }

/-- The presence table as blocks and REPORTs read it. -/
def State.presence (n : Station) (s : State) : PresenceEntry := if n = s.station then s.ownEntry else s.peers[n]

/-- The AWAKE that the own entry gives (R30). -/
def State.announcement (s : State) : Announcement :=
  let e := s.ownEntry
  { bay := true, drive := e.drive, role := e.role, epoch := e.epoch, behind := e.behind, usable := e.usable,
    duty := e.duty, budget := e.budget, holding := e.holding }

/-- The TABLE for a querier (R54). -/
def State.tableFor (s : State) (q : Station) : TableBody :=
  { querier := q, budget := s.shelf.budget, watch := s.shelf.watch, holdings := s.shelf.holdings,
    waiters := s.shelf.waiters }

/-! ## Budget -/

/-- A station is in the waiters list. -/
def Shelf.waits (x : Shelf) (n : Station) : Bool := x.waiters.any fun w => w.station == n

/-- The test of R46: against free units, and for a station that is not the head against free less the head's units. -/
def Shelf.admits (x : Shelf) (n : Station) (u : Nat) : Bool :=
  match x.waiters with
  | [] => sumOf x.holdings + u ≤ x.budget
  | h :: _ =>
    if h.station = n then sumOf x.holdings + u ≤ x.budget else sumOf x.holdings + u + h.units ≤ x.budget

/-- The station's own holding (R40). -/
def State.ownHolding (s : State) : Nat := s.shelf.holdings[s.station]

/-- The spin-up cost from the settings. -/
def State.spinCost (s : State) : Nat := match s.settings with | some c => c.spinCost | none => 0

/-- The run cost from the settings. -/
def State.runCost (s : State) : Nat := match s.settings with | some c => c.runCost | none => 0

/-- The claim is wanted: need reported, drive OFF, not HOT (R58, R61). -/
def State.claimWanted (s : State) : Bool := s.drive.need && s.drive.state == .off && !s.supply.hot

/-- The conditions of R58 but for the own claim state. -/
def State.claimConditions (s : State) : Bool :=
  s.shelf.census == .complete && s.claimWanted && s.ownHolding == 0 && s.claim.holdOff.isNone
    && s.settings.isSome && s.spinCost ≤ s.shelf.budget

/-! ## Drive -/

/-- The shelf 12 V record is adequate (R70). -/
def State.adequate (s : State) : Bool :=
  s.supply.records[4].valid && Config.adequateSteps ≤ s.supply.records[4].value

/-- Any call for a record write stands (R142). -/
def RecordCalls.any (c : RecordCalls) : Bool := c.opening || c.roleChange || c.mark || c.writeQueued || c.clean

/-- A call that asks for clean clear stands (R142). -/
def RecordCalls.clear (c : RecordCalls) : Bool := c.opening || c.roleChange || c.mark || c.writeQueued

/-- The request unit's report of work that needs the drive (R109). -/
def State.requestWork (s : State) : Bool := s.request.queue.any fun e => e.state == .queued

/-- The mirror unit's report of work that needs the drive (R68, R140, R142, R145). -/
def State.mirrorWork (s : State) : Bool :=
  (s.mirror.cond == .notLoaded && (match s.settings with | some c => c.mode != .single | none => false))
    || s.mirror.calls.opening || s.mirror.calls.roleChange || s.mirror.calls.mark || s.engine.state != .idle

/-- The need for spin-up as its conditions stand (R68, R83). -/
def State.needNow (s : State) : Bool :=
  s.takesPart && s.drive.state == .off && s.drive.deferral.isNone && (s.requestWork || s.mirrorWork)

/-- Record work waits for the lane (R76, R77). -/
def State.recordWork (s : State) : Bool :=
  s.mirror.cond == .notLoaded || s.mirror.calls.any
    || (match s.mirror.promotion with | some p => !p.sent | none => false)

/-- The conditions under which the idle timer runs (R77). -/
def State.idleRuns (s : State) : Bool :=
  s.drive.state == .ready && s.drive.flight.isNone && s.request.queue.isEmpty && !s.recordWork
    && s.engine.chunk.isNone

/-- How long the drive has been off, none while it is not (R83). -/
def State.offFor (s : State) : Option Nat :=
  if s.drive.state = .off && s.drive.deferral.isNone then some (elapsed s.tick s.drive.offSince) else none

/-! ## Supply -/

/-- The drive 12 V current at which a level trips, in mA (R88). -/
def tripCurrent (level : Nat) : Nat := (level + 1) * Config.tripStep

/-- The settings' level for each of the two (R88). -/
def Settings.levelOf (c : Settings) : TripLevel → Nat
  | .spinUp => c.spinTrip
  | .run => c.runTrip

/-- The comparator's threshold in force, in mA; none while it is disarmed (R88, R89). -/
def State.threshold (s : State) : Option Nat :=
  match s.comp.level, s.settings with
  | some l, some c => some (tripCurrent (c.levelOf l))
  | _, _ => none

/-- The comparator's output at a drive 12 V current, in mA: over at the threshold itself (R88; log 44). -/
def State.isOver (current : Nat) (s : State) : Bool :=
  match s.threshold with
  | some t => t ≤ current
  | none => false

/-! ## Requests -/

/-- The reserved room that a request needs is there: the three tests of R103. -/
def State.room (k : Key) (count : Nat) (s : State) : Bool :=
  s.request.queue.length < Config.queueRoom && count ≤ s.freePages.length
    && !(s.request.queue.any fun e => e.key == k)

/-- The mirror unit reports its record in use for an entry of this kind (R139). -/
def State.recordInUseFor (k : EntryKind) (s : State) : Bool :=
  match s.mirror.cond with
  | .opened => true
  | .closed => !k.writeLike
  | .notLoaded | .loading | .opening => false

/-- The record is in use (R139). -/
def State.recordInUse (s : State) : Bool := s.mirror.cond == .opened || s.mirror.cond == .closed

/-- An older entry `x` holds back entry `e` (R110). -/
def hazard (x e : Entry) : Bool :=
  x.outstanding &&
    (match e.kind with
     | .sync => x.kind.writeLike
     | .read | .write | .resyncIn | .replica =>
       (match x.extent, e.extent with
        | some a, some b => a.overlaps b && (x.kind.writeLike || e.kind.writeLike)
        | _, _ => false)
     | .resyncBegin _ | .promote => false)

/-- The entries older than the one of a key. -/
def olderThan (k : Key) (q : List Entry) : List Entry := q.takeWhile fun e => e.key != k

/-- R110: the entry is runnable. -/
def State.runnable (e : Entry) (s : State) : Bool :=
  e.state == .queued && s.drive.state == .ready && s.recordInUseFor e.kind
    && !((olderThan e.key s.request.queue).any fun x => hazard x e)

/-- The run check of R111 that an entry fails. -/
def State.runFailure (e : Entry) (s : State) : Option Status :=
  match e.kind with
  | .write => if s.mirror.role = .secondary then some .role else none
  | .resyncIn =>
    if s.mirror.role ≠ .secondary ∨ some e.key.origin ≠ s.partner then some .role else none
  | .read => if s.mirror.role = .secondary ∧ s.mirror.behind then some .stale else none
  | .sync | .replica | .resyncBegin _ | .promote => none

/-- The extent passes the usable size, taken without wrap (R105). -/
def State.passesSize (x : Extent) (s : State) : Bool :=
  s.drive.usable != 0 && s.drive.usable.toNat < x.start.toNat + x.count

/-- The take check of R105 that a new entry fails, in its order. -/
def State.takeFailure (e : Entry) (s : State) : Option Status :=
  if (match e.extent with | some x => s.passesSize x | none => false) then some .range
  else if s.mirror.role ≠ .notLoaded ∧ s.runFailure e = some .role then some .role
  else if s.mirror.role ≠ .notLoaded ∧ s.runFailure e = some .stale then some .stale
  else if s.drive.state = .fault then some .driveFault
  else none

/-! ## Mirror -/

/-- Number of marks of the dirty map (R121, R122). -/
def countMarks (d : BitVec 256) : Nat := (List.range 256).countP fun r => d.getLsbD r

/-- The dirty count (R121). -/
def State.dirtyCount (s : State) : Nat := countMarks s.mirror.dirty

/-- The region size of a usable size: a 256th, rounded up (R122). -/
def regionSizeOf (usable : Nat) : Nat := (usable + 255) / 256

/-- Marks for regions `lo` to `hi`. -/
def regionRun (lo hi : Nat) : BitVec 256 := ((1#256 <<< (hi + 1 - lo)) - 1#256) <<< lo

/-- The regions that hold a block of an extent below the usable size (R122). -/
def regionsOf (size usable : Nat) (x : Extent) : BitVec 256 :=
  if size = 0 ∨ usable ≤ x.start.toNat ∨ x.count = 0 then 0
  else regionRun (x.start.toNat / size) ((min (x.start.toNat + x.count) usable - 1) / size)

/-- The regions an extent touches on this drive. -/
def State.regions (x : Extent) (s : State) : BitVec 256 := regionsOf s.mirror.regionSize s.drive.usable.toNat x

/-- The link as its inputs stand (R123, R124). -/
def State.linkNow (s : State) : Link :=
  match s.mirror.role with
  | .single => .none
  | .notLoaded => .unloaded
  | .primary =>
    if !s.recordInUse then .unloaded
    else match s.partner with
      | none => .apart
      | some p =>
        let e := s.presence p
        if e.state ≠ .listening ∨ e.role ≠ .secondary ∨ e.epoch ≠ s.mirror.epoch ∨ e.drive = .fault then .apart
        else if e.usable ≠ s.drive.usable then .mismatched
        else if s.mirror.dirty ≠ 0 then .resyncing
        else .inStep
  | .secondary =>
    if !s.recordInUse then .unloaded
    else match s.partner with
      | none => .apart
      | some p =>
        let e := s.presence p
        if e.state ≠ .listening ∨ e.role ≠ .primary ∨ e.epoch ≠ s.mirror.epoch ∨ s.drive.state = .fault then .apart
        else if e.usable ≠ s.drive.usable then .mismatched
        else .following

/-- The link in which a primary's partner copies its writes (R131, R132, R135). -/
def Link.together : Link → Bool
  | .inStep | .resyncing => true
  | .none | .unloaded | .apart | .mismatched | .following => false

/-- The partner is LISTENING with a drive not in FAULT (R158, R159). -/
def State.partnerServes (s : State) : Bool :=
  match s.partner with
  | some p => (s.presence p).state == .listening && (s.presence p).drive != .fault
  | none => false

/-! ## Watch -/

/-- The watch unit answers for a station: duty held, entry SLEEPING, waking mark clear (R170). -/
def State.answersFor (n : Station) (s : State) : Bool :=
  s.duty && n != s.station && s.peers[n].state == .sleeping && s.watch.marks[n].waking.isNone

/-- The take test of R166. -/
def State.takeTest (s : State) : Bool :=
  s.power == .listening && !s.duty && s.watch.takeHold.isNone &&
    (match s.shelf.watch with
     | none => true
     | some w => (s.presence w).state == .absent || Config.silenceTicks ≤ elapsed s.tick (s.presence w).lastHeard)

/-- A WAKE for one station: of the watch unit (R171) or of the mirror unit (R155). -/
def isWakeFor (n : Station) : OutMsg → Bool
  | .wake m _ => m == 1#16 <<< n.val
  | _ => false

/-- A message of some form waits in the watch unit's list or in the WATCH slot. -/
def State.watchPending (p : OutMsg → Bool) (s : State) : Bool := s.watch.out.any p || s.slotHolds .watch p

/-- A WAKE for a station is pending in the watch unit's or the mirror unit's list or slot (R171, R155). -/
def State.wakePending (n : Station) (s : State) : Bool :=
  s.watchPending (isWakeFor n) || s.mirror.out.any (isWakeFor n) || s.slotHolds .mirror (isWakeFor n)

/-- The test of R171 for one station. -/
def State.wakeTest (n : Station) (s : State) : Bool :=
  s.answersFor n
    && (s.watch.marks[n].wakeWanted || s.watch.proxy.any fun e => e.target == n)
    && !s.wakePending n
    && (match s.watch.marks[n].lastWake with
        | none => true
        | some t => Config.wakeRepeatTicks ≤ elapsed s.tick t)

/-- The sleep conditions of R162; `slotFree` says whether the WATCH slot counts as empty. -/
def State.sleepConditions (slotFree : Bool) (s : State) : Bool :=
  match s.settings with
  | none => false
  | some c =>
    s.power == .listening && c.sleepDelay != 0
      && c.sleepDelay * 100 ≤ elapsed s.tick s.watch.listeningSince
      && (match s.offFor with | some n => c.sleepDelay * 100 ≤ n | none => false)
      && !s.drive.need
      && s.request.queue.isEmpty && s.request.out.isEmpty
      && s.claim.state == .none
      && s.engine.state == .idle
      && !s.duty && !s.takeTest
      && (s.slot .request).isNone && (s.slot .mirror).isNone && (s.slot .resync).isNone && slotFree
      && s.mirror.out.isEmpty && s.watch.out.isEmpty
      && s.watch.sleepRetry.isNone

/-- Proxy entries and proxy DONEs not yet placed, counted together (R170). -/
def State.proxyLoad (s : State) : Nat :=
  s.watch.proxy.length + s.watch.out.countP fun m => match m with | .done _ _ _ _ _ _ => true | _ => false

end Sys2Proof.Machine
end

