-- ==== Sys2Proof/Machine/Budget.lean ====
section
/-!
DEFINITION. The budget unit (chapter 3): tables, the station's own claim, its outgoing list, census.
-/

namespace Sys2Proof.Machine

/-! ## The shelf's tables -/

/-- What became of a CLAIM in force (R46, R47). -/
inductive Verdict where
  | admitted
  | refused
  | untouched
  deriving DecidableEq, Repr

/-- R46, R47: a CLAIM of station `n` for `u` units decided in the tables. -/
def Shelf.decide (x : Shelf) (n : Station) (u : Nat) : Verdict × Shelf :=
  if x.holdings[n] ≠ 0 then (.untouched, x)
  else if x.budget < u then (.refused, x)
  else if x.admits n u then
    (.admitted, { x with holdings := x.holdings.set n u, waiters := x.waiters.filter fun w => w.station != n })
  else if x.waits n then
    (.refused, { x with waiters := x.waiters.map fun w => if w.station = n then { w with units := u } else w })
  else (.refused, { x with waiters := x.waiters ++ [⟨n, u⟩] })

/-- R48: a RELEASE of station `n`. -/
def Shelf.release (x : Shelf) (n : Station) (u : Nat) (withdrawFlag : Bool) : Shelf :=
  { x with holdings := x.holdings.set n (x.holdings[n] - u)
           waiters := if withdrawFlag then x.waiters.filter fun w => w.station != n else x.waiters }

/-- R49: an ASLEEP from station `n`, or an ABSENT naming it. -/
def Shelf.clearStation (x : Shelf) (n : Station) : Shelf :=
  { x with holdings := x.holdings.set n 0
           waiters := x.waiters.filter fun w => w.station != n
           watch := if x.watch = some n then none else x.watch }

/-- R50: watch duty moves to station `n`. -/
def Shelf.setWatch (x : Shelf) (n : Station) : Shelf := { x with watch := some n }

/-- R51: the tables at the start of a census, with the settings' budget. -/
def Shelf.censusStart (x : Shelf) (budget : Nat) : Shelf :=
  { x with holdings := Vector.replicate 16 0, waiters := [], budget := budget, census := .incomplete, watch := none,
           adopted := false }

/-- R55: the tables on adoption of a TABLE at station `self` whose settings budget is `own`. -/
def Shelf.adopt (x : Shelf) (t : TableBody) (self : Station) (own : Nat) : Shelf :=
  { x with holdings := t.holdings, waiters := t.waiters, budget := t.budget, census := .complete,
           watch := if t.watch = some self then none else t.watch, adopted := t.budget != own }

/-! ## The outgoing list -/

/-- A message made ready at the back of the budget unit's list (R44). -/
def budgetReady (m : OutMsg) (s : State) : State := s.onClaim fun c => { c with out := c.out ++ [m] }

/-- A message of some form taken out of the list, or withdrawn from the BUDGET slot; true when it is removed (R44). -/
def budgetRetract (p : OutMsg → Bool) (s : State) : Bool × State :=
  if s.claim.out.any p then (true, s.onClaim fun c => { c with out := c.out.filter fun m => !p m })
  else withdraw .budget p s

/-- A message of some form waits in the list or in the slot. -/
def State.budgetPending (p : OutMsg → Bool) (s : State) : Bool := s.claim.out.any p || s.slotHolds .budget p

def isClaim : OutMsg → Bool
  | .claim _ => true
  | _ => false

def isSettle : OutMsg → Bool
  | .release _ _ .settle => true
  | _ => false

def isOwnHolding : OutMsg → Bool
  | .claim _ | .release _ _ _ => true
  | _ => false

def isQuery : OutMsg → Bool
  | .query => true
  | _ => false

def isTableFor (q : Station) : OutMsg → Bool
  | .table p => p == q
  | _ => false

/-- The front message placed when the slot is empty (R17, R44). -/
def placeBudget (s : State) : State :=
  match s.slot .budget, s.claim.out with
  | none, m :: rest => (s.onClaim fun c => { c with out := rest }).putSlot .budget (some m)
  | _, _ => s

/-! ## Own claim -/

def setClaim (c : ClaimState) (s : State) : State := s.onClaim fun x => { x with state := c }

/-- RELEASE of the whole own holding made ready; RELEASING (R57, R63). -/
def releaseAll (s : State) : State := setClaim .releasing (budgetReady (.release s.ownHolding false .full) s)

/-- RELEASE of 0 units with the withdraw flag made ready; RELEASING (R57, R61). -/
def releasePlace (s : State) : State := setClaim .releasing (budgetReady (.release 0 true .giveUp) s)

/-- R61: the CLAIM was removed before it won arbitration. -/
def claimRemoved (s : State) : State :=
  if s.claim.state = .asking then
    let s := s.onClaim fun c => { c with giveUp := false }
    if s.shelf.waits s.station then releasePlace s else setClaim .none s
  else s

/-- R63: the settling RELEASE was removed after power had been removed. -/
def settleRemoved (s : State) : State :=
  if s.claim.fullWanted then releaseAll (s.onClaim fun c => { c with fullWanted := false }) else s

/-- R61: a claim that is no longer wanted is given up. -/
def giveUpClaim (s : State) : State :=
  match s.claim.state with
  | .asking =>
    let r := budgetRetract isClaim (s.onClaim fun c => { c with giveUp := true })
    if r.1 then claimRemoved r.2 else r.2
  | .waiting => releasePlace s
  | .none | .spinUnits | .runUnits | .releasing => s

/-- R63: the drive port reports that drive power has been removed. -/
def powerRemoved (s : State) : State :=
  match s.claim.state with
  | .spinUnits | .runUnits =>
    if s.budgetPending isSettle then
      let r := budgetRetract isSettle (s.onClaim fun c => { c with fullWanted := true })
      if r.1 then settleRemoved r.2 else r.2
    else releaseAll s
  | .none | .asking | .waiting | .releasing => s

/-- R62: spin-up has reached READY, and the station settles. -/
def settleHolding (s : State) : State :=
  if s.claim.state = .spinUnits then
    if s.runCost < s.spinCost then budgetReady (.release (s.spinCost - s.runCost) false .settle) s
    else setClaim .runUnits s
  else s

/-- R64: the budget unit's part of an expulsion. -/
def expelBudget (s : State) : State :=
  let s := s.onShelf fun x => x.clearStation s.station
  let s := setClaim .none (s.onClaim fun c => { c with giveUp := false, fullWanted := false })
  (budgetRetract isOwnHolding s).2

/-- R58, R60: the claim test; a CLAIM for the spin-up cost is made ready when it passes. -/
def testClaim (s : State) : State :=
  if s.claimConditions
      && (s.claim.state == .none || (s.claim.state == .waiting && s.shelf.admits s.station s.spinCost)) then
    setClaim .asking (budgetReady (.claim s.spinCost) (s.onClaim fun c => { c with giveUp := false }))
  else s

/-- R57: stray units, or a stray place in the list, are given back while the own claim state is NONE. -/
def releaseStray (s : State) : State :=
  if s.shelf.census = .complete ∧ s.claim.state = .none then
    if s.ownHolding ≠ 0 then releaseAll s
    else if s.shelf.waits s.station then releasePlace s
    else s
  else s

/-- The budget unit's tests after an event: stray units (R57), a claim no longer wanted (R61), a claim to make (R58,
R60); then the BUDGET slot (R44). -/
def settleBudget (s : State) : State :=
  let s := releaseStray s
  let s := if !s.claimWanted && !s.claim.giveUp then giveUpClaim s else s
  placeBudget (testClaim s)

/-! ## Outcomes of own messages -/

/-- R59: the station's own CLAIM decided in its own tables (in force), before the drive port is told. -/
def ownClaimDecided (u : Nat) (s : State) : Verdict × State :=
  let r := s.shelf.decide s.station u
  let s := s.onShelf fun _ => r.2
  match r.1 with
  | .admitted => (.admitted, setClaim .spinUnits (s.onClaim fun c => { c with giveUp := false }))
  | .refused =>
    let g := s.claim.giveUp
    let s := setClaim (if s.shelf.waits s.station then .waiting else .none)
      (s.onClaim fun c => { c with giveUp := false })
    (.refused, if g && s.claim.state == .waiting then releasePlace s else s)
  | .untouched => (.untouched, setClaim .none (s.onClaim fun c => { c with giveUp := false }))

/-- R59, R61: the own CLAIM came into force nowhere. -/
def ownClaimFailed (s : State) : State :=
  if s.claim.state = .asking then
    let g := s.claim.giveUp
    let s := setClaim (if s.shelf.waits s.station then .waiting else .none)
      (s.onClaim fun c => { c with giveUp := false })
    if g && s.claim.state == .waiting then releasePlace s else s
  else s

/-- R62, R63: the outcome of an own RELEASE whose effect on the tables has been applied. -/
def ownReleaseOutcome (why : ReleaseWhy) (wasInForce : Bool) (s : State) : State :=
  match why with
  | .settle =>
    if s.claim.fullWanted then releaseAll (s.onClaim fun c => { c with fullWanted := false })
    else if s.claim.state = .spinUnits then
      if wasInForce then setClaim .runUnits s
      else budgetReady (.release (s.spinCost - s.runCost) false .settle) s
    else s
  | .full =>
    if s.claim.state = .releasing then (if wasInForce then setClaim .none s else releaseAll s) else s
  | .giveUp =>
    if s.claim.state = .releasing then (if wasInForce then setClaim .none s else releasePlace s) else s

/-! ## Census -/

/-- QUERY made ready, unless one waits already (R44, R52). -/
def readyQuery (s : State) : State := if s.budgetPending isQuery then s else budgetReady .query s

/-- R51: a census begins. -/
def censusStart (s : State) : State :=
  let s := s.onShelf fun x => x.censusStart (match s.settings with | some c => c.budget | none => 0)
  readyQuery (s.onClaim fun c =>
    { c with state := .none, holdOff := none, tableTimer := none, giveUp := false, fullWanted := false })

/-- R52: a TABLE for a querier made ready, unless one waits already. -/
def readyTable (q : Station) (s : State) : State :=
  if s.budgetPending (isTableFor q) then s else budgetReady (.table q) s

/-- R55 but for what follows at the other units: adoption, the table timer, the pending QUERY. -/
def adoptTable (t : TableBody) (s : State) : State :=
  let s := s.onShelf fun x =>
    x.adopt t s.station (match s.settings with | some c => c.budget | none => 0)
  (budgetRetract isQuery (s.onClaim fun c => { c with tableTimer := none })).2

/-- R44, R163: the budget unit enters SLEEPING. -/
def sleepBudget (s : State) : State :=
  s.onClaim fun c => { c with state := .none, out := [], tableTimer := none, giveUp := false, fullWanted := false }

end Sys2Proof.Machine
end

