-- ==== Sys2Proof/Machine/Mirror.lean ====
section
/-!
DEFINITION. The mirror unit's marks, behind flag, wakes and outgoing list (chapter 7, R155), and the ends of queue
entries, which both the request unit and the mirror unit cause (R112 to R119, R128, R132 to R136).
-/

namespace Sys2Proof.Machine

/-! ## Marks and the behind flag -/

/-- Marks set on a PRIMARY: the map, the call of R142 when a mark is newly set in CLOSED, and the redo mark when the
current region is touched (R122, R150). A mark set while a clean write is on the lane calls when the record becomes CLOSED
(`callForMissed`, log 50). -/
def markRegions (m : BitVec 256) (s : State) : State :=
  if s.mirror.role = .primary ∧ m ≠ 0 then
    let changed := s.mirror.dirty ||| m ≠ s.mirror.dirty
    let s := s.onMirror fun x =>
      { x with dirty := x.dirty ||| m
               calls := if changed ∧ x.cond = .closed then { x.calls with mark := true } else x.calls }
    s.onEngine fun e =>
      { e with redo := e.redo || (match e.region with | some r => m.getLsbD r.val | none => false) }
  else s

/-- An extent marked (R122). -/
def markExtent (x : Extent) (s : State) : State := markRegions (s.regions x) s

/-- Every region marked (R141, R156). -/
def markAll (s : State) : State := markRegions (BitVec.allOnes 256) s

/-- The behind flag set on a SECONDARY; going from clear to set clears the behind-announced mark (R125, R152). -/
def setBehind (s : State) : State :=
  if s.mirror.role = .secondary ∧ s.mirror.behind = false then
    s.onMirror fun x => { x with behind := true, behindAnnounced := false }
  else s

/-- A message made ready at the back of the mirror unit's list (R130). -/
def mirrorReady (m : OutMsg) (s : State) : State := s.onMirror fun x => { x with out := x.out ++ [m] }

/-- R155: a read wake, for a READ that ended with STALE. -/
def readWake (s : State) : State :=
  match s.partner with
  | some p =>
    if s.mirror.role = .secondary ∧ (s.presence p).state ≠ .listening ∧ s.mirror.readWake = false then
      mirrorReady (.wake (1#16 <<< p.val) .read) (s.onMirror fun x => { x with readWake := true })
    else s
  | none => s

/-! ## Ends of entries -/

/-- An entry's copy item leaves the table (R131). -/
def dropCopy (k : Key) (s : State) : State :=
  s.onMirror fun x => { x with copies := x.copies.filter fun c => c.key != k }

/-- The statuses with which a WRITE may end although the secondary has written it (R136). -/
def marksAtEnd : Status → Bool
  | .cancelled | .media | .driveFault | .noPower => true
  | .ok | .okDegraded | .range | .dataTimeout | .stale | .role | .notAwake | .denied | .undelivered => false

/-- An entry moves to ENDING with a status, and its DONE joins the outgoing list (R115, R118); on a PRIMARY a WRITE
marks its extent as R136 gives and its copy item goes; a STALE READ may wake the partner (R105, R155). -/
def endEntry (k : Key) (st : Status) (s : State) : State :=
  match s.entry k with
  | none => s
  | some e =>
    let s := s.onEntry k fun e => { e with state := .ending, status := some st, send := none }
    let s := s.onRequest fun r => { r with out := r.out ++ [.entryDone k] }
    let s := if e.kind = .write then dropCopy k s else s
    let s :=
      if e.kind = .write ∧ marksAtEnd st then
        (match e.extent with | some x => markExtent x s | none => s)
      else s
    if st = .stale then readWake s else s

/-- R128: a REPLICA entry ends with MIRROR-ACK, or with MIRROR-MISS, which sets the behind flag. It is not answered by
DONE, so it takes no status in ENDING (log 35). -/
def endReplica (k : Key) (miss : Bool) (s : State) : State :=
  match s.entry k, s.partner with
  | some e, some p =>
    let x := e.extent.getD ⟨0, 0⟩
    let s := s.onEntry k fun e => { e with state := .ending }
    if miss then setBehind (mirrorReady (.mirrorMiss p k x.start x.count 0 true) s)
    else mirrorReady (.mirrorAck p k x.start 0 true) s
  | _, _ => s

/-- An entry that needs the drive ends with a status; a REPLICA with a miss (R113, R114, R128). -/
def endWork (st : Status) (s : State) (e : Entry) : State :=
  if e.kind = .replica then endReplica e.key true s else endEntry e.key st s

/-- R114: on entry to FAULT every entry with drive work outstanding ends, the oldest first. -/
def faultEntries (s : State) : State := (s.request.queue.filter (·.outstanding)).foldl (endWork .driveFault) s

/-- An entry has been QUEUED for the age limit (R113). -/
def State.aged (e : Entry) (s : State) : Bool :=
  e.state == .queued && expired s.tick Config.ageTicks e.queued

/-- R113: the age limit in an event in which the drive leaves READY. -/
def ageSweep (s : State) : State := (s.request.queue.filter fun e => s.aged e).foldl (endWork .noPower) s

/-- R73, R105: on READY the range test of every entry with an extent and drive work outstanding. -/
def rangeSweep (s : State) : State :=
  (s.request.queue.filter fun e =>
      e.outstanding && (match e.extent with | some x => s.passesSize x | none => false)).foldl
    (fun s e => endWork .range s e) s

/-- R135: every entry in WAIT_MIRROR ends; its extent is marked where `mark` says so. -/
def endWaits (st : Status) (mark : Bool) (s : State) : State :=
  (s.request.queue.filter fun e => e.state == .waitMirror).foldl
    (fun s e =>
      let s := if mark then (match e.extent with | some x => markExtent x s | none => s) else s
      endEntry e.key st s) s

/-- R142, R139: in CLOSED a write-like entry in QUEUED calls for a record write with clean clear. -/
def callForQueued (s : State) : State :=
  if s.mirror.cond = .closed ∧ (s.request.queue.any fun e => e.state == .queued && e.kind.writeLike) then
    s.onMirror fun x => { x with calls := { x.calls with writeQueued := true } }
  else s

/-- R122: the record has become CLOSED with a map `written` that lacks a mark of the present one, set while the write was on
the lane: the mark calls for a record write with clean clear (log 50). -/
def callForMissed (written : BitVec 256) (s : State) : State :=
  if s.mirror.cond = .closed ∧ s.mirror.dirty &&& ~~~written ≠ 0 then
    s.onMirror fun x => { x with calls := { x.calls with mark := true } }
  else s

/-- A write-like entry enters QUEUED (R108), which in CLOSED calls for a record write (R142). -/
def enterQueued (k : Key) (s : State) : State :=
  callForQueued (s.onEntry k fun e => { e with state := .queued, queued := some s.tick })

/-! ## The MIRROR slot -/

/-- The entry that a MIRROR-ACK or MIRROR-MISS answers, when it is placed for the first time. -/
def OutMsg.answered : OutMsg → Option Key
  | .mirrorAck _ k _ 0 true => some k
  | .mirrorMiss _ k _ _ 0 true => some k
  | _ => none

/-- A MIRROR-ACK or MIRROR-MISS made ready again (R130). -/
def OutMsg.again : OutMsg → Bool
  | .mirrorAck _ _ _ n _ | .mirrorMiss _ _ _ _ n _ => n != 0
  | _ => false

/-- R130: the messages made ready in this event stand in the order of the entries they answer, the oldest first, and
those that answer none after them; one made ready again stays at the front. `before` is the list before the event. -/
def orderMirror (before : List OutMsg) (s : State) : State :=
  s.onMirror fun m =>
    let parts := splitFresh before (m.out.dropWhile (·.again))
    { m with out :=
        m.out.takeWhile (·.again) ++ parts.1
          ++ inOrder (s.request.queue.length + 1) (fun x => placeIn s.request.queue x.answered) parts.2 }

/-- R130, R118: the front message placed when the MIRROR slot is empty; a REPLICA entry leaves with its answer. -/
def placeMirror (s : State) : State :=
  match s.slot .mirror, s.mirror.out with
  | none, m :: rest =>
    let s := (s.onMirror fun x => { x with out := rest }).putSlot .mirror (some m)
    (match m.answered with
     | some k => s.onRequest fun r =>
         { r with queue := r.queue.filter fun e => !(e.key == k && e.kind == .replica && e.state == .ending) }
     | none => s)
  | _, _ => s

/-- R130: a noted miss becomes a MIRROR-MISS without an entry, if fewer than 8 such wait; the behind flag is set. -/
def readyNotedMiss (k : Key) (x : Extent) (s : State) : State :=
  match s.partner with
  | some p =>
    let waiting := s.mirror.out.countP fun m => match m with | .mirrorMiss _ _ _ _ _ false => true | _ => false
    setBehind
      (if waiting < Config.noEntryMisses then mirrorReady (.mirrorMiss p k x.start x.count 0 false) s else s)
  | none => s

end Sys2Proof.Machine
end

