-- ==== Sys2Proof/Machine/Resync.lean ====
section
/-!
DEFINITION. The resync engine (section 8.4), role tests, rejoin and resync wakes (sections 8.5, 8.6).
-/

namespace Sys2Proof.Machine

/-! ## Stopping -/

/-- The engine's own messages for the MIRROR slot. -/
def isEngineMirror : OutMsg → Bool
  | .resyncBegin _ _ _ | .resyncEnd _ _ false => true
  | _ => false

/-- The engine's own messages for the RESYNC slot. -/
def isEngineResync : OutMsg → Bool
  | .resyncWrite _ _ _ _ | .data _ _ _ true _ => true
  | _ => false

/-- The engine's chunk read is on the lane (R153). -/
def State.chunkReading (s : State) : Bool :=
  match s.drive.flight with
  | some f => f.requester == .chunk
  | none => false

/-- The pages of the chunk in hand. -/
def ResyncEngine.pages (e : ResyncEngine) : List Page :=
  match e.chunk with
  | some c => c.pages
  | none => []

/-- R153: the engine's pending messages are taken out of the list and withdrawn from their slots. -/
def withdrawEngine (s : State) : State :=
  let s := s.onMirror fun x => { x with out := x.out.filter fun m => !isEngineMirror m }
  (withdraw .resync isEngineResync (withdraw .mirror isEngineMirror s).2).2

/-- R153: the engine goes IDLE. With a read on the lane the chunk's pages stay owned until its end. -/
def ResyncEngine.halt (e : ResyncEngine) (reading : Bool) (holdOff : Option Tick) : ResyncEngine :=
  { e with state := .idle, region := none, chunk := none, redo := false, outstanding := none, replyWait := none,
           ready := false, retry := none, holdOff := holdOff, orphans := if reading then e.orphans ++ e.pages else e.orphans }

/-- R153: the chunk read on the lane has no resync any more. -/
def orphanRead (s : State) : State :=
  s.onDrive fun d => { d with flight := d.flight.map fun f => { f with requester := .stoppedChunk } }

/-- R153: the resync stops; `hold` says whether the hold-off starts. -/
def stopResync (hold : Bool) (s : State) : State :=
  if s.engine.state = .idle then s
  else
    let stopped := (withdrawEngine s).onEngine fun e =>
      e.halt s.chunkReading (if hold then some (tickAfter s.tick Config.resyncHoldOffTicks) else e.holdOff)
    if s.chunkReading then orphanRead stopped else stopped

/-! ## Copying -/

/-- Marks of the regions that hold no block (R122; log 17). -/
def emptyRegions (size usable : Nat) : BitVec 256 :=
  if size = 0 then 0 else (BitVec.allOnes 256) <<< ((usable + size - 1) / size)

/-- The lowest marked region at or above the cursor, or else the lowest marked region (R148). -/
def chooseRegion (d : BitVec 256) (cursor : Fin 256) : Option (Fin 256) :=
  let all := List.finRange 256
  match all.find? (fun r => cursor ≤ r && d.getLsbD r.val) with
  | some r => some r
  | none => all.find? fun r => d.getLsbD r.val

/-- The chunk that begins at a block of a region: to the region's end, the usable size or 64 blocks (R148). -/
def chunkAt (size usable : Nat) (r : Fin 256) (start : Nat) : Chunk :=
  { start := start, count := min Config.chunkBlocks (min ((r.val + 1) * size) usable - start), step := .waitPages,
    pages := [], sendPos := none }

/-- A WRITE entry with drive work outstanding touches a region (R148, R150). -/
def State.writeTouches (r : Fin 256) (s : State) : Bool :=
  s.request.queue.any fun e =>
    e.kind == .write && e.outstanding && (match e.extent with | some x => (s.regions x).getLsbD r.val | none => false)

/-- R148, R151: the next region is chosen, or, with no mark left, RESYNC-END is made ready. -/
def nextRegion (s : State) : State :=
  let s := s.onMirror fun x =>
    { x with dirty := x.dirty &&& ~~~ (emptyRegions x.regionSize s.drive.usable.toNat) }
  match chooseRegion s.mirror.dirty s.engine.cursor with
  | some r =>
    s.onEngine fun e =>
      { e with state := .copying, region := some r, redo := s.writeTouches r
               chunk := some (chunkAt s.mirror.regionSize s.drive.usable.toNat r (r.val * s.mirror.regionSize)) }
  | none =>
    let s := s.onEngine fun e => { e with state := .ending, region := none, chunk := none, redo := false }
    match s.partner with
    | some p => mirrorReady (.resyncEnd p s.mirror.epoch false) s
    | none => s

/-- R151: the chunk has been answered OK, or is passed over (R148): the next chunk, or the region's end. -/
def chunkDone (s : State) : State :=
  match s.engine.region, s.engine.chunk with
  | some r, some c =>
    let past := c.start + c.count
    if past < min ((r.val + 1) * s.mirror.regionSize) s.drive.usable.toNat then
      s.onEngine fun e =>
        { e with chunk := some (chunkAt s.mirror.regionSize s.drive.usable.toNat r past) }
    else
      let s :=
        if s.engine.redo then s.onEngine fun e => { e with redoCount := satInc e.redoCount }
        else s.onMirror fun x => { x with dirty := x.dirty &&& ~~~ (1#256 <<< r.val) }
      nextRegion (s.onEngine fun e => { e with redo := false, cursor := r + 1, chunk := none })
  | _, _ => s

/-- R145: an IDLE engine begins a resync. -/
def startResync (s : State) : State :=
  match s.partner with
  | some p =>
    if s.engine.state = .idle ∧ s.mirror.role = .primary ∧ s.mirror.link = .resyncing ∧ s.engine.holdOff = none
        ∧ s.drive.state ≠ .fault ∧ s.drive.state ≠ .spinDown then
      let tag := s.engine.tagCounter + 1
      mirrorReady (.resyncBegin p tag s.mirror.epoch)
        (s.onEngine fun e => { e with state := .beginning, tagCounter := tag, readStarted := false })
    else s
  | none => s

/-- R148: enough pages are free for the chunk: the engine takes them and asks for the lane (R76), also while the read of a
stopped resync's chunk still holds its pages (R153; log 49). -/
def takePages (s : State) : State :=
  match s.engine.chunk with
  | some c =>
    if c.step = .waitPages ∧ s.drive.state = .ready ∧ c.count ≤ s.freePages.length then
      let pages := s.freePages.take c.count
      let s := s.onEngine fun e => { e with chunk := some { c with step := .read, pages := pages } }
      if s.engine.readStarted then s else s.onDrive fun d => { d with resyncWait := s.tick }
    else s
  | none => s

/-- The chunk waits for the lane (R76). -/
def State.chunkAsks (s : State) : Bool :=
  match s.engine.chunk with
  | some c => c.step == .read && s.drive.flight.isNone
  | none => false

/-- R149: the message of step SEND put in the RESYNC slot when it is made ready and the slot is empty. -/
def placeResync (s : State) : State :=
  match s.slot .resync, s.engine.chunk, s.partner with
  | none, some c, some p =>
    if s.engine.ready ∧ c.step = .send then
      let s := s.onEngine fun e => { e with ready := false }
      match c.sendPos with
      | none => s.putSlot .resync (some (.resyncWrite p s.engine.tagCounter (BitVec.ofNat 32 c.start) c.count))
      | some i =>
        s.putSlot .resync
          (some (.data p s.engine.tagCounter i true (readPage s.buffer (c.pages.getD i 0))))
    else s
  | _, _, _ => s

/-- R147: the taken DONE in force. -/
def engineDone (st : Status) (s : State) : State :=
  let s' := s.onEngine fun e => { e with replyWait := none, outstanding := none }
  if st ≠ .ok then stopResync true s'
  else
    match s.engine.state with
    | .beginWait => nextRegion s'
    | .copying => chunkDone s'
    | .idle | .beginning | .ending => s'

/-- The engine takes a DONE of this origin and tag (R147). -/
def State.engineTakes (o : Station) (t : Tag) (s : State) : Bool :=
  some o == s.partner && s.engine.outstanding == some t
    && (s.engine.state == .beginWait
        || (match s.engine.chunk with | some c => c.step == .reply | none => false))

/-- R145: the outcome of RESYNC-BEGIN. Made ready again it keeps its tag (log 37) and carries the epoch then in force
(log 38). -/
def resyncBeginOutcome (tag : Tag) (o : SendOutcome) (s : State) : State :=
  match o with
  | .taken => s.onEngine fun e =>
      { e with state := .beginWait, outstanding := some tag, replyWait := some s.tick }
  | .busy => s.onEngine fun e => { e with retry := some s.tick }
  | .spoiled =>
    (match s.partner with
     | some p => mirrorReady (.resyncBegin p tag s.mirror.epoch) s
     | none => s)
  | .unanswered => stopResync true s
  | .inForce _ | .objected _ => s

/-- R151, R154: the outcome of RESYNC-END, of the engine or of a rejoin. Made ready again it carries the epoch then in
force (log 38). A rejoin's TAKEN and UNANSWERED leave the engine's state as it is (log 34). -/
def resyncEndOutcome (rejoin : Bool) (o : SendOutcome) (s : State) : State :=
  match o with
  | .taken =>
    if rejoin then s
    else (s.onEngine fun e => { e with state := .idle }).onMirror fun x =>
      { x with calls := { x.calls with clean := true } }
  | .busy =>
    if rejoin then s.onMirror fun x => { x with rejoinRetry := some s.tick }
    else s.onEngine fun e => { e with retry := some s.tick }
  | .spoiled =>
    (match s.partner with
     | some p => mirrorReady (.resyncEnd p s.mirror.epoch rejoin) s
     | none => s)
  | .unanswered => if rejoin then s else s.onEngine fun e => { e with state := .idle }
  | .inForce _ | .objected _ => s

/-- R149: the outcome of RESYNC-WRITE (`piece` none) or of a DATA piece. A RESYNC-WRITE made ready again keeps its tag
(log 37). -/
def resyncSlotOutcome (piece : Option Nat) (o : SendOutcome) (s : State) : State :=
  match s.engine.chunk with
  | none => s
  | some c =>
    match o with
    | .taken =>
      (match piece with
       | none => s.onEngine fun e =>
           { e with outstanding := some e.tagCounter, chunk := some { c with sendPos := some 0 }, ready := true }
       | some i =>
         if i + 1 < c.count then
           s.onEngine fun e => { e with chunk := some { c with sendPos := some (i + 1) }, ready := true }
         else s.onEngine fun e => { e with chunk := some { c with step := .reply }, replyWait := some s.tick })
    | .busy => s.onEngine fun e => { e with retry := some s.tick }
    | .spoiled => s.onEngine fun e => { e with ready := true }
    | .unanswered => stopResync true s
    | .inForce _ | .objected _ => s

/-- R145, R149, R151: the message whose retry wait has ended is made ready again, with its tag (log 37) and the epoch then
in force (log 38). -/
def retryResync (s : State) : State :=
  if expired s.tick Config.resyncRetryTicks s.engine.retry then
    let s := s.onEngine fun e => { e with retry := none }
    match s.engine.state, s.partner with
    | .beginning, some p => mirrorReady (.resyncBegin p s.engine.tagCounter s.mirror.epoch) s
    | .ending, some p => mirrorReady (.resyncEnd p s.mirror.epoch false) s
    | .copying, _ => s.onEngine fun e => { e with ready := true }
    | _, _ => s
  else s

def isRejoin : OutMsg → Bool
  | .resyncEnd _ _ true => true
  | _ => false

def isResyncEnd : OutMsg → Bool
  | .resyncEnd _ _ _ => true
  | _ => false

/-- R154, R151: a rejoin RESYNC-END answered BUSY is made ready again, with the epoch then in force (log 38), unless
another RESYNC-END waits by then (log 39). -/
def retryRejoin (s : State) : State :=
  if expired s.tick Config.resyncRetryTicks s.mirror.rejoinRetry then
    let s := s.onMirror fun x => { x with rejoinRetry := none }
    match s.partner with
    | some p =>
      if s.mirror.out.any isResyncEnd || s.slotHolds .mirror isResyncEnd then s
      else mirrorReady (.resyncEnd p s.mirror.epoch true) s
    | none => s
  else s

/-! ## Roles -/

/-- R157: a change of role or epoch, with the map and behind flag the rule gives. -/
def changeRole (role : Role) (epoch : Nat) (dirty : BitVec 256) (behind : Bool) (s : State) : State :=
  let leaves := s.mirror.role = .primary ∧ role ≠ .primary
  let s := if leaves then endWaits .role false (stopResync false s) else s
  let s := s.onMirror fun x =>
    { x with role := role, epoch := epoch, dirty := dirty, behind := behind
             behindAnnounced := if behind && !x.behind then false else x.behindAnnounced
             copies := if leaves then [] else x.copies
             wakeInterval := if leaves then none else x.wakeInterval
             calls := { x.calls with roleChange := true } }
  if dirty = 0 then s else markRegions dirty s

/-- R156: the partner's announced role and epoch compared with the station's own. The lower of two SECONDARY stations at one
epoch becomes PRIMARY with its behind flag clear (log 48). -/
def roleTest (role : Role) (f : Nat) (s : State) : State :=
  match s.partner with
  | none => s
  | some p =>
    if !s.recordInUse then s
    else
      let e := s.mirror.epoch
      let lower := s.station < p
      match role, s.mirror.role with
      | .primary, .primary =>
        if e < f then changeRole .secondary f 0 true s
        else if f < e then markAll s
        else if lower then markAll s
        else changeRole .secondary e 0 true s
      | .primary, .secondary => if e < f then changeRole .secondary f 0 true s else s
      | .secondary, .primary =>
        if e < f then changeRole .primary f (BitVec.allOnes 256) false s
        else if f < e then markAll s
        else s
      | .secondary, .secondary =>
        if e < f then changeRole .primary f (BitVec.allOnes 256) false s
        else if f < e then s
        else if lower then changeRole .primary (min (e + 1) 65535) (BitVec.allOnes 256) false s
        else s
      | _, _ => s

/-- R137: the partner-behind note, from a partner AWAKE in force. -/
def noteBehind (behind : Bool) (s : State) : State :=
  let newly := behind && !s.mirror.partnerBehind
  let s :=
    if newly && s.mirror.role == .primary then
      let s := (s.request.queue.filter fun e =>
          e.kind == .write && (e.outstanding || e.state == .waitMirror)).foldl
        (fun s e => match e.extent with | some x => markExtent x s | none => s) s
      endWaits .okDegraded false s
    else s
  s.onMirror fun x => { x with partnerBehind := behind }

/-- R154: the rejoin test on the partner's announcement. -/
def rejoinTest (role : Role) (epoch : Nat) (behind : Bool) (s : State) : State :=
  match s.partner with
  | some p =>
    if s.mirror.role = .primary ∧ s.mirror.dirty = 0 ∧ behind = true ∧ role = .secondary ∧ epoch = s.mirror.epoch
        ∧ !(s.mirror.out.any isResyncEnd || s.slotHolds .mirror isResyncEnd) then
      mirrorReady (.resyncEnd p s.mirror.epoch true) s
    else s
  | none => s

def isResyncWake : OutMsg → Bool
  | .wake _ .resync => true
  | _ => false

/-- R155: the test for a resync wake; none is made ready while one waits in the list or the slot (log 47). -/
def resyncWakeTest (s : State) : State :=
  match s.partner, s.settings with
  | some p, some c =>
    if s.mirror.role = .primary ∧ c.wakeThreshold ≠ 0 ∧ c.wakeThreshold ≤ s.dirtyCount
        ∧ (s.presence p).state = .sleeping ∧ s.mirror.wakeInterval = none
        ∧ !(s.mirror.out.any isResyncWake || s.slotHolds .mirror isResyncWake) then
      mirrorReady (.wake (1#16 <<< p.val) .resync) s
    else s
  | _, _ => s

/-! ## The link -/

/-- What leaving one link for another brings about (R125, R128, R135, R153). -/
def linkLeft (old new : Link) (s : State) : State :=
  let s :=
    if old = .following ∧ new ≠ .following then
      let s := setBehind s
      (s.request.queue.filter fun e =>
          e.kind == .replica && (e.state == .dataIn || e.state == .queued)).foldl
        (fun s e => endReplica e.key true s) s
    else s
  let s := if old.together ∧ !new.together ∧ s.mirror.role = .primary then endWaits .okDegraded true s else s
  if old = .resyncing ∧ !new.together then stopResync false s else s

/-- The link judged again (R123, R124). -/
def judgeLink (s : State) : State :=
  let old := s.mirror.link
  let new := s.linkNow
  if old = new then s else linkLeft old new (s.onMirror fun x => { x with link := new })

/-! ## Sleep -/

/-- R121, R144, R163: the mirror unit and its engine enter SLEEPING. A rejoin RESYNC-END in its wait after BUSY is dropped
with the outgoing list, and its wait holds no sleep back (DESIGN CHOICE, unsafe: R154 leaves it open; log 52). -/
def sleepMirror (s : State) : State :=
  let s := stopResync false s
  (s.onEngine fun e => { e with holdOff := none }).onMirror fun x =>
    { x with out := [], partnerBehind := false, wakeInterval := none, rejoinRetry := none }

end Sys2Proof.Machine
end

