-- ==== Sys2Proof/Machine/Drive.lean ====
section
/-!
DEFINITION. The drive port (chapter 4) and the trip comparator's arming (R88 to R90): power, drive states, the choice of
the next lane command, spin-down, FAULT.
-/

namespace Sys2Proof.Machine

/-! ## The comparator follows the drive state -/

/-- The level in force is reported while power is applied: armed, with a switch hold (R89, R90). -/
def armAt (l : TripLevel) (s : State) : State := s.onComp fun _ => { level := some l, hold := true, counting := false }

/-- Power is removed: disarmed (R89). -/
def disarm (s : State) : State := s.onComp fun _ => .reset

/-! ## Spin-up -/

/-- R71: power is applied. -/
def applyPower (s : State) : State :=
  armAt .spinUp (s.onDrive fun d =>
    { d with state := .spinUp, powered := true, deferral := none, readyWait := some s.tick })

/-- R69, R62: an admission reaches the drive port. -/
def admission (s : State) : State :=
  match s.drive.state with
  | .off =>
    if s.drive.deferral.isSome then s
    else if s.adequate then applyPower s
    else s.onDrive fun d => { d with deferral := some s.tick }
  | .fault => releaseAll s
  | .spinUp | .ready | .spinDown => s

/-- R70: a deferral is given up; for low voltage the claim hold-off starts. -/
def giveUpDeferral (lowVoltage : Bool) (s : State) : State :=
  let s := powerRemoved (s.onDrive fun d => { d with deferral := none, offSince := s.tick })
  if lowVoltage then s.onClaim fun c => { c with holdOff := some (tickAfter s.tick Config.claimHoldOffTicks) } else s

/-- A command put on the drive lane (R74, R75). -/
def sendLane (c : LaneCmd) (r : Requester) (s : State) : State :=
  s.onDrive fun d => { d with flight := some { cmd := c, requester := r, start := s.tick } }

/-- R74: the blocks that the WRITE on the lane sends from its requester's pages, in block order; none for another
command. The mirror unit's page is its block store (R140, R143). -/
def State.laneBlocks (s : State) : List (List Byte) :=
  match s.drive.flight with
  | some f =>
    (match f.cmd, f.requester with
     | .write _ _, .entry k => (match s.entry k with | some e => e.pages.map (readPage s.buffer) | none => [])
     | .write _ _, .recordWrite _ _ | .write _ _, .promotionWrite _ => [s.mirror.blockStore]
     | _, _ => [])
  | none => []

/-- R74: the blocks that a READ from block `start` puts in its requester's pages, in block order: those before the failing
block on MEDIA_ERROR. -/
def readBlocks (start : Nat) : LaneReply → List (List Byte)
  | .ok bs => bs
  | .mediaError failing bs => bs.take (failing.toNat - start)

/-- The first block of a lane command. -/
def LaneCmd.firstBlock : LaneCmd → Nat
  | .read b _ | .write b _ => b.toNat
  | .identify | .sync => 0

/-- The command in flight ends; the lane is free (R74). -/
def freeLane (s : State) : State := s.onDrive fun d => { d with flight := none }

/-! ## FAULT -/

/-- The requester of the command in flight is told that it ended by fault (R80, R140, R143, R153, R159); entries are
ended by R114. -/
def endFlightByFault (s : State) : State :=
  match s.drive.flight with
  | none => s
  | some f =>
    let s := freeLane s
    match f.requester with
    | .port | .entry _ | .chunk | .promotionWrite _ => s
    | .recordLoad => s.onMirror fun x => { x with cond := .notLoaded }
    | .recordWrite _ answered => s.onMirror fun x =>
        { x with calls :=
            { opening := x.calls.opening || answered.opening, roleChange := x.calls.roleChange || answered.roleChange
              mark := x.calls.mark || answered.mark, writeQueued := x.calls.writeQueued || answered.writeQueued
              clean := x.calls.clean } }
    | .stoppedChunk => s.onEngine fun e => { e with orphans := [] }

/-- R80, R81: the drive enters FAULT; a FAULT keeps its first cause. -/
def enterFault (cause : FaultCause) (s : State) : State :=
  if s.drive.state = .fault then s
  else
    let s := endFlightByFault s
    let s := disarm (s.onDrive fun d =>
      { d with state := .fault, cause := some cause, powered := false, deferral := none, readyWait := none, idle := none,
               need := false, hotStop := false })
    let s := s.onMirror fun x =>
      { x with promotion := none, calls := { x.calls with clean := false } }
    powerRemoved (stopResync false (faultEntries s))

/-! ## Spin-down -/

/-- The values of a record write as the mirror unit holds them; in OPENING those of the image (R138, R142). -/
def State.recordValues (clean : Bool) (s : State) : RecordFields :=
  match s.mirror.cond, s.mirror.image with
  | .opening, some f => { f with clean := clean }
  | _, _ =>
    { role := s.mirror.role, epoch := s.mirror.epoch
      partner := match s.settings with | some c => c.partner | none => 0
      regionSize := s.mirror.regionSize, clean := clean, dirty := s.mirror.dirty }

/-- A record write sent on the lane answers every standing call (R142, R143). -/
def sendRecordWrite (clean : Bool) (s : State) : State :=
  let f := s.recordValues clean
  let calls := s.mirror.calls
  sendLane (.write s.drive.usable 1) (.recordWrite f calls)
    (s.onMirror fun x => { x with calls := .quiet, blockStore := f.block })

/-- R78: the SYNC of spin-down. -/
def sendSpinDownSync (s : State) : State := sendLane .sync .port s

/-- R78: the drive enters SPIN_DOWN; resync stops, an unsent promotion is dropped (R159), the age limit is applied
(R113), and the spin-down record write or the SYNC is sent. -/
def enterSpinDown (s : State) : State :=
  let s := s.onDrive fun d => { d with state := .spinDown, idle := none }
  let s := s.onMirror fun x => { x with promotion := none }
  let s := ageSweep (stopResync false s)
  if s.mirror.cond = .opened ∨ s.mirror.calls.any then sendRecordWrite true s else sendSpinDownSync s

/-- R78, step 4: power is removed and the drive enters OFF. -/
def finishSpinDown (s : State) : State :=
  powerRemoved (disarm (s.onDrive fun d =>
    { d with state := .off, powered := false, flight := none, offSince := s.tick, hotStop := false }))

/-! ## READY and the choice of the next command -/

/-- R73: the drive enters READY. -/
def enterReady (s : State) : State :=
  rangeSweep (settleHolding (armAt .run (s.onDrive fun d => { d with state := .ready, readyWait := none })))

/-- R76, R142, R159: the mirror unit's record work put on the lane: the load, a record write, or the promotion write. An epoch
that has become 65535 since the promotion's check stays there (log 41). -/
def sendRecordWork (s : State) : State :=
  if s.mirror.cond = .notLoaded then
    sendLane (.read s.drive.usable 1) .recordLoad (s.onMirror fun x => { x with cond := .loading })
  else if s.mirror.calls.any then
    let busyWrites := s.request.queue.any fun e => e.kind.writeLike && e.outstanding
    sendRecordWrite (!s.mirror.calls.clear && !busyWrites) s
  else
    let f := { s.recordValues false with role := .primary, epoch := min (s.mirror.epoch + 1) 65535, dirty := 0 }
    sendLane (.write s.drive.usable 1) (.promotionWrite f)
      (s.onMirror fun x =>
        { x with promotion := x.promotion.map fun p => { p with sent := true }, blockStore := f.block })

/-- R76: the resync chunk read put on the lane. -/
def sendChunkRead (s : State) : State :=
  match s.engine.chunk with
  | some c =>
    sendLane (.read (BitVec.ofNat 32 c.start) c.count) .chunk
      ((s.onEngine fun e => { e with readStarted := true }).onDrive fun d => { d with resyncWait := s.tick })
  | none => s

/-- R111: the run checks on the runnable entries, oldest first. -/
def runChecks (s : State) : State :=
  (s.request.queue.map (·.key)).foldl
    (fun s k =>
      match s.entry k with
      | some e =>
        if s.runnable e then
          (match s.runFailure e with | some st => endEntry k st s | none => s)
        else s
      | none => s) s

/-- Entries that go to the drive lane; RESYNC_BEGIN and PROMOTE go to the mirror unit (R110). -/
def EntryKind.usesLane : EntryKind → Bool
  | .read | .write | .sync | .resyncIn | .replica => true
  | .resyncBegin _ | .promote => false

/-- The lane command of an entry (R111). -/
def Entry.lane (e : Entry) : LaneCmd :=
  let x := e.extent.getD ⟨0, 0⟩
  match e.kind with
  | .read => .read x.start x.count
  | .write | .resyncIn | .replica => .write x.start x.count
  | .sync | .resyncBegin _ | .promote => .sync

/-- R111: an entry moves to RUNNING and its command is sent. -/
def runEntry (e : Entry) (s : State) : State :=
  sendLane e.lane (.entry e.key) (s.onEntry e.key fun e => { e with state := .running })

/-- R76: the next command, chosen when the lane is free and the drive is READY. -/
def chooseCommand (s : State) : State :=
  if s.drive.state = .ready ∧ s.drive.flight = none then
    if s.recordWork then sendRecordWork s
    else if s.chunkAsks ∧ Config.resyncLaneTicks ≤ elapsed s.tick s.drive.resyncWait then sendChunkRead s
    else
      let s := runChecks s
      match s.request.queue.find? fun e => s.runnable e && e.kind.usesLane with
      | some e => runEntry e s
      | none => if s.chunkAsks then sendChunkRead s else s
  else s

/-! ## HOT, need, idle timer -/

/-- R79, R70: what HOT does, as reported or as set on entry. A command in flight in READY is let end, and its end brings
SPIN_DOWN even when HOT has cleared by then (log 43). -/
def hotAction (s : State) : State :=
  if s.supply.hot ∧ s.drive.state = .off ∧ s.drive.deferral ≠ none then giveUpDeferral false s
  else if (s.supply.hot ∨ s.drive.hotStop) ∧ s.drive.state = .ready ∧ s.drive.flight = none then enterSpinDown s
  else if s.supply.hot ∧ s.drive.state = .ready then s.onDrive fun d => { d with hotStop := true }
  else s

/-- R68: the report of the need for spin-up brought up to date. -/
def reportNeed (s : State) : State := s.onDrive fun d => { d with need := s.needNow }

/-- R77: the idle timer stops in the event in which one of its conditions ends, such as the one that takes a request. -/
def stopIdle (s : State) : State := if s.idleRuns then s else s.onDrive fun d => { d with idle := none }

/-- R77: the idle timer starts from 0 when its conditions come to hold, and stops when one ends. -/
def updateIdle (s : State) : State :=
  s.onDrive fun d =>
    { d with idle := if s.idleRuns then (match d.idle with | some n => some n | none => some 0) else none }

end Sys2Proof.Machine
end

