-- ==== Sys2Proof/Machine/Report.lean ====
section
/-!
DEFINITION. The contents of a REPORT (R177). A state is sent as the position of its name in the list that R177 gives.
-/

namespace Sys2Proof.Machine

def SettingsResult.code : SettingsResult → Nat
  | .good => 0 | .missing => 1 | .marker => 2 | .check => 3 | .range => 4

def PowerState.code : PowerState → Nat
  | .starting => 0 | .unset => 1 | .listening => 2 | .sleeping => 3 | .resuming => 4

def causeCode : Option FaultCause → Nat
  | none => 0 | some .overcurrent => 1 | some .spinUpFail => 2 | some .driveTimeout => 3 | some .size => 4
  | some .expelled => 5

def Link.code : Link → Nat
  | .none => 0 | .unloaded => 1 | .apart => 2 | .resyncing => 3 | .inStep => 4 | .mismatched => 5 | .following => 6

def ClaimState.code : ClaimState → Nat
  | .none => 0 | .asking => 1 | .waiting => 2 | .spinUnits => 3 | .runUnits => 4 | .releasing => 5

def Census.code : Census → Nat
  | .incomplete => 0 | .complete => 1

def PresenceState.code : PresenceState → Nat
  | .unknown => 0 | .listening => 1 | .sleeping => 2 | .absent => 3

def StationKind.code : StationKind → Nat
  | .bay => 0 | .other => 1

def Gain.code : Gain → Nat
  | .x4 => 0 | .x1 => 1

/-- Item 0, the station summary: 31 bytes. It has no usable size: R177's table has none, though R66 says that the summary
reports it (log 33). A REPORT is sent only after the settings read has ended, so the settings
result is there; before that the byte would be GOOD's. -/
def State.summary (s : State) : List Byte :=
  [stationByte s.station, byte (match s.settingsResult with | some r => r.code | none => 0), byte s.power.code,
   byte s.drive.state.code, byte (causeCode s.drive.cause), flagByte s.supply.hot, byte s.mirror.role.code]
    ++ be16 s.mirror.epoch ++ [byte s.mirror.link.code, flagByte s.mirror.behind] ++ be16 s.dirtyCount
    ++ [byte s.ownHolding, byte s.claim.state.code, byte s.shelf.census.code, byte s.shelf.budget,
        flagByte s.shelf.adopted, byte s.request.queue.length]
    ++ be16 s.freePages.length ++ [flagByte s.duty, byte s.watch.proxy.length] ++ be32 s.tick ++ be32 s.seconds

/-- Item 1, the holdings: 20 bytes and 2 for each waiter. -/
def State.holdingsItem (s : State) : List Byte :=
  [byte s.shelf.budget, optStationByte s.shelf.watch, byte s.shelf.census.code] ++ s.shelf.holdings.toList.map byte
    ++ [byte s.shelf.waiters.length] ++ s.shelf.waiters.flatMap fun w => [stationByte w.station, byte w.units]

/-- One entry of item 2: 18 bytes. -/
def PresenceEntry.bytes (e : PresenceEntry) : List Byte :=
  [byte e.state.code, byte e.kind.code] ++ be32 e.lastHeard ++ [byte e.drive.code, byte e.role.code] ++ be16 e.epoch
    ++ [flagByte e.behind] ++ be32 e.usable ++ [flagByte e.duty, byte e.budget, byte e.holding]

/-- Item 2, the presence table: 289 bytes. -/
def State.presenceItem (s : State) : List Byte :=
  optStationByte s.shelf.watch :: (List.finRange 16).flatMap fun n => (s.presence n).bytes

/-- One record of item 3: 6 bytes. -/
def SampleRecord.bytes (r : SampleRecord) : List Byte :=
  be16 r.value ++ [byte r.gain.code, flagByte r.overFlag, r.sequence, flagByte r.valid]

/-- Item 3, the supply samples: 36 bytes. -/
def State.samplesItem (s : State) : List Byte := s.supply.records.toList.flatMap (·.bytes)

/-- Item 4, the counters: 18 bytes. -/
def State.countersItem (s : State) : List Byte :=
  [s.bus.checkErrors, s.bus.busyGiven, s.bus.spoiled, s.bus.arbLosses, s.supply.trips, s.engine.redoCount,
   s.announce.mismatches, s.request.undelivered, s.mirror.recordErrors].flatMap be16

/-- The item that a station gives for the item asked: item 0 always while UNSET (R177). -/
def State.itemFor (i : Nat) (s : State) : Nat := if s.power = .unset then 0 else i

/-- The contents of an item (R177). -/
def State.reportItem (i : Nat) (s : State) : List Byte :=
  match i with
  | 0 => s.summary
  | 1 => s.holdingsItem
  | 2 => s.presenceItem
  | 3 => s.samplesItem
  | _ => s.countersItem

end Sys2Proof.Machine
end

