-- ==== Sys2Proof/Machine/Request.lean ====
section
/-!
DEFINITION. The request unit (chapter 6): new entries and their take checks, DATA pieces, the outgoing list and the
REQUEST slot, the replies to entries' commands, and the copy decisions of a primary (R132).
-/

namespace Sys2Proof.Machine

/-! ## New entries -/

/-- The entry that a taken message asks for, with the pages set aside for it (R98, R104). -/
def newEntry (k : Key) (kind : EntryKind) (x : Option Extent) (fwd : Option Station) (s : State) : Entry :=
  let first : EntryState := if kind.writeLike then .dataIn else .queued
  { key := k, kind := kind, extent := x, state := first
    pages := match x with | some x => s.freePages.take x.count | none => []
    pieces := [], lastPiece := if kind.writeLike then some s.tick else none
    queued := if kind.writeLike then none else some s.tick
    forwardedBy := fwd, cancelLate := false, ackEarly := false, send := none, status := none }

/-- The entry joins the back of the queue (R99, R104). -/
def enqueue (e : Entry) (s : State) : State := s.onRequest fun r => { r with queue := r.queue ++ [e] }

/-- R104, R131, R150: a primary's WRITE that the take checks did not end is handed to the mirror unit. -/
def handWrite (k : Key) (x : Extent) (s : State) : State :=
  if s.mirror.role = .primary then
    let s :=
      if s.mirror.link.together then s
      else s.onMirror fun m => { m with copies := m.copies ++ [{ key := k, extent := x, state := .notExpected }] }
    s.onEngine fun e =>
      { e with redo := e.redo || (match e.region with | some r => (s.regions x).getLsbD r.val | none => false) }
  else s

/-- R104, R105: the entry is created and tested. -/
def createEntry (k : Key) (kind : EntryKind) (x : Option Extent) (fwd : Option Station) (s : State) : State :=
  let e := newEntry k kind x fwd s
  let failure := s.takeFailure e
  let s := enqueue e s
  match failure with
  | some st => endEntry k st s
  | none =>
    (match kind, x with
     | .write, some x => handWrite k x s
     | _, _ => s)

/-- R146, R158: a RESYNC_BEGIN or PROMOTE entry is created, and ends at once with DRIVE_FAULT in FAULT. -/
def createMirrorEntry (k : Key) (kind : EntryKind) (s : State) : State :=
  let e := newEntry k kind none none s
  let s := enqueue e s
  if s.drive.state = .fault then endEntry k .driveFault s else s

/-! ## DATA pieces -/

/-- The entry that a DATA piece fits: of its name, in DATA_IN, of the right kind, with a count above the index (R107,
R127). -/
def State.pieceFits (k : Key) (kind : EntryKind) (i : Nat) (s : State) : Bool :=
  match s.entry k with
  | some e =>
    e.state == .dataIn && e.kind == kind && (match e.extent with | some x => i < x.count | none => false)
  | none => false

/-- R107, R108: a piece in force fills its page, unless it is a duplicate; the last one moves the entry to QUEUED. -/
def fillPiece (k : Key) (i : Nat) (bytes : List Byte) (s : State) : State :=
  match s.entry k with
  | none => s
  | some e =>
    if e.pieces.contains i then s
    else
      let s := s.onBuffer fun m => writePage m (e.pages.getD i 0) bytes
      let s := s.onEntry k fun e => { e with pieces := e.pieces ++ [i], lastPiece := some s.tick }
      if e.pieces.length + 1 = (e.extent.getD ⟨0, 0⟩).count then enterQueued k s else s

/-! ## Replies to entries' commands -/

/-- R116: a READ entry enters SENDING and its first piece is made ready. -/
def startSending (k : Key) (s : State) : State :=
  (s.onEntry k fun e => { e with state := .sending, send := some { pos := 0, attempts := 0, retry := none } }).onRequest
    fun r => { r with out := r.out ++ [.piece k] }

/-- The state of the copy item of a key, if the table has one (R131). -/
def State.copyState (k : Key) (s : State) : Option CopyState :=
  (s.mirror.copies.find? fun c => c.key == k).map (·.state)

/-- A copy item put in the table in place of the one its key has (R131, R132, R134). -/
def setCopy (item : CopyItem) (s : State) : State :=
  s.onMirror fun m => { m with copies := (m.copies.filter fun c => c.key != item.key) ++ [item] }

/-- R132: a primary's WRITE whose drive write has replied OK. -/
def copyDecision (e : Entry) (s : State) : State :=
  let x := e.extent.getD ⟨0, 0⟩
  match s.mirror.role with
  | .single => endEntry e.key .ok s
  | .secondary | .notLoaded => endEntry e.key .role s
  | .primary =>
    if s.copyState e.key = some .missHeard then endEntry e.key .okDegraded (markExtent x s)
    else if e.ackEarly then endEntry e.key .ok s
    else if s.copyState e.key = some .notExpected ∨ s.mirror.link.together = false then
      endEntry e.key .okDegraded (markExtent x s)
    else
      setCopy { key := e.key, extent := x, state := .waiting s.tick }
        (s.onEntry e.key fun e => { e with state := .waitMirror })

/-- R112, R128: the reply to an entry's command. -/
def entryReply (k : Key) (r : LaneReply) (s : State) : State :=
  match s.entry k with
  | none => s
  | some e =>
    match e.kind, r with
    | .read, .ok bs => startSending k (s.onBuffer fun m => writePages m e.pages bs)
    | .read, .mediaError b bs =>
      let blocks := readBlocks (e.extent.getD ⟨0, 0⟩).start.toNat (.mediaError b bs)
      endEntry k .media (s.onBuffer fun m => writePages m e.pages blocks)
    | .write, .ok _ => copyDecision e s
    | .replica, .ok _ => endReplica k (s.mirror.link != .following) s
    | .replica, .mediaError _ _ => endReplica k true s
    | .resyncIn, .ok _ | .sync, .ok _ => endEntry k .ok s
    | .write, .mediaError _ _ | .resyncIn, .mediaError _ _ | .sync, .mediaError _ _ => endEntry k .media s
    | .resyncBegin _, _ | .promote, _ => s

/-! ## The outgoing list and the REQUEST slot -/

/-- The key of the entry that a waiting message answers or sends for. -/
def ReqOut.entryKey : ReqOut → Option Key
  | .entryDone k | .piece k => some k
  | .clearDone _ _ | .report _ _ => none

/-- R115: messages made ready in one event (those after the first `n`) stand in the order of their entries. -/
def orderFresh (n : Nat) (s : State) : State :=
  s.onRequest fun r =>
    { r with out :=
        r.out.take n ++ inOrder (r.queue.length + 1) (fun m => placeIn r.queue m.entryKey) (r.out.drop n) }

def ReqOut.isDone : ReqOut → Bool
  | .entryDone _ | .clearDone _ _ => true
  | .piece _ | .report _ _ => false

/-- The message that a waiting item becomes when it is placed (R115 to R117, R177). -/
def State.fillRequest (m : ReqOut) (s : State) : Option OutMsg :=
  match m with
  | .entryDone k =>
    (s.entry k).map fun e => .done k.origin k.tag (e.status.getD .ok) e.cancelLate e.forwardedBy none
  | .clearDone k st => some (.done k.origin k.tag st false none none)
  | .piece k =>
    (s.entry k).bind fun e => e.send.map fun p =>
      .data k.origin k.tag p.pos false (readPage s.buffer (e.pages.getD p.pos 0))
  | .report k i => some (.report k.origin k.tag (s.itemFor i) (s.reportItem (s.itemFor i)))

/-- R115: the oldest DONE, or else the oldest DATA piece or REPORT. -/
def nextRequestOut (l : List ReqOut) : Option ReqOut :=
  match l.find? (·.isDone) with
  | some m => some m
  | none => l.head?

/-- R115, R118: the REQUEST slot, when empty, takes the next message; an entry leaves with its DONE. -/
def placeRequest (s : State) : State :=
  match s.slot .request, nextRequestOut s.request.out with
  | none, some m =>
    let msg := s.fillRequest m
    let s := s.onRequest fun r => { r with out := r.out.erase m }
    let s := s.putSlot .request msg
    (match m with
     | .entryDone k => s.onRequest fun r => { r with queue := r.queue.filter fun e => e.key != k }
     | .clearDone _ _ | .piece _ | .report _ _ => s)
  | _, _ => s

/-- An entry ends UNDELIVERED (R116). -/
def endUndelivered (k : Key) (s : State) : State :=
  (endEntry k .undelivered s).onRequest fun r => { r with undelivered := satInc r.undelivered }

/-- R116: the outcome of a READ's DATA piece. -/
def pieceOutcome (k : Key) (o : SendOutcome) (s : State) : State :=
  match s.entry k with
  | none => s
  | some e =>
    match e.send with
    | none => s
    | some p =>
      match o with
      | .taken =>
        if p.pos + 1 < (e.extent.getD ⟨0, 0⟩).count then
          (s.onEntry k fun e =>
              { e with send := some { pos := p.pos + 1, attempts := 0, retry := none } }).onRequest
            fun r => { r with out := r.out ++ [.piece k] }
        else endEntry k .ok s
      | .busy =>
        if p.attempts + 1 < Config.pieceAttempts then
          s.onEntry k fun e =>
            { e with send := some { pos := p.pos, attempts := p.attempts + 1, retry := some s.tick } }
        else endUndelivered k s
      | .unanswered | .spoiled => endUndelivered k s
      | .inForce _ | .objected _ => s

/-! ## Entries for the mirror unit -/

/-- R146: the checks of a runnable RESYNC_BEGIN entry. -/
def checkResyncBegin (e : Entry) (epoch : Nat) (s : State) : State :=
  if s.mirror.role = .secondary ∧ some e.key.origin = s.partner ∧ epoch = s.mirror.epoch then
    endEntry e.key .ok (setBehind s)
  else endEntry e.key .denied s

/-- The tests of a runnable PROMOTE entry (R158). -/
def State.mayPromote (s : State) : Bool :=
  s.mirror.role == .secondary && !s.mirror.behind && !s.partnerServes && decide (s.mirror.epoch < 65535)

/-- R158: a runnable PROMOTE entry is checked. The entry of the pending promotion has passed already (R159); another that
passes while one is pending stays in QUEUED (log 21). -/
def checkPromote (e : Entry) (s : State) : State :=
  match s.mirror.promotion with
  | some p => if p.key = e.key ∨ s.mayPromote then s else endEntry e.key .denied s
  | none =>
    if s.mayPromote then s.onMirror fun m => { m with promotion := some { key := e.key, sent := false } }
    else endEntry e.key .denied s

/-- R110: runnable RESYNC_BEGIN and PROMOTE entries are handed to the mirror unit, the oldest first. -/
def handSpecials (s : State) : State :=
  (s.request.queue.map (·.key)).foldl
    (fun s k =>
      match s.entry k with
      | some e =>
        if s.runnable e then
          (match e.kind with
           | .resyncBegin epoch => checkResyncBegin e epoch s
           | .promote => checkPromote e s
           | .read | .write | .sync | .resyncIn | .replica => s)
        else s
      | none => s) s

/-- An entry stands in QUEUED. -/
def State.queuedEntry (k : Key) (s : State) : Bool :=
  match s.entry k with
  | some e => e.state == .queued
  | none => false

/-- R159: the partner serves again before the promotion write is sent; the entry, which has stayed in QUEUED (R158), ends. -/
def dropPromotion (s : State) : State :=
  match s.mirror.promotion with
  | some p =>
    if !p.sent && s.partnerServes then
      let s := s.onMirror fun m => { m with promotion := none }
      if s.queuedEntry p.key then endEntry p.key .denied s else s
    else s
  | none => s

end Sys2Proof.Machine
end

