-- ==== Sys2Proof/Machine/Watch.lean ====
section
/-!
DEFINITION. The watch unit (chapter 9): its outgoing list, watch duty, the proxy queue and forwarding, wakes, absences,
and the announcements of the presence unit (section 2.3).
-/

namespace Sys2Proof.Machine

/-! ## Announcing -/

/-- R31, R32: an AWAKE is placed, or, with one on the line, the announce-again mark is set. The timer stops. -/
def placeAwake (s : State) : State :=
  if s.power = .listening then
    match s.slot .presence with
    | none => (s.onAnnounce fun a => { a with timer := none }).putSlot .presence (some .awake)
    | some _ => if s.onLine .presence then s.onAnnounce fun a => { a with again := true } else s
  else s

/-- The outcome of an own AWAKE in force carried the behind flag set: byte 5 of its payload (R30, R152). -/
def carriedBehind (f : Frame) : Bool := f.payload.getD 5 0 == 1

/-- R32: what follows the outcome of an AWAKE; R152: the behind-announced mark. -/
def awakeOutcome (f : Frame) (o : SendOutcome) (s : State) : State :=
  let again := s.announce.again
  match o with
  | .inForce _ =>
    let s := s.onAnnounce fun a => { a with timer := some s.tick, again := false }
    let s := s.onMirror fun m => { m with behindAnnounced := m.behindAnnounced || carriedBehind f }
    if again then placeAwake s else s
  | .objected _ | .spoiled => placeAwake (s.onAnnounce fun a => { a with again := false })
  | .taken | .busy | .unanswered => s

/-- What a change of causes an announcement (R31). -/
def State.announced (s : State) : DriveState × Role × Nat × Bool × Bool :=
  (s.drive.state, s.mirror.role, s.mirror.epoch, s.mirror.behind, s.duty)

/-- R31: a change in this event is announced. -/
def announceChange (before s : State) : State := if before.announced ≠ s.announced then placeAwake s else s

/-! ## The outgoing list -/

/-- A message made ready at the back of the watch unit's list (R161). -/
def watchReady (m : OutMsg) (s : State) : State := s.onWatch fun w => { w with out := w.out ++ [m] }

/-- A message taken out of the list, or withdrawn from the WATCH slot; true when it is removed (R161). -/
def watchRetract (p : OutMsg → Bool) (s : State) : Bool × State :=
  if s.watch.out.any p then (true, s.onWatch fun w => { w with out := w.out.filter fun m => !p m })
  else withdraw .watch p s

/-- The watch unit's marks of one station changed. -/
def onMarks (n : Station) (f : WatchMarks → WatchMarks) (s : State) : State :=
  s.onWatch fun w => { w with marks := w.marks.set n (f w.marks[n]) }

def isAbsentFor (n : Station) : OutMsg → Bool
  | .absent m => m == n
  | _ => false

def isForwardTo (n : Station) : OutMsg → Bool
  | .forward m _ _ => m == n
  | _ => false

def isForwardOf (n : Station) (k : Key) : OutMsg → Bool
  | .forward m j _ => m == n && j == k
  | _ => false

def isWatchTake : OutMsg → Bool
  | .watchTake => true
  | _ => false

def isWatchPass : OutMsg → Bool
  | .watchPass _ => true
  | _ => false

def isAsleep : OutMsg → Bool
  | .asleep => true
  | _ => false

/-- What a loss of duty withdraws (R165). -/
def isDutyWork : OutMsg → Bool
  | .wake _ _ | .absent _ | .forward _ _ _ | .watchPass _ => true
  | _ => false

/-- The place of a message among those made ready in one event: the station it concerns, a DONE after the others
(R161). -/
def OutMsg.rank (self : Station) : OutMsg → Nat
  | .done _ _ _ _ _ (some n) => 2 * n.val + 1
  | .absent n => 2 * n.val
  | .watchPass n | .forward n _ _ => 2 * n.val
  | .wake m _ => match (List.finRange 16).find? fun n => m.getLsbD n.val with | some n => 2 * n.val | none => 0
  | _ => 2 * self.val

/-- R161: the messages made ready in this event, in ascending order of the station that each concerns. -/
def orderWatch (before : List OutMsg) (s : State) : State :=
  s.onWatch fun w =>
    let parts := splitFresh before w.out
    { w with out := parts.1 ++ inOrder 32 (·.rank s.station) parts.2 }

/-- R161: the front message placed when the WATCH slot is empty. -/
def placeWatch (s : State) : State :=
  match s.slot .watch, s.watch.out with
  | none, m :: rest => (s.onWatch fun w => { w with out := rest }).putSlot .watch (some m)
  | _, _ => s

/-! ## The proxy queue -/

/-- The entry of the proxy queue with a target and a key. -/
def State.proxyEntry (n : Station) (k : Key) (s : State) : Option ProxyEntry :=
  s.watch.proxy.find? fun e => e.target == n && e.key == k

/-- An entry of the proxy queue changed in place. -/
def onProxy (n : Station) (k : Key) (f : ProxyEntry → ProxyEntry) (s : State) : State :=
  s.onWatch fun w => { w with proxy := w.proxy.map fun e => if e.target = n ∧ e.key = k then f e else e }

/-- An entry leaves the proxy queue. -/
def leaveProxy (n : Station) (k : Key) (s : State) : State :=
  s.onWatch fun w => { w with proxy := w.proxy.filter fun e => !(e.target == n && e.key == k) }

/-- R173: an entry ends with a DONE on its target's behalf. -/
def endProxy (st : Status) (e : ProxyEntry) (s : State) : State :=
  watchReady (.done e.key.origin e.key.tag st false none (some e.target)) (leaveProxy e.target e.key s)

/-- The entry is FORWARDING (R169). -/
def ProxyEntry.forwarding (e : ProxyEntry) : Bool := e.state != .held

/-- R172: an entry goes to step SENDING with a FORWARD made ready. -/
def sendForward (e : ProxyEntry) (s : State) : State :=
  watchReady (.forward e.target e.key e.req)
    (onProxy e.target e.key (fun e => { e with state := .sending, expired := false, recalled := false }) s)

/-- R172: the oldest entry of a target is forwarded, unless one of that target is FORWARDING already. A FORWARD to the target
that is still pending although its entry has ended holds the next one back, at an AWAKE of the target too (log 19). -/
def forwardNext (n : Station) (s : State) : State :=
  if s.duty ∧ !(s.watch.proxy.any fun e => e.target == n && e.forwarding) ∧ !s.watchPending (isForwardTo n) then
    match s.watch.proxy.find? fun e => e.target == n with
    | some e => sendForward e s
    | none => s
  else s

/-- What becomes of an entry whose FORWARD was not taken: its time has run out (R173), it was recalled (R169), or the
outcome decides (R172). -/
def forwardFailed (e : ProxyEntry) (next : ProxyState) (s : State) : State :=
  if e.expired then endProxy .notAwake e s
  else if e.recalled then
    onProxy e.target e.key (fun e => { e with state := .held, recalled := false }) s
  else
    match next with
    | .sending => sendForward e s
    | .held | .retry _ => onProxy e.target e.key (fun e => { e with state := next }) s

/-- R172: the outcome of a FORWARD. A FORWARD whose entry has left already lets the next entry go when it is taken
(log 19). -/
def forwardOutcome (n : Station) (k : Key) (o : SendOutcome) (s : State) : State :=
  match s.proxyEntry n k, o with
  | some _, .taken => forwardNext n (leaveProxy n k s)
  | none, .taken => forwardNext n s
  | none, _ => s
  | some e, .busy => forwardFailed e (.retry s.tick) s
  | some e, .spoiled => forwardFailed e .sending s
  | some e, .unanswered => forwardFailed e .held s
  | some _, .inForce _ | some _, .objected _ => s

/-- R169: an ASLEEP of a target returns its FORWARDING entries to HELD, and its pending FORWARD is withdrawn. -/
def recallForwards (n : Station) (s : State) : State :=
  let r := watchRetract (isForwardTo n) s
  r.2.onWatch fun w =>
    { w with proxy := w.proxy.map fun e =>
        if e.target = n ∧ e.forwarding then
          if r.1 = false ∧ e.state = .sending then { e with recalled := true } else { e with state := .held }
        else e }

/-- R172: entries of a target that wait in step RETRY are forwarded again. -/
def retryForwards (n : Station) (s : State) : State :=
  (s.watch.proxy.filter fun e =>
      e.target == n && (match e.state with | .retry _ => true | .held | .sending => false)).foldl
    (fun s e => sendForward e s) s

/-- R173: the 3000-tick limit of an entry. -/
def proxyLimit (e : ProxyEntry) (s : State) : State :=
  if e.state = .sending ∧ s.watchPending (isForwardOf e.target e.key) then
    let r := watchRetract (isForwardOf e.target e.key) s
    if r.1 then endProxy .notAwake e r.2
    else onProxy e.target e.key (fun e => { e with expired := true }) r.2
  else endProxy .notAwake e s

/-- R173: every entry of the stations that satisfy `p` ends NOT_AWAKE, in the order of their creation. -/
def endProxies (p : Station → Bool) (s : State) : State :=
  (s.watch.proxy.filter fun e => p e.target).foldl (fun s e => endProxy .notAwake e s) s

/-- R173: a DONE of `o` in force names the request of an entry, or lets a FORWARD go again (R172). -/
def proxyDoneSeen (o t : Station) (tag : Tag) (s : State) : State :=
  if s.duty then retryForwards o (leaveProxy o ⟨t, tag⟩ s) else s

/-! ## Duty -/

/-- R165: the station gains duty; its announcement is that of a change (R31). -/
def gainDuty (s : State) : State := s.onWatch fun w => { w with term := some s.seconds }

/-- R165: the station loses duty. -/
def loseDuty (s : State) : State :=
  let s := endProxies (fun _ => true) s
  let s := (watchRetract isDutyWork s).2
  let s := (withdraw .watch isDutyWork s).2
  s.onWatch fun w => { w with term := none, passCheck := none, marks := Vector.replicate 16 .clear }

/-- R165: duty gained or lost in this event. A station that holds duty already gains none, and its term goes on (log 51). -/
def dutyEdge (before s : State) : State :=
  if s.duty && !before.duty then gainDuty s
  else if before.duty && !s.duty then loseDuty s
  else s

/-- R166: a WATCH-TAKE is made ready when the take test calls for one, and taken back when it stops calling. -/
def followTakeTest (s : State) : State :=
  if s.takeTest then (if s.watchPending isWatchTake then s else watchReady .watchTake s)
  else if s.watchPending isWatchTake then (watchRetract isWatchTake s).2
  else s

/-- The station to pass duty to: the first LISTENING bay above the own number, counting on from 15 to 0 (R167). -/
def State.passTarget (s : State) : Option Station :=
  (List.range 15).findSome? fun i =>
    let n : Station := s.station + (Fin.ofNat 16 (i + 1))
    if s.peers[n].state = .listening ∧ s.peers[n].kind = .bay then some n else none

/-- R167: a check of the holder. -/
def passCheckNow (s : State) : State :=
  if s.duty ∧ s.watch.proxy.isEmpty ∧ !s.watchPending isWatchPass then
    match s.passTarget with
    | some n => watchReady (.watchPass n) s
    | none => s
  else s

/-- The target of a pending WATCH-PASS has left LISTENING, or a proxy entry has come (R167). -/
def passLapsed (s : State) : OutMsg → Bool
  | .watchPass n => !s.watch.proxy.isEmpty || s.peers[n].state != .listening
  | _ => false

/-- R167: a WATCH-PASS that no longer fits is taken back. -/
def followPass (s : State) : State :=
  if s.watchPending (passLapsed s) then (watchRetract (passLapsed s) s).2 else s

/-- R171: the wakes that the holder's test calls for. -/
def makeWakes (s : State) : State :=
  (List.finRange 16).foldl
    (fun s n => if s.wakeTest n then watchReady (.wake (1#16 <<< n.val) .proxy) s else s) s

/-- R168: the absence test of one station. -/
def State.absenceDue (n : Station) (s : State) : Bool :=
  s.duty && n != s.station && s.peers[n].state == .listening
    && Config.silenceTicks ≤ elapsed s.tick s.peers[n].lastHeard
    && s.watch.marks[n].absenceHold.isNone && !s.watchPending (isAbsentFor n)

/-- R168: the holder tests every entry. -/
def declareAbsences (s : State) : State :=
  (List.finRange 16).foldl (fun s n => if s.absenceDue n then watchReady (.absent n) s else s) s

/-- R162, R163: ASLEEP is placed when the sleep conditions hold, and withdrawn when one of them ends. -/
def followSleep (s : State) : State :=
  if s.slotHolds .watch isAsleep then
    if s.sleepConditions true then s else (withdraw .watch isAsleep s).2
  else if s.sleepConditions (s.slot .watch).isNone then s.putSlot .watch (some .asleep)
  else s

end Sys2Proof.Machine
end

