-- ==== Sys2Proof/Machine/Settle.lean ====
section
/-!
DEFINITION. What follows inside every step. The manual states many tests "in every event that changes" some value; here
each step ends by making those tests once, in one fixed order (log 4), and by filling empty send slots.
-/

namespace Sys2Proof.Machine

/-! ## Ends of a census and of wakefulness -/

/-- R160: the census ends COMPLETE; the station becomes LISTENING and places its first AWAKE. -/
def enterListening (s : State) : State :=
  placeAwake ((s.setPower .listening).onWatch fun w => { w with listeningSince := s.tick })

/-- R53: a census ends with the tables as they stand. -/
def completeCensus (s : State) : State :=
  enterListening
    ((s.onShelf fun x => { x with census := .complete }).onClaim fun c => { c with tableTimer := none })

/-- R163, R21: the station enters SLEEPING. -/
def enterSleeping (s : State) : State :=
  let s := sleepMirror (sleepBudget s)
  let s := s.onBus fun b => { b with slots := .empty, sending := none }
  let s := s.onAnnounce fun a => { a with timer := none, again := false }
  let s := s.onDrive fun d => { d with need := false }
  (s.onWatch fun _ => .reset).setPower .sleeping

/-- R164, R39, R125, R152, R155, R161, R51: a WAKE in force puts a SLEEPING station in RESUMING. -/
def resume (s : State) : State :=
  let s := (s.setPower .resuming).onPeers fun _ => Vector.replicate 16 (.fresh s.tick)
  let s := s.onWatch fun _ => .reset
  let s := setBehind (s.onMirror fun m => { m with readWake := false, behindAnnounced := false })
  censusStart (s.onDrive fun d => { d with idle := none })

/-! ## The tests after an event -/

/-- The mirror unit's link, promotion and resync (R123, R145, R155, R159). -/
def settleMirror (s : State) : State :=
  resyncWakeTest (startResync (dropPromotion (judgeLink s)))

/-- The drive lane: entries for the mirror unit (R110), the engine's pages (R148), the next command (R76). -/
def settleLane (s : State) : State := chooseCommand (takePages (handSpecials s))

/-- The REQUEST, MIRROR and RESYNC slots (R115, R130, R149); `b` is the state before the event. -/
def settleSlots (b s : State) : State :=
  placeResync (placeMirror (placeRequest (orderMirror b.mirror.out (orderFresh b.request.out.length s))))

/-- Pages freed by a placed answer may serve the engine (R148, R76). -/
def settlePages (s : State) : State := chooseCommand (takePages s)

/-- The need for spin-up, the claim and the idle timer (R68, R58, R77). -/
def settlePower (s : State) : State := updateIdle (settleBudget (reportNeed s))

/-- The watch unit: WATCH-PASS, WATCH-TAKE, wakes, the order of its list and the WATCH slot (R161, R166, R167, R171),
then sleep (R162); an ASLEEP withdrawn leaves the slot to the next message. `before` is its list before the event. -/
def settleWatch (before : List OutMsg) (s : State) : State :=
  placeWatch (followSleep (placeWatch (orderWatch before (makeWakes (followTakeTest (followPass s))))))

/-- Everything that follows an event at a station that takes part; `b` is the state before the event. The idle timer's
conditions are judged on the event's own effect and again at the end: a request that the event takes and ends stops the
timer, which then starts from 0 (R77). -/
def settleActive (b s : State) : State :=
  announceChange b
    (settleWatch b.watch.out
      (settlePower
        (settlePages
          (settleSlots b
            (settleLane (settleMirror (hotAction (dutyEdge b (stopIdle s)))))))))

/-- What follows an event, by power state (R9): an UNSET station only sends REPORTs; one that sleeps or reads its
settings does nothing. -/
def settle (b s : State) : State :=
  if s.takesPart then settleActive b s
  else if s.power = .unset then placeRequest s
  else s

/-- A step of the station: nothing while reset is asserted; otherwise the event and what follows it. -/
def event (f : State → State) (s : State) : State := if s.resetAsserted then s else settle s (f s)

/-- Every command takes a next state. -/
def takeEvent (f : State → State) (s : State) : Host.Outcome State Fault Refusal := .next (event f s)

end Sys2Proof.Machine
end

