-- ==== Sys2Proof/Machine/Hear.lean ====
section
/-!
DEFINITION. Reception (R7 to R15, R22, R23, R37): one operation that judges a message, drives the answer slot and, when
the message comes into force, applies it; the watch unit's answers for sleeping stations (R170); what several kinds
bring about when they come into force, at a receiver and at their own sender alike.
-/

namespace Sys2Proof.Machine

/-! ## Hearing a message -/

/-- R14: whether a broadcast comes into force, given the station's own decision. -/
def broadcastInForce (d : Answer) (a : AnswerSlot) : Bool :=
  !a.obj && (a.ownFails || !(d == .objection || d == .busy))

/-- R13: whether a targeted message comes into force, given the station's own decision. -/
def targetedInForce (d : Answer) (a : AnswerSlot) : Bool := a.ack || (d == .acknowledge && !a.ownFails)

/-- R37: a message of station `o` has come into force: its last-heard tick, its waking mark at a holder (R170), and a
pending ABSENT naming it (R168). -/
def heard (o : Station) (s : State) : State :=
  let s := s.onPeers fun v => v.set o { v[o] with lastHeard := s.tick }
  let s := if s.duty ∧ s.peers[o].state = .sleeping then onMarks o (fun m => { m with waking := some s.tick }) s else s
  (watchRetract (isAbsentFor o) s).2

/-- A message of station `o` whose payload the owning block reads as `body` (none: malformed, R3). `judge` decides the
station's answer (R10); `effect` is what the message does in force, given that answer (R11, R13, R14). A message of the
own number goes to no block (R23). The origin of every message in force is heard, of an ABSENT that names the station
itself too (R37; log 32). -/
def hear {α : Type} (inForce : Answer → Bool) (o : Station) (body : Option α) (judge : α → State → Answer × State)
    (effect : α → Answer → State → State) (s : State) : State :=
  if s.takesPart = false ∨ o = s.station then s.answers .nothing
  else
    match body with
    | none => s.answers .nothing
    | some x =>
      let r := judge x s
      let s := r.2.answers r.1
      if inForce r.1 then effect x r.1 (heard o s) else s

/-- Every station that is handed the broadcast takes it. -/
def taken {α : Type} (_ : α) (s : State) : Answer × State := (.acknowledge, s)

/-- No station answers. -/
def unanswered {α : Type} (_ : α) (s : State) : Answer × State := (.nothing, s)

/-! ## Answering for a sleeping station (R170) -/

/-- A wake-wanted flag set (R170). -/
def wantWake (t : Station) (s : State) : State := onMarks t (fun m => { m with wakeWanted := true }) s

/-- R170: the answer to a READ or PROBE for a sleeping target. -/
def proxyHold (t : Station) (k : Key) (s : State) : Answer × State :=
  if s.answersFor t then
    (if (s.proxyEntry t k).isSome ∨ s.proxyLoad < Config.proxyRoom then .acknowledge else .busy, wantWake t s)
  else (.nothing, s)

/-- R170: the READ or PROBE is in force and was taken: its entry is refreshed or created. -/
def proxyTake (t : Station) (k : Key) (q : ProxyReq) (s : State) : State :=
  if (s.proxyEntry t k).isSome then onProxy t k (fun e => { e with req := q }) s
  else s.onWatch fun w =>
    { w with proxy := w.proxy ++
        [{ target := t, key := k, req := q, arrival := s.tick, state := .held, expired := false, recalled := false }] }

/-- R170: the answer to a request that the holder cannot hold. -/
def proxyRefuse (t : Station) (s : State) : Answer × State :=
  if s.answersFor t then (.busy, wantWake t s) else (.nothing, s)

/-- A HELD entry for a CANCEL (R170). -/
def State.heldEntry (t : Station) (k : Key) (s : State) : Bool :=
  match s.proxyEntry t k with
  | some e => e.state == .held
  | none => false

/-! ## Effects in force -/

/-- R170: a WAKE in force with its acknowledge bit dominant sets the waking marks of its sleeping stations. -/
def markWaking (mask : BitVec 16) (s : State) : State :=
  if s.duty then
    s.onWatch fun w =>
      { w with marks := Vector.ofFn fun n =>
          if mask.getLsbD n.val ∧ n ≠ s.station ∧ s.peers[n].state = .sleeping then
            { w.marks[n] with waking := some s.tick }
          else w.marks[n] }
  else s

/-- A waking mark cleared (R170). -/
def clearWaking (n : Station) (s : State) : State := onMarks n (fun m => { m with waking := none }) s

/-- The partner-behind note is cleared when the partner's entry leaves LISTENING (R137). -/
def noteCleared (n : Station) (s : State) : State :=
  if s.partner = some n then s.onMirror fun m => { m with partnerBehind := false } else s

/-- R33: the entry of a station after its AWAKE. -/
def PresenceEntry.announce (e : PresenceEntry) (x : Announcement) (now : Tick) : PresenceEntry :=
  { e with state := .listening, kind := if x.bay then .bay else .other, lastHeard := now, drive := x.drive,
           role := x.role, epoch := x.epoch, behind := x.behind, usable := x.usable, duty := x.duty,
           budget := x.budget, holding := x.holding }

/-- R33: the budget-mismatch counter. -/
def countMismatch (b : Nat) (s : State) : State :=
  if s.shelf.census = .complete ∧ b ≠ s.shelf.budget then
    s.onAnnounce fun a => { a with mismatches := satInc a.mismatches }
  else s

/-- What the mirror unit does with its partner's AWAKE, in the order of R154 and R156: the role test, the
partner-behind note, the rejoin test. -/
def partnerAwake (o : Station) (x : Announcement) (s : State) : State :=
  if s.partner = some o then
    rejoinTest x.role x.epoch x.behind (noteBehind x.behind (roleTest x.role x.epoch s))
  else s

/-- R33: an AWAKE in force, with its effects at the mirror unit and the watch unit (R156, R137, R154, R172). -/
def awakeInForce (o : Station) (x : Announcement) (s : State) : State :=
  let s := s.onPeers fun v => v.set o (v[o].announce x s.tick)
  forwardNext o (partnerAwake o x (clearWaking o (countMismatch x.budget s)))

/-- R34, R49, R137, R169, R170: an ASLEEP of another station in force. -/
def asleepInForce (o : Station) (s : State) : State :=
  let s := s.onPeers fun v =>
    v.set o { v[o] with state := .sleeping, drive := .off, holding := 0, lastHeard := s.tick }
  let s := s.onShelf fun x => x.clearStation o
  recallForwards o (clearWaking o (noteCleared o s))

/-- R35, R49, R137, R168, R170, R173: an ABSENT naming another station in force. -/
def absentInForce (n : Station) (s : State) : State :=
  let s := s.onPeers fun v => v.set n { v[n] with state := .absent, holding := 0 }
  let s := s.onShelf fun x => x.clearStation n
  let s := (watchRetract (isAbsentFor n) (clearWaking n (noteCleared n s))).2
  endProxies (fun t => t == n) s

/-- R64, R81: an ABSENT naming the station itself in force; its origin has been heard all the same (log 32). -/
def expelled (s : State) : State := enterFault .expelled (expelBudget s)

/-- R50: watch duty moves. -/
def moveWatch (n : Station) (s : State) : State := s.onShelf fun x => x.setWatch n

/-- R55, R56: a TABLE in force at another station than its sender. -/
def tableInForce (t : TableBody) (s : State) : State :=
  if s.shelf.census = .incomplete then enterListening (adoptTable t s)
  else (budgetRetract (isTableFor t.querier) s).2

end Sys2Proof.Machine
end

