-- ==== Sys2Proof/Machine/Line.lean ====
section
/-!
DEFINITION. Reset, the settings read, and the bus port as a sender: the idle line, arbitration, outcomes; dropped
messages (chapter 1; R66, R174, R175).
-/

namespace Sys2Proof.Machine

/-! ## Reset and settings -/

/-- R66, R21, R38, R42, R85, R89, R120, R121, R144, R161: every block takes its reset values and drive power is removed;
the line is released. The buffer and the block store keep their bytes (logs 7, 8). -/
def State.assertReset (s : State) : State :=
  { State.resetWith s.station s.buffer s.mirror.blockStore s.pending with resetAsserted := true }

/-- RESET_ASSERT (R66). -/
def execResetAssert (s : State) : Host.Outcome State Fault Refusal := .next s.assertReset

/-- R174: the station number from the strap pins. -/
def strapNumber (straps : BitVec 4) : Station := straps.toFin

/-- RESET_RELEASE (R174, R25): STARTING, with the counts at 0; the settings read is under way. -/
def execResetRelease (straps : BitVec 4) (s : State) : Host.Outcome State Fault Refusal :=
  .next (if s.resetAsserted then State.resetWith (strapNumber straps) s.buffer s.mirror.blockStore s.pending else s)

/-- R175: the end of the settings read. -/
def settingsRead (r : SettingsRead) (s : State) : State :=
  if s.power = .starting ∧ s.settingsResult = none then
    let t := testSettings s.station r
    let s := s.setSettings t.1 t.2
    if t.1 = .good then censusStart s else s.setPower .unset
  else s

/-- SETTINGS_READ_DONE (R175). -/
def execSettingsReadDone (r : SettingsRead) (s : State) : Host.Outcome State Fault Refusal :=
  takeEvent (settingsRead r) s

/-! ## Starting a transmission -/

/-- The pending messages with their slots, in slot order. -/
def State.waiting (s : State) : List (SlotId × OutMsg) :=
  [SlotId.budget, .presence, .watch, .request, .mirror, .resync].filterMap fun i => (s.slot i).map fun m => (i, m)

/-- The one of lower class; of equal class the one in the lower slot (R18). -/
def lowerClass (best : Option (SlotId × OutMsg)) (c : SlotId × OutMsg) : Option (SlotId × OutMsg) :=
  match best with
  | none => some c
  | some b => if classOfKind c.2.kind < classOfKind b.2.kind then some c else some b

/-- R9, R18, R21: the message that the next idle line takes. -/
def State.nextToSend (s : State) : Option (SlotId × OutMsg) :=
  if s.takesPart then s.waiting.foldl lowerClass none
  else if s.power = .unset then
    match s.slot .request with
    | some (.report d t i c) => some (.request, .report d t i c)
    | _ => none
  else none

/-- The frame of a pending message as its start bit fixes it (R20). -/
def State.frameFor (m : OutMsg) (s : State) : Frame := m.frame s.station (m.payload s.announcement s.tableFor)

/-- R2, R18: on an idle line the chosen message's start bit is sent; with none pending the line stays idle. -/
def startSend (s : State) : State :=
  match s.bus.sending, s.nextToSend with
  | none, some c =>
    s.onBus fun b =>
      { b with
        sending := some { slot := c.1, msg := c.2, frame := s.frameFor c.2, won := false, withdrawal := .notAsked }
        idle := false }
  | none, none => s.onBus fun b => { b with idle := true }
  | some _, _ => s

/-- R2: a message has become pending on a line that has been idle for longer; its start bit goes in the first bit time after.
That bit time is a step on an empty queue (log 5). -/
def State.startsAtOnce (s : State) : Bool := s.bus.idle && s.bus.sending.isNone && s.nextToSend.isSome

/-- LINE_IDLE (R2, R18). -/
def execLineIdle (s : State) : Host.Outcome State Fault Refusal := takeEvent startSend s

/-! ## Arbitration -/

/-- What the owner does when a held withdrawal is taken (R19): the claim is given up (R61), the full RELEASE follows
(R63), a proxy entry returns to HELD or ends (R169, R173). -/
def afterRemoval (m : OutMsg) (s : State) : State :=
  match m with
  | .claim _ => claimRemoved s
  | .release _ _ .settle => settleRemoved s
  | .forward n k _ =>
    (match s.proxyEntry n k with
     | some e => forwardFailed e .held s
     | none => s)
  | _ => s

/-- R5, R19: the contest is lost; the message stays pending, or goes if its withdrawal was asked for. The loss is counted
in either case (log 31), but not at a station that keeps its counters (R9; log 42). -/
def loseArbitration (s : State) : State :=
  match s.bus.sending with
  | some t =>
    if t.won then s
    else
      let s := s.onBus fun b => { b with sending := none, arbLosses := s.sendCount b.arbLosses }
      if t.withdrawal = .held then afterRemoval t.msg (s.putSlot t.slot none) else s
  | none => s

/-- ARBITRATION_LOST (R5). -/
def execArbitrationLost (s : State) : Host.Outcome State Fault Refusal := takeEvent loseArbitration s

/-- R5, R19: the contest is won; a held withdrawal is refused. -/
def winArbitration (s : State) : State :=
  s.onBus fun b =>
    { b with sending := b.sending.map fun t =>
        { t with won := true, withdrawal := if t.withdrawal = .held then .refused else t.withdrawal } }

/-- ARBITRATION_WON (R19). -/
def execArbitrationWon (s : State) : Host.Outcome State Fault Refusal := takeEvent winArbitration s

/-! ## Outcomes -/

/-- R16: the outcome that the two answer bits give. -/
def outcomeOf (m : OutMsg) (ack obj : Bool) : SendOutcome :=
  match m.dest with
  | some _ => if ack then .taken else if obj then .busy else .unanswered
  | none => if obj then .objected ack else .inForce ack

/-- R13, R14: the message came into force. -/
def SendOutcome.came : SendOutcome → Bool
  | .taken | .inForce _ => true
  | .busy | .unanswered | .objected _ | .spoiled => false

/-- R53: the outcome of the QUERY. -/
def queryOutcome (o : SendOutcome) (s : State) : State :=
  if s.shelf.census = .complete then s
  else
    match o with
    | .inForce false => completeCensus s
    | .inForce true => s.onClaim fun c => { c with tableTimer := some s.tick }
    | .objected _ | .spoiled => readyQuery s
    | .taken | .busy | .unanswered => s

/-- R59, R62, R69: the outcome of the own CLAIM. -/
def claimOutcome (u : Nat) (o : SendOutcome) (s : State) : State :=
  if o.came then
    let r := ownClaimDecided u s
    if r.1 = .admitted then admission r.2 else r.2
  else ownClaimFailed s

/-- R48, R62, R63: the outcome of an own RELEASE. -/
def releaseOutcome (u : Nat) (flag : Bool) (why : ReleaseWhy) (o : SendOutcome) (s : State) : State :=
  ownReleaseOutcome why o.came (if o.came then s.onShelf fun x => x.release s.station u flag else s)

/-- R56: the outcome of an own TABLE. -/
def tableOutcome (q : Station) (o : SendOutcome) (s : State) : State := if o.came then s else readyTable q s

/-- R163: the outcome of the ASLEEP. -/
def asleepOutcome (o : SendOutcome) (s : State) : State :=
  if o.came then enterSleeping (s.onShelf fun x => x.clearStation s.station)
  else s.onWatch fun w => { w with sleepRetry := some (tickAfter s.tick Config.holdTicks) }

/-- A broadcast in force with its acknowledge bit dominant (R14). -/
def SendOutcome.acked : SendOutcome → Bool
  | .inForce a => a
  | .taken | .busy | .unanswered | .objected _ | .spoiled => false

/-- R171: the outcome of a WAKE of the watch unit for station `n`. -/
def proxyWakeOutcome (mask : BitVec 16) (o : SendOutcome) (s : State) : State :=
  if s.duty then
    if o.came then
      s.onWatch fun w =>
        { w with marks := Vector.ofFn fun n =>
            if mask.getLsbD n.val then { w.marks[n] with lastWake := some s.tick, wakeWanted := false }
            else w.marks[n] }
    else watchReady (.wake mask .proxy) s
  else s

/-- R155, R171: the outcome of an own WAKE; in force and acknowledged it sets waking marks (R170). The wake interval does
not start at a station that is no longer PRIMARY (log 40). -/
def wakeOutcome (mask : BitVec 16) (why : WakeWhy) (o : SendOutcome) (s : State) : State :=
  let s := if o.acked then markWaking mask s else s
  match why with
  | .proxy => proxyWakeOutcome mask o s
  | .resync =>
    if o.came then
      (if s.mirror.role = .primary then s.onMirror fun m => { m with wakeInterval := some s.tick } else s)
    else mirrorReady (.wake mask .resync) s
  | .read => if o.came then s else mirrorReady (.wake mask .read) s

/-- R168: the outcome of an own ABSENT. -/
def absentOutcome (n : Station) (o : SendOutcome) (s : State) : State :=
  if o.came then absentInForce n s
  else if s.duty then
    onMarks n (fun m => { m with absenceHold := some (tickAfter s.tick Config.holdTicks) }) s
  else s

/-- R166: the outcome of the WATCH-TAKE. -/
def watchTakeOutcome (o : SendOutcome) (s : State) : State :=
  if o.came then moveWatch s.station s
  else s.onWatch fun w => { w with takeHold := some (tickAfter s.tick Config.holdTicks) }

/-- R167: the outcome of the WATCH-PASS. -/
def watchPassOutcome (n : Station) (o : SendOutcome) (s : State) : State := if o.came then moveWatch n s else s

/-- R130: the outcome of a MIRROR-ACK or MIRROR-MISS; `again` is the message with one more attempt counted. A MIRROR-MISS
made ready again does not set the behind flag again (log 36). -/
def mirrorAnswerOutcome (attempts : Nat) (again : OutMsg) (o : SendOutcome) (s : State) : State :=
  match o with
  | .busy | .spoiled =>
    if attempts + 1 < Config.mirrorAttempts then s.onMirror fun m => { m with out := again :: m.out } else s
  | .taken | .unanswered | .inForce _ | .objected _ => s

/-- R22, R127: an own DATA piece for the partner that came into force reaches the mirror unit of a FOLLOWING secondary as any
DATA for the partner does. No REPLICA entry holds the own number as its origin (a message of the own number is handed to no
block, R23), so the piece matches none and sets the behind flag (`ownData_snooped`). -/
def ownData (d : Station) (o : SendOutcome) (s : State) : State :=
  if o.came ∧ s.mirror.link = .following ∧ s.partner = some d then setBehind s else s

/-- The effects of an own message in force (R13, R14, R22) and its owner's handling of the outcome. A message of the
engine whose withdrawal was refused is ignored (R153). -/
def sendDone (t : Sending) (o : SendOutcome) (s : State) : State :=
  match t.msg with
  | .claim u => claimOutcome u o s
  | .release u flag why => releaseOutcome u flag why o s
  | .query => queryOutcome o s
  | .table q => tableOutcome q o s
  | .awake => awakeOutcome t.frame o s
  | .asleep => asleepOutcome o s
  | .wake mask why => wakeOutcome mask why o s
  | .absent n => absentOutcome n o s
  | .watchTake => watchTakeOutcome o s
  | .watchPass n => watchPassOutcome n o s
  | .forward n k _ => forwardOutcome n k o s
  | .done _ _ _ _ _ _ => s
  | .data d tag i resync _ =>
    if resync then (if t.withdrawal = .notAsked then resyncSlotOutcome (some i) o s else s)
    else pieceOutcome ⟨d, tag⟩ o (ownData d o s)
  | .report _ _ _ _ => s
  | .mirrorAck d k st n ans => mirrorAnswerOutcome n (.mirrorAck d k st (n + 1) ans) o s
  | .mirrorMiss d k st c n ans => mirrorAnswerOutcome n (.mirrorMiss d k st c (n + 1) ans) o s
  | .resyncBegin _ tag _ => if t.withdrawal = .notAsked then resyncBeginOutcome tag o s else s
  | .resyncEnd _ _ rejoin => if t.withdrawal = .notAsked then resyncEndOutcome rejoin o s else s
  | .resyncWrite _ _ _ _ => if t.withdrawal = .notAsked then resyncSlotOutcome none o s else s

/-- R16: the slot empties and the outcome is handled; a SPOILED send is counted (R6), but not at a station that keeps its
counters (R9; log 42). -/
def finishSend (outcome : OutMsg → SendOutcome) (spoiled : Bool) (s : State) : State :=
  match s.bus.sending with
  | some t =>
    if t.won then
      sendDone t (outcome t.msg)
        ((s.onBus fun b =>
            { b with sending := none, spoiled := if spoiled then s.sendCount b.spoiled else b.spoiled }).putSlot t.slot none)
    else s
  | none => s

/-- SEND_SPOILED (R6). -/
def execSendSpoiled (s : State) : Host.Outcome State Fault Refusal :=
  takeEvent (finishSend (fun _ => .spoiled) true) s

/-- SEND_OUTCOME (R16). -/
def execSendOutcome (ack obj : Bool) (s : State) : Host.Outcome State Fault Refusal :=
  takeEvent (finishSend (fun m => outcomeOf m ack obj) false) s

/-! ## Dropped messages -/

/-- R8: the station objects to a message with a check error; R125 for a FOLLOWING secondary. -/
def checkFailed (f : Frame) (s : State) : State :=
  if s.takesPart ∧ headerMalformed f.header = false ∧ f.check ≠ frameCheck f.header f.payload then
    let s := (s.answers .objection).onBus fun b => { b with checkErrors := satInc b.checkErrors }
    if s.mirror.link = .following then setBehind s else s
  else s.answers .nothing

/-- CHECK_ERROR (R8). -/
def execCheckError (f : Frame) (s : State) : Host.Outcome State Fault Refusal := takeEvent (checkFailed f) s

/-- FILL_ERROR_DROP (R7): neither answer bit, no counter. -/
def execFillErrorDrop (s : State) : Host.Outcome State Fault Refusal := takeEvent (fun s => s.answers .nothing) s

/-- MALFORMED_DROP (R3): neither answer bit, no counter, whatever the header. -/
def execMalformedDrop (_h : Header) (s : State) : Host.Outcome State Fault Refusal :=
  takeEvent (fun s => s.answers .nothing) s

end Sys2Proof.Machine
end

