-- ==== Sys2Proof/Machine/Broadcasts.lean ====
section
/-!
DEFINITION. The broadcasts received: CLAIM, RELEASE, QUERY, TABLE (chapter 3), AWAKE, ASLEEP, ABSENT (chapter 2), WAKE,
WATCH-TAKE (chapter 9).
-/

namespace Sys2Proof.Machine

/-- R45, R46, R47: a CLAIM. -/
def hearClaim (o : Station) (p : List Byte) (a : AnswerSlot) : State → State :=
  hear (broadcastInForce · a) o (parseClaim p) taken fun u _ s => s.onShelf fun x => (x.decide o u).2

/-- CLAIM_RECEIVED (R46). -/
def execClaimReceived (o : Station) (p : List Byte) (a : AnswerSlot) (s : State) : Host.Outcome State Fault Refusal :=
  takeEvent (hearClaim o p a) s

/-- R48: a RELEASE. -/
def hearRelease (o : Station) (p : List Byte) (a : AnswerSlot) : State → State :=
  hear (broadcastInForce · a) o (parseRelease p) taken fun r _ s => s.onShelf fun x => x.release o r.1 r.2

/-- RELEASE_RECEIVED (R48). -/
def execReleaseReceived (o : Station) (p : List Byte) (a : AnswerSlot) (s : State) : Host.Outcome State Fault Refusal :=
  takeEvent (hearRelease o p a) s

/-- R52: only a station whose census is COMPLETE takes a QUERY. -/
def queryAnswer (_ : Unit) (s : State) : Answer × State :=
  (if s.shelf.census = .complete then .acknowledge else .nothing, s)

/-- R52: a QUERY. -/
def hearQuery (o : Station) (p : List Byte) (a : AnswerSlot) : State → State :=
  hear (broadcastInForce · a) o (parseEmpty p) queryAnswer fun _ d s => if d = .acknowledge then readyTable o s else s

/-- QUERY_RECEIVED (R52). -/
def execQueryReceived (o : Station) (p : List Byte) (a : AnswerSlot) (s : State) : Host.Outcome State Fault Refusal :=
  takeEvent (hearQuery o p a) s

/-- R54, R55, R56: a TABLE. -/
def hearTable (o : Station) (p : List Byte) (a : AnswerSlot) : State → State :=
  hear (broadcastInForce · a) o (parseTable o p) taken fun t _ s => tableInForce t s

/-- TABLE_RECEIVED (R55). -/
def execTableReceived (o : Station) (p : List Byte) (a : AnswerSlot) (s : State) : Host.Outcome State Fault Refusal :=
  takeEvent (hearTable o p a) s

/-- R30, R33: an AWAKE. -/
def hearAwake (o : Station) (p : List Byte) (a : AnswerSlot) : State → State :=
  hear (broadcastInForce · a) o (parseAwake p) taken fun x _ s => awakeInForce o x s

/-- AWAKE_RECEIVED (R33). -/
def execAwakeReceived (o : Station) (p : List Byte) (a : AnswerSlot) (s : State) : Host.Outcome State Fault Refusal :=
  takeEvent (hearAwake o p a) s

/-- R34, R162: an ASLEEP. -/
def hearAsleep (o : Station) (p : List Byte) (a : AnswerSlot) : State → State :=
  hear (broadcastInForce · a) o (parseEmpty p) taken fun _ _ s => asleepInForce o s

/-- ASLEEP_RECEIVED (R34). -/
def execAsleepReceived (o : Station) (p : List Byte) (a : AnswerSlot) (s : State) : Host.Outcome State Fault Refusal :=
  takeEvent (hearAsleep o p a) s

/-- R164: the wake listener of a SLEEPING station takes a WAKE that marks it; in force, the station resumes. -/
def wakeListener (o : Station) (p : List Byte) (a : AnswerSlot) (s : State) : State :=
  match parseWake p with
  | some mask =>
    if o ≠ s.station ∧ mask.getLsbD s.station.val then
      let s := s.answers .acknowledge
      if broadcastInForce .acknowledge a then resume s else s
    else s.answers .nothing
  | none => s.answers .nothing

/-- R164, R170: a WAKE, by power state. -/
def hearWake (o : Station) (p : List Byte) (a : AnswerSlot) (s : State) : State :=
  if s.power = .sleeping then wakeListener o p a s
  else
    hear (broadcastInForce · a) o (parseWake p) unanswered
      (fun mask _ s => if a.ack then markWaking mask s else s) s

/-- WAKE_RECEIVED (R164). -/
def execWakeReceived (o : Station) (p : List Byte) (a : AnswerSlot) (s : State) : Host.Outcome State Fault Refusal :=
  takeEvent (hearWake o p a) s

/-- R36: a station objects to an ABSENT naming itself and announces; every other one takes it (R35). -/
def absentAnswer (n : Station) (s : State) : Answer × State :=
  if n = s.station then (.objection, placeAwake s) else (.acknowledge, s)

/-- R35, R36, R49, R64, R81: an ABSENT. -/
def hearAbsent (o : Station) (p : List Byte) (a : AnswerSlot) : State → State :=
  hear (broadcastInForce · a) o (parseAbsent o p) absentAnswer fun n _ s =>
    if n = s.station then expelled s else absentInForce n s

/-- ABSENT_RECEIVED (R35). -/
def execAbsentReceived (o : Station) (p : List Byte) (a : AnswerSlot) (s : State) : Host.Outcome State Fault Refusal :=
  takeEvent (hearAbsent o p a) s

/-- R166: the holder objects to a WATCH-TAKE; every other station takes it. -/
def watchTakeAnswer (_ : Unit) (s : State) : Answer × State := (if s.duty then .objection else .acknowledge, s)

/-- R50, R166: a WATCH-TAKE. -/
def hearWatchTake (o : Station) (p : List Byte) (a : AnswerSlot) : State → State :=
  hear (broadcastInForce · a) o (parseEmpty p) watchTakeAnswer fun _ _ s => moveWatch o s

/-- WATCH_TAKE_RECEIVED (R166). -/
def execWatchTakeReceived (o : Station) (p : List Byte) (a : AnswerSlot) (s : State) :
    Host.Outcome State Fault Refusal :=
  takeEvent (hearWatchTake o p a) s

end Sys2Proof.Machine
end

