-- ==== Sys2Proof/Machine/Targeted.lean ====
section
/-!
DEFINITION. The targeted messages received (R103 to R107, R119, R129, R133, R134, R146, R147, R152, R158, R167, R176,
R82), with what an overhearing secondary (R126, R127) and the watch station (R170, R173) make of those to others.
-/

namespace Sys2Proof.Machine

/-- Acknowledge or BUSY (R12). -/
def takeOrBusy (room : Bool) : Answer := if room then .acknowledge else .busy

/-- Acknowledge or nothing. -/
def takeOrNothing (ok : Bool) : Answer := if ok then .acknowledge else .nothing

/-! ## Watch duty -/

/-- R167: a LISTENING target takes a WATCH-PASS. -/
def watchPassAnswer (t : Station) (_ : Unit) (s : State) : Answer × State :=
  if t = s.station then (takeOrNothing (s.power == .listening), s) else (.nothing, s)

/-- R50, R167: a WATCH-PASS. -/
def hearWatchPass (o t : Station) (p : List Byte) (a : AnswerSlot) : State → State :=
  hear (targetedInForce · a) o (parseEmpty p) (watchPassAnswer t) fun _ _ s => moveWatch t s

/-- WATCH_PASS_RECEIVED (R167). -/
def execWatchPassReceived (o t : Station) (p : List Byte) (a : AnswerSlot) (s : State) :
    Host.Outcome State Fault Refusal :=
  takeEvent (hearWatchPass o t p a) s

/-! ## DONE -/

/-- R147: the resync engine takes the DONE that it waits for. -/
def doneAnswer (o t : Station) (b : DoneBody) (s : State) : Answer × State :=
  (takeOrNothing (t == s.station && s.engineTakes o b.tag), s)

/-- R147, R173: a DONE in force. -/
def doneInForce (o t : Station) (b : DoneBody) (d : Answer) (s : State) : State :=
  let s := if d = .acknowledge then engineDone b.status s else s
  proxyDoneSeen o t b.tag s

/-- R117: a DONE. -/
def hearDone (o t : Station) (p : List Byte) (a : AnswerSlot) : State → State :=
  hear (targetedInForce · a) o (parseDone p) (doneAnswer o t) (doneInForce o t)

/-- DONE_RECEIVED (R147). -/
def execDoneReceived (o t : Station) (p : List Byte) (a : AnswerSlot) (s : State) : Host.Outcome State Fault Refusal :=
  takeEvent (hearDone o t p a) s

/-! ## Answers of a secondary -/

/-- R129: a PRIMARY takes its partner's MIRROR-ACK or MIRROR-MISS. -/
def mirrorAnswerTaken (o t : Station) (s : State) : Bool :=
  t == s.station && s.mirror.role == .primary && s.partner == some o

/-- The WRITE entry of a name and start (R133, R134). -/
def State.writeEntry (k : Key) (start : BlockNo) (s : State) : Option Entry :=
  match s.entry k with
  | some e => if e.kind = .write ∧ (e.extent.map (·.start)) = some start then some e else none
  | none => none

/-- R133: a MIRROR-ACK in force at the primary. -/
def mirrorAckInForce (k : Key) (start : BlockNo) (s : State) : State :=
  match s.writeEntry k start with
  | some e =>
    (match e.state with
     | .waitMirror => endEntry k .ok s
     | .dataIn | .queued | .running => s.onEntry k fun e => { e with ackEarly := true }
     | .sending | .ending => s)
  | none => s

/-- R129, R133: a MIRROR-ACK. -/
def hearMirrorAck (o t : Station) (p : List Byte) (a : AnswerSlot) : State → State :=
  hear (targetedInForce · a) o (parseMirrorAck p) (fun _ s => (takeOrNothing (mirrorAnswerTaken o t s), s))
    fun b d s => if d = .acknowledge then mirrorAckInForce b.1 b.2 s else s

/-- MIRROR_ACK_RECEIVED (R133). -/
def execMirrorAckReceived (o t : Station) (p : List Byte) (a : AnswerSlot) (s : State) :
    Host.Outcome State Fault Refusal :=
  takeEvent (hearMirrorAck o t p a) s

/-- R134: a MIRROR-MISS in force at the primary. -/
def mirrorMissInForce (k : Key) (x : Extent) (s : State) : State :=
  let s := markExtent x s
  match s.writeEntry k x.start with
  | some e =>
    (match e.state with
     | .waitMirror => endEntry k .okDegraded s
     | .dataIn | .queued | .running =>
       setCopy { key := k, extent := e.extent.getD x, state := .missHeard } s
     | .sending | .ending => s)
  | none => s

/-- R129, R134: a MIRROR-MISS. -/
def hearMirrorMiss (o t : Station) (p : List Byte) (a : AnswerSlot) : State → State :=
  hear (targetedInForce · a) o (parseMirrorMiss p) (fun _ s => (takeOrNothing (mirrorAnswerTaken o t s), s))
    fun b d s => if d = .acknowledge then mirrorMissInForce b.1 b.2 s else s

/-- MIRROR_MISS_RECEIVED (R134). -/
def execMirrorMissReceived (o t : Station) (p : List Byte) (a : AnswerSlot) (s : State) :
    Host.Outcome State Fault Refusal :=
  takeEvent (hearMirrorMiss o t p a) s

/-! ## Requests for the mirror unit -/

/-- R146, R158: a RESYNC-BEGIN or PROMOTE is decided as a SYNC is (R103); a holder refuses it for a sleeper (R170). -/
def queueAnswer (o t : Station) (tag : Tag) (count : Nat) (s : State) : Answer × State :=
  if t = s.station then (takeOrBusy (s.room ⟨o, tag⟩ count), s) else proxyRefuse t s

/-- R146: a RESYNC-BEGIN. -/
def hearResyncBegin (o t : Station) (p : List Byte) (a : AnswerSlot) : State → State :=
  hear (targetedInForce · a) o (parseResyncBegin p) (fun b s => queueAnswer o t b.1 0 s)
    fun b d s => if d = .acknowledge then createMirrorEntry ⟨o, b.1⟩ (.resyncBegin b.2) s else s

/-- RESYNC_BEGIN_RECEIVED (R146). -/
def execResyncBeginReceived (o t : Station) (p : List Byte) (a : AnswerSlot) (s : State) :
    Host.Outcome State Fault Refusal :=
  takeEvent (hearResyncBegin o t p a) s

/-- R152: a SECONDARY takes its partner's RESYNC-END. -/
def resyncEndAnswer (o t : Station) (_ : Nat) (s : State) : Answer × State :=
  if t = s.station then (takeOrNothing (s.mirror.role == .secondary && s.partner == some o), s) else proxyRefuse t s

/-- R152: a taken RESYNC-END in force. -/
def resyncEndInForce (epoch : Nat) (s : State) : State :=
  if epoch = s.mirror.epoch ∧ s.mirror.behindAnnounced then s.onMirror fun m => { m with behind := false } else s

/-- R152: a RESYNC-END. -/
def hearResyncEnd (o t : Station) (p : List Byte) (a : AnswerSlot) : State → State :=
  hear (targetedInForce · a) o (parseResyncEnd p) (resyncEndAnswer o t)
    fun e d s => if d = .acknowledge then resyncEndInForce e s else s

/-- RESYNC_END_RECEIVED (R152). -/
def execResyncEndReceived (o t : Station) (p : List Byte) (a : AnswerSlot) (s : State) :
    Host.Outcome State Fault Refusal :=
  takeEvent (hearResyncEnd o t p a) s

/-- R158: a PROMOTE. -/
def hearPromote (o t : Station) (p : List Byte) (a : AnswerSlot) : State → State :=
  hear (targetedInForce · a) o (parseTag p) (fun tag s => queueAnswer o t tag 0 s)
    fun tag d s => if d = .acknowledge then createMirrorEntry ⟨o, tag⟩ .promote s else s

/-- PROMOTE_RECEIVED (R158). -/
def execPromoteReceived (o t : Station) (p : List Byte) (a : AnswerSlot) (s : State) :
    Host.Outcome State Fault Refusal :=
  takeEvent (hearPromote o t p a) s

/-! ## READ, WRITE, SYNC, RESYNC-WRITE -/

/-- R103, R170: the answer to a READ. -/
def readAnswer (o t : Station) (b : Tag × Extent) (s : State) : Answer × State :=
  if t = s.station then (takeOrBusy (s.room ⟨o, b.1⟩ b.2.count), s) else proxyHold t ⟨o, b.1⟩ s

/-- R104, R170: a taken READ in force. -/
def readInForce (o t : Station) (b : Tag × Extent) (d : Answer) (s : State) : State :=
  if d = .acknowledge then
    if t = s.station then createEntry ⟨o, b.1⟩ .read (some b.2) none s
    else proxyTake t ⟨o, b.1⟩ (.read b.2.start b.2.count) s
  else s

/-- R102, R103: a READ. -/
def hearRead (o t : Station) (p : List Byte) (a : AnswerSlot) : State → State :=
  hear (targetedInForce · a) o (parseExtent p) (readAnswer o t) (readInForce o t)

/-- READ_RECEIVED (R103). -/
def execReadReceived (o t : Station) (p : List Byte) (a : AnswerSlot) (s : State) : Host.Outcome State Fault Refusal :=
  takeEvent (hearRead o t p a) s

/-- R126: a FOLLOWING secondary copies its partner's WRITE, or notes a miss. -/
def snoopWrite (o t : Station) (b : Tag × Extent) (s : State) : State :=
  if s.mirror.link = .following ∧ s.partner = some t then
    if s.passesSize b.2 then s
    else if s.room ⟨o, b.1⟩ b.2.count then enqueue (newEntry ⟨o, b.1⟩ .replica (some b.2) none s) s
    else readyNotedMiss ⟨o, b.1⟩ b.2 s
  else s

/-- R104, R126: a WRITE in force. -/
def writeInForce (o t : Station) (b : Tag × Extent) (d : Answer) (s : State) : State :=
  if t = s.station then (if d = .acknowledge then createEntry ⟨o, b.1⟩ .write (some b.2) none s else s)
  else snoopWrite o t b s

/-- R102, R104: a WRITE. -/
def hearWrite (o t : Station) (p : List Byte) (a : AnswerSlot) : State → State :=
  hear (targetedInForce · a) o (parseExtent p) (fun b s => queueAnswer o t b.1 b.2.count s) (writeInForce o t)

/-- WRITE_RECEIVED (R104). -/
def execWriteReceived (o t : Station) (p : List Byte) (a : AnswerSlot) (s : State) : Host.Outcome State Fault Refusal :=
  takeEvent (hearWrite o t p a) s

/-- R102, R103: a SYNC. -/
def hearSync (o t : Station) (p : List Byte) (a : AnswerSlot) : State → State :=
  hear (targetedInForce · a) o (parseTag p) (fun tag s => queueAnswer o t tag 0 s)
    fun tag d s => if d = .acknowledge then createEntry ⟨o, tag⟩ .sync none none s else s

/-- SYNC_RECEIVED (R103). -/
def execSyncReceived (o t : Station) (p : List Byte) (a : AnswerSlot) (s : State) : Host.Outcome State Fault Refusal :=
  takeEvent (hearSync o t p a) s

/-- R102, R104: a RESYNC-WRITE. -/
def hearResyncWrite (o t : Station) (p : List Byte) (a : AnswerSlot) : State → State :=
  hear (targetedInForce · a) o (parseExtent p) (fun b s => queueAnswer o t b.1 b.2.count s)
    fun b d s => if d = .acknowledge then createEntry ⟨o, b.1⟩ .resyncIn (some b.2) none s else s

/-- RESYNC_WRITE_RECEIVED (R104). -/
def execResyncWriteReceived (o t : Station) (p : List Byte) (a : AnswerSlot) (s : State) :
    Host.Outcome State Fault Refusal :=
  takeEvent (hearResyncWrite o t p a) s

/-! ## CANCEL, CLEAR-FAULT, PROBE -/

/-- R119, R170: the answer to a CANCEL. -/
def cancelAnswer (o t : Station) (tag : Tag) (s : State) : Answer × State :=
  if t = s.station then (.acknowledge, s)
  else (takeOrNothing (s.answersFor t && s.heldEntry t ⟨o, tag⟩), s)

/-- R119: a CANCEL in force at its target. -/
def cancelEntry (k : Key) (s : State) : State :=
  match s.entry k with
  | none => s
  | some e =>
    if e.kind = .replica then s
    else
      let promoting : Bool := match s.mirror.promotion with | some p => p.key == k | none => false
      if e.state = .dataIn ∨ (e.state = .queued ∧ promoting = false) then endEntry k .cancelled s
      else s.onEntry k fun e => { e with cancelLate := true }

/-- R119, R173: a CANCEL in force. -/
def cancelInForce (o t : Station) (tag : Tag) (d : Answer) (s : State) : State :=
  if d = .acknowledge then
    if t = s.station then cancelEntry ⟨o, tag⟩ s
    else
      match s.proxyEntry t ⟨o, tag⟩ with
      | some e => endProxy .cancelled e s
      | none => s
  else s

/-- R119: a CANCEL. -/
def hearCancel (o t : Station) (p : List Byte) (a : AnswerSlot) : State → State :=
  hear (targetedInForce · a) o (parseTag p) (cancelAnswer o t) (cancelInForce o t)

/-- CANCEL_RECEIVED (R119). -/
def execCancelReceived (o t : Station) (p : List Byte) (a : AnswerSlot) (s : State) :
    Host.Outcome State Fault Refusal :=
  takeEvent (hearCancel o t p a) s

/-- R82, R97: the last drive 12 V current sample is valid and below the run trip level's current. -/
def State.currentBelow (s : State) : Bool :=
  let r := s.supply.records[0]
  match s.settings with
  | some c =>
    r.valid && !r.overFlag
      && (match r.gain with | .x4 => r.value * 2 | .x1 => r.value * 8) < tripCurrent c.runTrip
  | none => false

/-- R82: what the drive port does on a CLEAR-FAULT, and the status of its DONE. -/
def clearFault (s : State) : Status × State :=
  if s.drive.state = .fault then
    if s.drive.cause = some .overcurrent ∧ s.currentBelow = false then (.denied, s)
    else (.ok, s.onDrive fun d => { d with state := .off, cause := none, offSince := s.tick })
  else (.ok, s)

/-- The DONEs of CLEAR-FAULTs that wait to be placed (R82). -/
def State.clearDones (s : State) : Nat :=
  s.request.out.countP fun m => match m with | .clearDone _ _ => true | _ => false

/-- R82, R170: the answer to a CLEAR-FAULT. -/
def clearFaultAnswer (t : Station) (_ : Tag) (s : State) : Answer × State :=
  if t = s.station then (takeOrBusy (s.clearDones < Config.clearFaultRoom), s) else proxyRefuse t s

/-- R82: a taken CLEAR-FAULT in force. -/
def clearFaultInForce (k : Key) (s : State) : State :=
  let r := clearFault s
  r.2.onRequest fun q => { q with out := q.out ++ [.clearDone k r.1] }

/-- R82: a CLEAR-FAULT. -/
def hearClearFault (o t : Station) (p : List Byte) (a : AnswerSlot) : State → State :=
  hear (targetedInForce · a) o (parseTag p) (clearFaultAnswer t)
    fun tag d s => if d = .acknowledge then clearFaultInForce ⟨o, tag⟩ s else s

/-- CLEAR_FAULT_RECEIVED (R82). -/
def execClearFaultReceived (o t : Station) (p : List Byte) (a : AnswerSlot) (s : State) :
    Host.Outcome State Fault Refusal :=
  takeEvent (hearClearFault o t p a) s

/-- The REPORTs that wait to be placed (R176). -/
def State.reports (s : State) : Nat :=
  s.request.out.countP fun m => match m with | .report _ _ => true | _ => false

/-- R176: a REPORT made ready. -/
def readyReport (k : Key) (item : Nat) (s : State) : State :=
  s.onRequest fun q => { q with out := q.out ++ [.report k item] }

/-- R176, R170: the answer to a PROBE. -/
def probeAnswer (o t : Station) (b : Tag × Nat) (s : State) : Answer × State :=
  if t = s.station then (takeOrBusy (s.reports < Config.reportRoom), s) else proxyHold t ⟨o, b.1⟩ s

/-- R176, R170: a taken PROBE in force. -/
def probeInForce (o t : Station) (b : Tag × Nat) (d : Answer) (s : State) : State :=
  if d = .acknowledge then
    if t = s.station then readyReport ⟨o, b.1⟩ b.2 s else proxyTake t ⟨o, b.1⟩ (.probe b.2) s
  else s

/-- R9, R176, R177: an UNSET station takes a PROBE targeted at it while it has room, and objects to nothing. -/
def unsetProbe (o t : Station) (p : List Byte) (a : AnswerSlot) (s : State) : State :=
  match parseProbe p with
  | some b =>
    if o ≠ s.station ∧ t = s.station ∧ s.reports < Config.reportRoom then
      let s := s.answers .acknowledge
      if targetedInForce .acknowledge a then readyReport ⟨o, b.1⟩ b.2 s else s
    else s.answers .nothing
  | none => s.answers .nothing

/-- R176: a PROBE. -/
def hearProbe (o t : Station) (p : List Byte) (a : AnswerSlot) (s : State) : State :=
  if s.power = .unset then unsetProbe o t p a s
  else hear (targetedInForce · a) o (parseProbe p) (probeAnswer o t) (probeInForce o t) s

/-- PROBE_RECEIVED (R176). -/
def execProbeReceived (o t : Station) (p : List Byte) (a : AnswerSlot) (s : State) : Host.Outcome State Fault Refusal :=
  takeEvent (hearProbe o t p a) s

/-! ## FORWARD and DATA -/

/-- R106: the answer to a FORWARD, as to what it carries. -/
def forwardAnswer (t : Station) (b : Key × ProxyReq) (s : State) : Answer × State :=
  if t = s.station then
    (takeOrBusy (match b.2 with | .read _ c => s.room b.1 c | .probe _ => s.reports < Config.reportRoom), s)
  else (.nothing, s)

/-- R106: a taken FORWARD in force. -/
def forwardInForce (o : Station) (b : Key × ProxyReq) (s : State) : State :=
  match b.2 with
  | .read st c => createEntry b.1 .read (some ⟨st, c⟩) (some o) s
  | .probe i => readyReport b.1 i s

/-- R106: a FORWARD. -/
def hearForward (o t : Station) (p : List Byte) (a : AnswerSlot) : State → State :=
  hear (targetedInForce · a) o (parseForward t p) (forwardAnswer t)
    fun b d s => if d = .acknowledge then forwardInForce o b s else s

/-- FORWARD_RECEIVED (R106). -/
def execForwardReceived (o t : Station) (p : List Byte) (a : AnswerSlot) (s : State) :
    Host.Outcome State Fault Refusal :=
  takeEvent (hearForward o t p a) s

/-- The kind of entry that a DATA is for (R107). -/
def DataBody.entryKind (b : DataBody) : EntryKind := if b.resync then .resyncIn else .write

/-- R107: the answer to a DATA. -/
def dataAnswer (o t : Station) (b : DataBody) (s : State) : Answer × State :=
  (takeOrNothing (t == s.station && s.pieceFits ⟨o, b.tag⟩ b.entryKind b.index), s)

/-- R127: a FOLLOWING secondary fills its copy from its partner's DATA, or sets behind. -/
def snoopData (o t : Station) (b : DataBody) (s : State) : State :=
  if s.mirror.link = .following ∧ s.partner = some t ∧ b.resync = false then
    if s.pieceFits ⟨o, b.tag⟩ .replica b.index then fillPiece ⟨o, b.tag⟩ b.index b.bytes s else setBehind s
  else s

/-- R107, R127: a DATA in force. -/
def dataInForce (o t : Station) (b : DataBody) (d : Answer) (s : State) : State :=
  if t = s.station then (if d = .acknowledge then fillPiece ⟨o, b.tag⟩ b.index b.bytes s else s)
  else snoopData o t b s

/-- R107: a DATA. -/
def hearData (o t : Station) (p : List Byte) (a : AnswerSlot) : State → State :=
  hear (targetedInForce · a) o (parseData p) (dataAnswer o t) (dataInForce o t)

/-- DATA_RECEIVED (R107). -/
def execDataReceived (o t : Station) (p : List Byte) (a : AnswerSlot) (s : State) : Host.Outcome State Fault Refusal :=
  takeEvent (hearData o t p a) s

/-- R22: a REPORT goes to no block; in force, only its origin's last-heard tick follows (R37). -/
def hearReport (o _t : Station) (p : List Byte) (a : AnswerSlot) : State → State :=
  hear (targetedInForce · a) o (parseReport p) unanswered fun _ _ s => s

/-- REPORT_RECEIVED (R22). -/
def execReportReceived (o t : Station) (p : List Byte) (a : AnswerSlot) (s : State) :
    Host.Outcome State Fault Refusal :=
  takeEvent (hearReport o t p a) s

end Sys2Proof.Machine
end

