-- ==== Sys2Proof/Machine/Replies.lean ====
section
/-!
DEFINITION. The drive port's events: deferral, ready line, replies and timeouts of the drive lane (chapter 4), the mirror
record's replies (sections 8.1 to 8.3, 8.7), the engine's chunk reads (section 8.4).
-/

namespace Sys2Proof.Machine

/-! ## Spin-up -/

/-- R70: a deferral ends on an adequate sample. -/
def endDeferral (s : State) : State := if s.drive.deferral.isSome ∧ s.adequate then applyPower s else s

/-- DEFERRAL_END (R70). -/
def execDeferralEnd (s : State) : Host.Outcome State Fault Refusal := takeEvent endDeferral s

/-- R70: 500 ticks with the sample still inadequate. -/
def exhaustDeferral (s : State) : State :=
  if expired s.tick Config.deferralTicks s.drive.deferral ∧ s.adequate = false then giveUpDeferral true s else s

/-- DEFERRAL_GIVE_UP (R70). -/
def execDeferralGiveUp (s : State) : Host.Outcome State Fault Refusal := takeEvent exhaustDeferral s

/-- R71: the ready line is seen high. -/
def readyLine (s : State) : State :=
  if s.drive.state = .spinUp ∧ s.drive.readyWait.isSome then
    sendLane .identify .port (s.onDrive fun d => { d with readyWait := none })
  else s

/-- READY_LINE_HIGH (R71). -/
def execReadyLineHigh (s : State) : Host.Outcome State Fault Refusal := takeEvent readyLine s

/-- R71: 1500 ticks without the ready line. -/
def readyLineMissing (s : State) : State :=
  if expired s.tick Config.readyWaitTicks s.drive.readyWait then enterFault .spinUpFail s else s

/-- READY_WAIT_EXPIRY (R71). -/
def execReadyWaitExpiry (s : State) : Host.Outcome State Fault Refusal := takeEvent readyLineMissing s

/-- The command in flight is IDENTIFY (R72). -/
def State.identifying (s : State) : Bool :=
  match s.drive.flight with
  | some f => f.cmd == .identify
  | none => false

/-- R72: the size tests. -/
def identified (size : BlockNo) (s : State) : State :=
  if size.toNat < Config.smallestDrive then enterFault .size s
  else
    let usable := size - BitVec.ofNat 32 Config.reservedBlocks
    if s.drive.usable = 0 then enterReady (s.onDrive fun d => { d with usable := usable })
    else if s.drive.usable = usable then enterReady s
    else enterFault .size s

/-- R72: the reply to IDENTIFY, which the lane carries in SPIN_UP alone (R67). -/
def identifyReply (r : IdentifyReply) (s : State) : State :=
  if s.identifying ∧ s.drive.state = .spinUp then
    match r with
    | .ok size => identified size (freeLane s)
    | .mediaError => enterFault .spinUpFail (freeLane s)
  else s

/-- IDENTIFY_REPLY (R72). -/
def execIdentifyReply (r : IdentifyReply) (s : State) : Host.Outcome State Fault Refusal :=
  takeEvent (identifyReply r) s

/-! ## Replies and timeouts -/

/-- R74, R112: a reply to the command of a queue entry; without one in flight it is not taken. -/
def driveReply (r : LaneReply) (s : State) : State :=
  match s.drive.flight with
  | some f =>
    (match f.requester with
     | .entry k => entryReply k r (freeLane s)
     | _ => s)
  | none => s

/-- DRIVE_REPLY (R112). -/
def execDriveReply (r : LaneReply) (s : State) : Host.Outcome State Fault Refusal := takeEvent (driveReply r) s

/-- The command in flight is the SYNC of spin-down (R75, R78). -/
def Flight.spinDownSync (f : Flight) : Bool := f.requester == .port && f.cmd == .sync

/-- R75: the reply limit of the command in flight has passed. -/
def commandTimeout (s : State) : State :=
  match s.drive.flight with
  | some f =>
    if f.spinDownSync then
      if Config.spinDownSyncTicks ≤ elapsed s.tick f.start then finishSpinDown s else s
    else if Config.commandTicks ≤ elapsed s.tick f.start then enterFault .driveTimeout s
    else s
  | none => s

/-- COMMAND_TIMEOUT (R75). -/
def execCommandTimeout (s : State) : Host.Outcome State Fault Refusal := takeEvent commandTimeout s

/-- The idle timer has reached the idle limit (R77). -/
def State.idleOver (s : State) : Bool :=
  match s.drive.idle, s.settings with
  | some n, some c => c.idleLimit * 60 ≤ n && s.idleRuns
  | _, _ => false

/-- R77: the idle limit. -/
def idleLimitReached (s : State) : State := if s.idleOver then enterSpinDown s else s

/-- IDLE_LIMIT (R77). -/
def execIdleLimit (s : State) : Host.Outcome State Fault Refusal := takeEvent idleLimitReached s

/-- R78, step 4: the SYNC of spin-down ends. -/
def spinDownSyncReply (r : SyncEnd) (s : State) : State :=
  match s.drive.flight with
  | some f =>
    if f.spinDownSync ∧ (r = .timeout → Config.spinDownSyncTicks ≤ elapsed s.tick f.start) then finishSpinDown s else s
  | none => s

/-- SPIN_DOWN_SYNC_REPLY (R78). -/
def execSpinDownSyncReply (r : SyncEnd) (s : State) : Host.Outcome State Fault Refusal :=
  takeEvent (spinDownSyncReply r) s

/-! ## The mirror record -/

/-- R140: the record that an OK reply holds, when it is readable under the settings. -/
def readableRecord (c : Settings) (usable : Nat) (b : List Byte) : Option RecordFields :=
  match parseRecord b with
  | some f =>
    if f.partner = c.partner ∧ f.regionSize = regionSizeOf usable ∧ (f.role = .single ↔ c.mode = .single) then some f
    else none
  | none => none

/-- R141: the image and the noted behind value for what the load found. -/
def loadedImage (c : Settings) (usable : Nat) (found : Option RecordFields) : RecordFields × Bool :=
  match found with
  | none =>
    ({ role := c.mode, epoch := 1, partner := c.partner, regionSize := regionSizeOf usable, clean := false,
       dirty := if c.mode = .primary ∧ c.freshPair = false then BitVec.allOnes 256 else 0 }, c.mode == .secondary)
  | some f =>
    ({ f with dirty := if f.role = .primary then (if f.clean then f.dirty else BitVec.allOnes 256) else 0 },
     f.role == .secondary)

/-- The one block that a record load returned. -/
def loadedBlock : LaneReply → Option (List Byte)
  | .ok bs => some (fit (bs.getD 0 []))
  | .mediaError _ _ => none

/-- The load is in flight (R140). -/
def Flight.isLoad (f : Flight) : Bool := f.requester == .recordLoad

/-- R140, R141: the load's reply. -/
def recordLoaded (r : LaneReply) (s : State) : State :=
  match s.drive.flight, s.settings with
  | some f, some c =>
    if f.isLoad then
      let block := loadedBlock r
      let found := block.bind fun b => readableRecord c s.drive.usable.toNat b
      let image := loadedImage c s.drive.usable.toNat found
      (freeLane s).onMirror fun m =>
        { m with image := some image.1, notedBehind := image.2, cond := .opening, blockStore := block.getD m.blockStore
                 calls := { m.calls with opening := true } }
    else s
  | _, _ => s

/-- RECORD_LOAD_REPLY (R140). -/
def execRecordLoadReply (r : LaneReply) (s : State) : Host.Outcome State Fault Refusal := takeEvent (recordLoaded r) s

/-- R141: the image's values come into force; the link, the role test and the rejoin test follow. -/
def completeOpening (f : RecordFields) (s : State) : State :=
  let s := s.onMirror fun m =>
    { m with role := f.role, epoch := f.epoch, regionSize := f.regionSize, dirty := f.dirty, behind := m.notedBehind
             behindAnnounced := m.behindAnnounced && (m.behind || !m.notedBehind) }
  let s := judgeLink s
  match s.partner with
  | some p =>
    let e := s.presence p
    if e.state = .listening then rejoinTest e.role e.epoch e.behind (roleTest e.role e.epoch s) else s
  | none => s

/-- R143: the image, the condition and the counter after a record write's reply; where the record becomes CLOSED, the
write-like entries in QUEUED (R142, log 14) and the marks set since the write was sent (R122, log 50) call for a write. -/
def recordWritten (f : RecordFields) (r : LaneReply) (s : State) : State :=
  callForMissed f.dirty <| callForQueued <| s.onMirror fun m =>
    match r with
    | .ok _ => { m with image := some f, cond := if f.clean then .closed else .opened }
    | .mediaError _ _ => { m with cond := .opened, recordErrors := satInc m.recordErrors }

/-- R143, R141, R78: a record write's reply. -/
def recordWriteReply (r : LaneReply) (s : State) : State :=
  match s.drive.flight with
  | some fl =>
    (match fl.requester with
     | .recordWrite f _ =>
       let opening : Bool := s.mirror.cond == .opening
       let loaded := s.mirror.image
       let s := recordWritten f r (freeLane s)
       let s := match loaded with
         | some i => if opening then completeOpening i s else s
         | none => s
       if s.drive.state = .spinDown then sendSpinDownSync s else s
     | _ => s)
  | none => s

/-- RECORD_WRITE_REPLY (R143). -/
def execRecordWriteReply (r : LaneReply) (s : State) : Host.Outcome State Fault Refusal :=
  takeEvent (recordWriteReply r) s

/-- R159: the entry of the pending promotion ends. -/
def endPromotion (st : Status) (s : State) : State :=
  match s.mirror.promotion with
  | some p => endEntry p.key st (s.onMirror fun m => { m with promotion := none })
  | none => s

/-- R159, R157: the promotion write's reply OK; an epoch does not decrease (log 21). -/
def promote (f : RecordFields) (s : State) : State :=
  let s := s.onMirror fun m => { m with image := some f, cond := .opened }
  endPromotion .ok (changeRole .primary (max f.epoch s.mirror.epoch) 0 false s)

/-- R159: the promotion write's reply. -/
def promotionWriteReply (r : LaneReply) (s : State) : State :=
  match s.drive.flight with
  | some fl =>
    (match fl.requester with
     | .promotionWrite f =>
       (match r with
        | .ok _ => promote f (freeLane s)
        | .mediaError _ _ =>
          endPromotion .media ((freeLane s).onMirror fun m => { m with recordErrors := satInc m.recordErrors }))
     | _ => s)
  | none => s

/-- PROMOTION_WRITE_REPLY (R159). -/
def execPromotionWriteReply (r : LaneReply) (s : State) : Host.Outcome State Fault Refusal :=
  takeEvent (promotionWriteReply r) s

/-! ## The engine's reads -/

/-- CHUNK_PAGES_TAKEN (R148): the engine takes its pages and asks for the lane (R76). -/
def execChunkPagesTaken (s : State) : Host.Outcome State Fault Refusal := takeEvent takePages s

/-- R148: the reply to the engine's read. -/
def chunkRead (r : LaneReply) (s : State) : State :=
  match s.engine.chunk with
  | some c =>
    let s := (freeLane s).onBuffer fun m => writePages m c.pages (readBlocks c.start r)
    (match r with
     | .ok _ => s.onEngine fun e =>
         { e with chunk := some { c with step := .send, sendPos := none }, tagCounter := e.tagCounter + 1, ready := true }
     | .mediaError _ _ => chunkDone s)
  | none => freeLane s

/-- R148, R153: the reply to a chunk read; the pages of a stopped resync are freed with it. -/
def chunkReadReply (r : LaneReply) (s : State) : State :=
  match s.drive.flight with
  | some f =>
    (match f.requester with
     | .chunk => chunkRead r s
     | .stoppedChunk =>
       ((freeLane s).onBuffer fun m => writePages m s.engine.orphans (readBlocks f.cmd.firstBlock r)).onEngine
         fun e => { e with orphans := [] }
     | _ => s)
  | none => s

/-- CHUNK_READ_REPLY (R148). -/
def execChunkReadReply (r : LaneReply) (s : State) : Host.Outcome State Fault Refusal :=
  takeEvent (chunkReadReply r) s

end Sys2Proof.Machine
end

