-- ==== Sys2Proof/Machine/Supply.lean ====
section
/-!
DEFINITION. The supply monitor (chapter 5): the sampling sequencer, the sample records, HOT, the trip comparator.
-/

namespace Sys2Proof.Machine

/-! ## Samples -/

/-- The two current channels are ranged (R84). -/
def rangedChannel (c : Fin 6) : Bool := c.val < 2

/-- The channel of the drive temperature (R84). -/
def temperatureChannel : Fin 6 := 2

/-- R87: a record at the end of its channel's visit. -/
def SampleRecord.write (r : SampleRecord) (value : Nat) (gain : Gain) (isOver : Bool) : SampleRecord :=
  { value := value, gain := gain, overFlag := isOver, sequence := r.sequence + 1, valid := true }

/-- R86: the over flag of a visit's last conversion. -/
def overOf (c : Fin 6) (g : Gain) (result : Nat) : Bool :=
  if rangedChannel c ∧ g = .x4 then false else result == 1023

/-- R86: a ranged channel at ×4 is converted again at 1020 or more. -/
def convertAgain (c : Fin 6) (g : Gain) (result : Nat) : Bool := rangedChannel c && g == .x4 && 1020 ≤ result

/-- R94: HOT after a write of the drive temperature record, with limit `l`. -/
def hotAfter (l value : Nat) (hot : Bool) : Bool :=
  if 200 + 4 * l < value then true else if value < 180 + 4 * l then false else hot

/-- R85, R86, R87: the sequencer after a conversion. -/
def Sampler.convert (x : Sampler) (result : Nat) : Sampler :=
  if convertAgain x.channel x.gain result then { x with gain := .x1 }
  else
    { x with records := x.records.set x.channel
               (x.records[x.channel].write result x.gain (overOf x.channel x.gain result))
             channel := x.channel + 1, gain := .x4 }

/-- R94: HOT is tested when the drive temperature record is written, once the settings are good. -/
def Sampler.testHot (x : Sampler) (settings : Option Settings) (channel : Fin 6) (result : Nat) : Sampler :=
  match settings with
  | some c => if channel = temperatureChannel then { x with hot := hotAfter c.tempLimit result x.hot } else x
  | none => x

/-- R86, R87, R94: a conversion completes. -/
def converted (result : BitVec 10) (s : State) : State :=
  s.onSupply fun x => (x.convert result.toNat).testHot s.settings x.channel result.toNat

/-- CONVERSION_DONE (R86). -/
def execConversionDone (result : BitVec 10) (s : State) : Host.Outcome State Fault Refusal :=
  takeEvent (converted result) s

/-! ## The trip comparator -/

/-- R91, R93: a trip. -/
def tripped (s : State) : State :=
  enterFault .overcurrent (s.onSupply fun x => { x with trips := satInc x.trips })

/-- The filter width from the settings (R90). -/
def State.filterWidth (s : State) : Nat := match s.settings with | some c => c.filterWidth | none => 0

/-- R90: the output goes over the threshold, with no switch hold running. -/
def overThreshold (s : State) : State :=
  if s.filterWidth = 0 then tripped s else s.onComp fun c => { c with counting := true }

/-- The comparator's output is acted on: armed, and no switch hold runs (R89, R90). -/
def Comparator.watching (c : Comparator) : Bool := c.level.isSome && !c.hold

/-- R88, R90: the current goes over the threshold in force, where there is one, and starts a count. -/
def comparatorOver (s : State) : State :=
  if s.comp.watching ∧ s.comp.counting = false ∧ s.threshold.isSome then overThreshold s else s

/-- COMPARATOR_OVER (R88, R90). -/
def execComparatorOver (s : State) : Host.Outcome State Fault Refusal := takeEvent comparatorOver s

/-- EXCURSION_FILTERED (R90): the count returns to 0 and nothing is recorded. -/
def execExcursionFiltered (s : State) : Host.Outcome State Fault Refusal :=
  takeEvent (fun s => s.onComp fun c => { c with counting := false }) s

/-- R90: the switch hold ends; an output over the threshold starts its count there. -/
def switchHoldEnd (current : Nat) (s : State) : State :=
  if s.comp.level.isSome ∧ s.comp.hold then
    let s := s.onComp fun c => { c with hold := false }
    if s.isOver current then overThreshold s else s
  else s

/-- SWITCH_HOLD_END (R90). -/
def execSwitchHoldEnd (current : Nat) (s : State) : Host.Outcome State Fault Refusal :=
  takeEvent (switchHoldEnd current) s

/-- R91: the output has stayed over the threshold for the filter width. -/
def tripNow (s : State) : State := if s.comp.watching ∧ s.comp.counting then tripped s else s

/-- TRIP (R91). -/
def execTrip (s : State) : Host.Outcome State Fault Refusal := takeEvent tripNow s

end Sys2Proof.Machine
end

