-- ==== Sys2Proof/Machine/Timers.lean ====
section
/-!
DEFINITION. The tick timer (R25) and the expiries (R26). An expiry does something when its time has come, and nothing
before (log 2).
-/

namespace Sys2Proof.Machine

/-! ## Ticks -/

/-- R25: one advance. The seconds count advances when the tick count reaches a multiple of 100 (log 12), and the running
idle timer with it (R77). -/
def State.advance (s : State) : State :=
  let t := s.tick + 1
  if t.toNat % Config.ticksPerSecond = 0 then
    (s.setTime t (s.seconds + 1)).onDrive fun d => { d with idle := d.idle.map (· + 1) }
  else s.setTime t s.seconds

/-- TICK_ADVANCE (R25); while reset is asserted both counts stand at 0. -/
def execTickAdvance (s : State) : Host.Outcome State Fault Refusal := .next (if s.resetAsserted then s else s.advance)

/-! ## Presence and budget -/

/-- R32: the announcement timer. -/
def announceExpired (s : State) : State :=
  if expired s.tick Config.announceTicks s.announce.timer then placeAwake s else s

/-- ANNOUNCEMENT_TIMER_EXPIRY (R32). -/
def execAnnouncementTimerExpiry (s : State) : Host.Outcome State Fault Refusal := takeEvent announceExpired s

/-- R53: the table timer; the QUERY goes again. -/
def tableExpired (s : State) : State :=
  if expired s.tick Config.tableTicks s.claim.tableTimer then
    readyQuery (s.onClaim fun c => { c with tableTimer := none })
  else s

/-- TABLE_TIMER_EXPIRY (R53). -/
def execTableTimerExpiry (s : State) : Host.Outcome State Fault Refusal := takeEvent tableExpired s

/-- R58: the claim hold-off. -/
def claimHoldEnded (s : State) : State :=
  if ended s.tick s.claim.holdOff then s.onClaim fun c => { c with holdOff := none } else s

/-- CLAIM_HOLD_OFF_EXPIRY (R58). -/
def execClaimHoldOffExpiry (s : State) : Host.Outcome State Fault Refusal := takeEvent claimHoldEnded s

/-! ## Queue entries -/

/-- R108, R128: the data timeout of an entry. -/
def dataExpired (k : Key) (s : State) : State :=
  match s.entry k with
  | some e =>
    if e.state = .dataIn ∧ expired s.tick Config.dataTicks e.lastPiece then endWork .dataTimeout s e else s
  | none => s

/-- DATA_TIMEOUT (R108). -/
def execDataTimeout (k : Key) (s : State) : Host.Outcome State Fault Refusal := takeEvent (dataExpired k) s

/-- R113, R128: the age limit of an entry while the drive is not READY. -/
def ageExpired (k : Key) (s : State) : State :=
  match s.entry k with
  | some e => if s.aged e ∧ s.drive.state ≠ .ready then endWork .noPower s e else s
  | none => s

/-- AGE_LIMIT (R113). -/
def execAgeLimit (k : Key) (s : State) : Host.Outcome State Fault Refusal := takeEvent (ageExpired k) s

/-- The retry wait of an entry's piece has ended (R116). -/
def Entry.retryOver (e : Entry) (now : Tick) : Bool :=
  match e.send with
  | some p => e.state == .sending && expired now Config.pieceRetryTicks p.retry
  | none => false

/-- R116: the piece is made ready again. -/
def pieceRetry (k : Key) (s : State) : State :=
  match s.entry k with
  | some e =>
    if e.retryOver s.tick then
      (s.onEntry k fun e => { e with send := e.send.map fun p => { p with retry := none } }).onRequest
        fun r => { r with out := r.out ++ [.piece k] }
    else s
  | none => s

/-- DATA_RETRY_WAIT_END (R116). -/
def execDataRetryWaitEnd (k : Key) (s : State) : Host.Outcome State Fault Refusal := takeEvent (pieceRetry k) s

/-- R135: the copy wait of an entry has lasted 2000 ticks. -/
def State.copyOverdue (k : Key) (s : State) : Bool :=
  match s.copyState k with
  | some (.waiting t) => Config.waitMirrorTicks ≤ elapsed s.tick t
  | some .notExpected | some .missHeard | none => false

/-- R135: the extent is marked and the entry ends OK_DEGRADED. -/
def mirrorWaitExpired (k : Key) (s : State) : State :=
  match s.entry k with
  | some e =>
    if e.state = .waitMirror ∧ s.copyOverdue k then
      endEntry k .okDegraded (match e.extent with | some x => markExtent x s | none => s)
    else s
  | none => s

/-- MIRROR_WAIT_TIMEOUT (R135). -/
def execMirrorWaitTimeout (k : Key) (s : State) : Host.Outcome State Fault Refusal := takeEvent (mirrorWaitExpired k) s

/-! ## Resync -/

/-- RESYNC_RETRY_WAIT_END (R145, R149, R151, R154). -/
def execResyncRetryWaitEnd (s : State) : Host.Outcome State Fault Refusal :=
  takeEvent (fun s => retryRejoin (retryResync s)) s

/-- R147: the reply wait. -/
def replyWaitOver (s : State) : State :=
  if expired s.tick Config.replyWaitTicks s.engine.replyWait then stopResync true s else s

/-- REPLY_WAIT_EXPIRY (R147). -/
def execReplyWaitExpiry (s : State) : Host.Outcome State Fault Refusal := takeEvent replyWaitOver s

/-- R153: the resync hold-off. -/
def resyncHoldEnded (s : State) : State :=
  if ended s.tick s.engine.holdOff then s.onEngine fun e => { e with holdOff := none } else s

/-- RESYNC_HOLD_OFF_EXPIRY (R153). -/
def execResyncHoldOffExpiry (s : State) : Host.Outcome State Fault Refusal := takeEvent resyncHoldEnded s

/-- R155: the resync wake interval. -/
def wakeIntervalOver (s : State) : State :=
  if expired s.tick Config.wakeIntervalTicks s.mirror.wakeInterval then
    s.onMirror fun m => { m with wakeInterval := none }
  else s

/-- RESYNC_WAKE_INTERVAL_EXPIRY (R155). -/
def execResyncWakeIntervalExpiry (s : State) : Host.Outcome State Fault Refusal := takeEvent wakeIntervalOver s

/-! ## Sleep and watch duty -/

/-- ASLEEP_PLACED (R162): the sleep conditions are tested. -/
def execAsleepPlaced (s : State) : Host.Outcome State Fault Refusal := takeEvent followSleep s

/-- R163: the sleep retry hold. -/
def sleepHoldEnded (s : State) : State :=
  if ended s.tick s.watch.sleepRetry then s.onWatch fun w => { w with sleepRetry := none } else s

/-- SLEEP_RETRY_HOLD_EXPIRY (R163). -/
def execSleepRetryHoldExpiry (s : State) : Host.Outcome State Fault Refusal := takeEvent sleepHoldEnded s

/-- WATCH_TAKE_TEST (R166). -/
def execWatchTakeTest (s : State) : Host.Outcome State Fault Refusal := takeEvent followTakeTest s

/-- R166: the take hold-off. -/
def takeHoldEnded (s : State) : State :=
  if ended s.tick s.watch.takeHold then s.onWatch fun w => { w with takeHold := none } else s

/-- TAKE_HOLD_OFF_EXPIRY (R166). -/
def execTakeHoldOffExpiry (s : State) : Host.Outcome State Fault Refusal := takeEvent takeHoldEnded s

/-- The watch term has run (R167). -/
def State.termOver (s : State) : Bool :=
  match s.watch.term, s.settings with
  | some t, some c => s.duty && c.watchTerm * 3600 ≤ (s.seconds - t).toNat
  | _, _ => false

/-- R167: the pass check is set to this tick. -/
def termExpired (s : State) : State :=
  if s.termOver then s.onWatch fun w => { w with term := none, passCheck := some s.tick } else s

/-- TERM_TIMER_EXPIRY (R167). -/
def execTermTimerExpiry (s : State) : Host.Outcome State Fault Refusal := takeEvent termExpired s

/-- R167: a check, and the next one 6000 ticks on. -/
def passChecked (s : State) : State :=
  if s.duty ∧ ended s.tick s.watch.passCheck then
    passCheckNow
      (s.onWatch fun w => { w with passCheck := w.passCheck.map fun t => tickAfter t Config.passCheckTicks })
  else s

/-- PASS_CHECK (R167). -/
def execPassCheck (s : State) : Host.Outcome State Fault Refusal := takeEvent passChecked s

/-- ABSENCE_TEST (R168). -/
def execAbsenceTest (s : State) : Host.Outcome State Fault Refusal := takeEvent declareAbsences s

/-- R168: the absence hold of a station. -/
def absenceHoldEnded (n : Station) (s : State) : State :=
  if ended s.tick s.watch.marks[n].absenceHold then onMarks n (fun m => { m with absenceHold := none }) s else s

/-- ABSENCE_HOLD_EXPIRY (R168). -/
def execAbsenceHoldExpiry (n : Station) (s : State) : Host.Outcome State Fault Refusal :=
  takeEvent (absenceHoldEnded n) s

/-- R170: the waking mark of a station. -/
def wakingExpired (n : Station) (s : State) : State :=
  if expired s.tick Config.wakingTicks s.watch.marks[n].waking then clearWaking n s else s

/-- WAKING_MARK_EXPIRY (R170). -/
def execWakingMarkExpiry (n : Station) (s : State) : Host.Outcome State Fault Refusal :=
  takeEvent (wakingExpired n) s

/-- R171: the test for one station. -/
def wakeAgain (n : Station) (s : State) : State :=
  if s.wakeTest n then watchReady (.wake (1#16 <<< n.val) .proxy) s else s

/-- WAKE_REPEAT (R171). -/
def execWakeRepeat (n : Station) (s : State) : Host.Outcome State Fault Refusal := takeEvent (wakeAgain n) s

/-- R173: the 3000-tick limit of a proxy entry. -/
def proxyExpired (n : Station) (k : Key) (s : State) : State :=
  match s.proxyEntry n k with
  | some e => if expired s.tick Config.proxyTicks (some e.arrival) then proxyLimit e s else s
  | none => s

/-- PROXY_TIMEOUT (R173). -/
def execProxyTimeout (n : Station) (k : Key) (s : State) : Host.Outcome State Fault Refusal :=
  takeEvent (proxyExpired n k) s

/-- R172: the tick count has advanced 10 past a BUSY outcome. -/
def forwardRetryOver (n : Station) (k : Key) (s : State) : State :=
  match s.proxyEntry n k with
  | some e =>
    (match e.state with
     | .retry t => if Config.forwardRetryTicks ≤ elapsed s.tick t then sendForward e s else s
     | .held | .sending => s)
  | none => s

/-- FORWARD_RETRY (R172). -/
def execForwardRetry (n : Station) (k : Key) (s : State) : Host.Outcome State Fault Refusal :=
  takeEvent (forwardRetryOver n k) s

end Sys2Proof.Machine
end

