-- ==== Sys2Proof/Machine/Dispatch.lean ====
section
/-!
DEFINITION. The meaning of each command: one direct call for each constructor of `Instr`, in the order of
spec/opcode_table.json.
-/

namespace Sys2Proof.Machine

def exec (i : Instr) (s : State) : Host.Outcome State Fault Refusal :=
  match i with
  | .resetAssert => Sys2Proof.Machine.execResetAssert s
  | .resetRelease straps => Sys2Proof.Machine.execResetRelease straps s
  | .settingsReadDone r => Sys2Proof.Machine.execSettingsReadDone r s
  | .lineIdle => Sys2Proof.Machine.execLineIdle s
  | .arbitrationLost => Sys2Proof.Machine.execArbitrationLost s
  | .sendSpoiled => Sys2Proof.Machine.execSendSpoiled s
  | .sendOutcome ack obj => Sys2Proof.Machine.execSendOutcome ack obj s
  | .checkError f => Sys2Proof.Machine.execCheckError f s
  | .fillErrorDrop => Sys2Proof.Machine.execFillErrorDrop s
  | .malformedDrop h => Sys2Proof.Machine.execMalformedDrop h s
  | .claimReceived o p a => Sys2Proof.Machine.execClaimReceived o p a s
  | .releaseReceived o p a => Sys2Proof.Machine.execReleaseReceived o p a s
  | .queryReceived o p a => Sys2Proof.Machine.execQueryReceived o p a s
  | .tableTimerExpiry => Sys2Proof.Machine.execTableTimerExpiry s
  | .tableReceived o p a => Sys2Proof.Machine.execTableReceived o p a s
  | .awakeReceived o p a => Sys2Proof.Machine.execAwakeReceived o p a s
  | .asleepReceived o p a => Sys2Proof.Machine.execAsleepReceived o p a s
  | .wakeReceived o p a => Sys2Proof.Machine.execWakeReceived o p a s
  | .absentReceived o p a => Sys2Proof.Machine.execAbsentReceived o p a s
  | .watchTakeReceived o p a => Sys2Proof.Machine.execWatchTakeReceived o p a s
  | .watchPassReceived o t p a => Sys2Proof.Machine.execWatchPassReceived o t p a s
  | .doneReceived o t p a => Sys2Proof.Machine.execDoneReceived o t p a s
  | .mirrorAckReceived o t p a => Sys2Proof.Machine.execMirrorAckReceived o t p a s
  | .mirrorMissReceived o t p a => Sys2Proof.Machine.execMirrorMissReceived o t p a s
  | .resyncBeginReceived o t p a => Sys2Proof.Machine.execResyncBeginReceived o t p a s
  | .resyncEndReceived o t p a => Sys2Proof.Machine.execResyncEndReceived o t p a s
  | .promoteReceived o t p a => Sys2Proof.Machine.execPromoteReceived o t p a s
  | .readReceived o t p a => Sys2Proof.Machine.execReadReceived o t p a s
  | .writeReceived o t p a => Sys2Proof.Machine.execWriteReceived o t p a s
  | .syncReceived o t p a => Sys2Proof.Machine.execSyncReceived o t p a s
  | .resyncWriteReceived o t p a => Sys2Proof.Machine.execResyncWriteReceived o t p a s
  | .cancelReceived o t p a => Sys2Proof.Machine.execCancelReceived o t p a s
  | .clearFaultReceived o t p a => Sys2Proof.Machine.execClearFaultReceived o t p a s
  | .probeReceived o t p a => Sys2Proof.Machine.execProbeReceived o t p a s
  | .forwardReceived o t p a => Sys2Proof.Machine.execForwardReceived o t p a s
  | .dataReceived o t p a => Sys2Proof.Machine.execDataReceived o t p a s
  | .reportReceived o t p a => Sys2Proof.Machine.execReportReceived o t p a s
  | .announcementTimerExpiry => Sys2Proof.Machine.execAnnouncementTimerExpiry s
  | .claimHoldOffExpiry => Sys2Proof.Machine.execClaimHoldOffExpiry s
  | .deferralEnd => Sys2Proof.Machine.execDeferralEnd s
  | .deferralGiveUp => Sys2Proof.Machine.execDeferralGiveUp s
  | .readyLineHigh => Sys2Proof.Machine.execReadyLineHigh s
  | .readyWaitExpiry => Sys2Proof.Machine.execReadyWaitExpiry s
  | .identifyReply r => Sys2Proof.Machine.execIdentifyReply r s
  | .driveReply r => Sys2Proof.Machine.execDriveReply r s
  | .commandTimeout => Sys2Proof.Machine.execCommandTimeout s
  | .idleLimit => Sys2Proof.Machine.execIdleLimit s
  | .spinDownSyncReply r => Sys2Proof.Machine.execSpinDownSyncReply r s
  | .recordLoadReply r => Sys2Proof.Machine.execRecordLoadReply r s
  | .recordWriteReply r => Sys2Proof.Machine.execRecordWriteReply r s
  | .promotionWriteReply r => Sys2Proof.Machine.execPromotionWriteReply r s
  | .chunkPagesTaken => Sys2Proof.Machine.execChunkPagesTaken s
  | .chunkReadReply r => Sys2Proof.Machine.execChunkReadReply r s
  | .resyncRetryWaitEnd => Sys2Proof.Machine.execResyncRetryWaitEnd s
  | .replyWaitExpiry => Sys2Proof.Machine.execReplyWaitExpiry s
  | .resyncHoldOffExpiry => Sys2Proof.Machine.execResyncHoldOffExpiry s
  | .resyncWakeIntervalExpiry => Sys2Proof.Machine.execResyncWakeIntervalExpiry s
  | .conversionDone result => Sys2Proof.Machine.execConversionDone result s
  | .comparatorOver => Sys2Proof.Machine.execComparatorOver s
  | .excursionFiltered => Sys2Proof.Machine.execExcursionFiltered s
  | .switchHoldEnd current => Sys2Proof.Machine.execSwitchHoldEnd current s
  | .trip => Sys2Proof.Machine.execTrip s
  | .dataTimeout k => Sys2Proof.Machine.execDataTimeout k s
  | .ageLimit k => Sys2Proof.Machine.execAgeLimit k s
  | .dataRetryWaitEnd k => Sys2Proof.Machine.execDataRetryWaitEnd k s
  | .mirrorWaitTimeout k => Sys2Proof.Machine.execMirrorWaitTimeout k s
  | .asleepPlaced => Sys2Proof.Machine.execAsleepPlaced s
  | .sleepRetryHoldExpiry => Sys2Proof.Machine.execSleepRetryHoldExpiry s
  | .watchTakeTest => Sys2Proof.Machine.execWatchTakeTest s
  | .takeHoldOffExpiry => Sys2Proof.Machine.execTakeHoldOffExpiry s
  | .termTimerExpiry => Sys2Proof.Machine.execTermTimerExpiry s
  | .passCheck => Sys2Proof.Machine.execPassCheck s
  | .absenceTest => Sys2Proof.Machine.execAbsenceTest s
  | .absenceHoldExpiry who => Sys2Proof.Machine.execAbsenceHoldExpiry who s
  | .wakingMarkExpiry who => Sys2Proof.Machine.execWakingMarkExpiry who s
  | .wakeRepeat who => Sys2Proof.Machine.execWakeRepeat who s
  | .proxyTimeout target k => Sys2Proof.Machine.execProxyTimeout target k s
  | .forwardRetry target k => Sys2Proof.Machine.execForwardRetry target k s
  | .tickAdvance => Sys2Proof.Machine.execTickAdvance s
  | .arbitrationWon => Sys2Proof.Machine.execArbitrationWon s

end Sys2Proof.Machine
end

