-- ==== Sys2Proof/Machine/Step.lean ====
section
/-!
DEFINITION. One step: the command at the front of the queue, executed; on an empty queue the station idles, or sends the start
bit of a message that has become pending on an idle line (R2; log 5).
-/

namespace Sys2Proof.Machine

/-- The front command is taken from the queue and executed. An empty queue is a bit time in which nothing reaches the station:
a message that waits on an idle line starts in it (R2; log 5). -/
def step (s : State) : Host.Outcome State Fault Refusal :=
  match s.pending with
  | [] => if s.startsAtOnce then exec .lineIdle s else .next s
  | c :: rest => exec c (s.setPending rest)

/-- The state with the command that a word spells at the front of its queue. -/
def State.withFetchWord (s : State) (nbits w : Nat) : State :=
  match decodeTableWord nbits w with
  | some c => s.setPending (c :: s.pending)
  | none => s

end Sys2Proof.Machine
end

