-- ==== Sys2Proof/Safety.lean ====
section
/-!
DEFINITION. What the statements speak of: the part of the state that the tests after an event leave as it is, and the
invariants of the station.
-/

namespace Sys2Proof.Machine

/-! ## What the tests after an event leave -/

/-- The state but for what the tests after an event may change: the send slots and outgoing lists, the own claim, the
progress of queue entries, the resync's progress, marks and duty work. `line` is the transmission in progress but for
the withdrawal asked for it; `coldDrive` is the drive state, deferral and off-since tick, while HOT is clear and brings
no SPIN_DOWN (R79), and `held` is the drive state while it is SPIN_UP or FAULT. The line's idleness (R2) is left out: the
commands that change it are stated once, for all (IdleLineTakesTheLowestMessage). -/
structure Steady where
  resetAsserted : Bool
  station : Station
  power : PowerState
  settingsResult : Option SettingsResult
  settings : Option Settings
  tick : Tick
  seconds : BitVec 32
  answer : Answer
  counters : List Nat
  line : Option (SlotId × OutMsg × Frame × Bool)
  peers : Vector PresenceEntry 16
  shelf : Shelf
  holdOff : Option Tick
  tableTimer : Option Tick
  powered : Bool
  cause : Option FaultCause
  readyWait : Option Tick
  coldDrive : Option (DriveState × Option Tick × Tick)
  held : Option DriveState
  usable : BlockNo
  comp : Comparator
  supply : Sampler
  role : Role
  epoch : Nat
  regionSize : Nat
  image : Option RecordFields
  partnerBehind : Bool
  wakeInterval : Option Tick
  resyncHoldOff : Option Tick
  listeningSince : Tick
  sleepRetry : Option Tick
  takeHold : Option Tick
  buffer : List Host.Cell
  pending : List Instr
  deriving DecidableEq, Repr

/-- The nine counters (R24, R33, R93, R116, R143, R144). -/
def State.counters (s : State) : List Nat :=
  [s.bus.checkErrors, s.bus.busyGiven, s.bus.spoiled, s.bus.arbLosses, s.supply.trips, s.engine.redoCount,
   s.announce.mismatches, s.request.undelivered, s.mirror.recordErrors]

/-- The steady part of a state. -/
def State.steady (s : State) : Steady :=
  { resetAsserted := s.resetAsserted, station := s.station, power := s.power, settingsResult := s.settingsResult,
    settings := s.settings, tick := s.tick, seconds := s.seconds, answer := s.bus.answer, counters := s.counters,
    line := s.bus.sending.map fun t => (t.slot, t.msg, t.frame, t.won), peers := s.peers, shelf := s.shelf,
    holdOff := s.claim.holdOff, tableTimer := s.claim.tableTimer, powered := s.drive.powered, cause := s.drive.cause,
    readyWait := s.drive.readyWait,
    coldDrive :=
      if s.supply.hot ∨ s.drive.hotStop then none else some (s.drive.state, s.drive.deferral, s.drive.offSince),
    held := if s.drive.state = .fault ∨ s.drive.state = .spinUp then some s.drive.state else none,
    usable := s.drive.usable, comp := s.comp, supply := s.supply, role := s.mirror.role,
    epoch := s.mirror.epoch, regionSize := s.mirror.regionSize, image := s.mirror.image,
    partnerBehind := s.mirror.partnerBehind, wakeInterval := s.mirror.wakeInterval, resyncHoldOff := s.engine.holdOff,
    listeningSince := s.watch.listeningSince, sleepRetry := s.watch.sleepRetry, takeHold := s.watch.takeHold,
    buffer := s.buffer, pending := s.pending }

/-! ## What a command does -/

/-- Command `c` answers a next state whose steady part is `k`. -/
def Leaves (c : Instr) (s : State) (k : Steady) : Prop := ∃ t, exec c s = .next t ∧ t.steady = k

/-- Command `c` answers a next state: its own effect gives a state with steady part `k` that satisfies `P`, and the tests
after an event follow, which leave the steady part. -/
def Does (c : Instr) (s : State) (k : Steady) (P : State → Prop) : Prop :=
  ∃ u, exec c s = .next (settle s u) ∧ u.steady = k ∧ P u

/-- Command `c` does nothing but what the tests after an event do. -/
def Idles (c : Instr) (s : State) : Prop := exec c s = .next (settle s s)

/-- Commands by which a message of another station has been on the line (R2). -/
def carriesMessage : Instr → Bool
  | .checkError _ | .fillErrorDrop | .malformedDrop _ | .claimReceived _ _ _ | .releaseReceived _ _ _
  | .queryReceived _ _ _ | .tableReceived _ _ _ | .awakeReceived _ _ _ | .asleepReceived _ _ _ | .wakeReceived _ _ _
  | .absentReceived _ _ _ | .watchTakeReceived _ _ _ | .watchPassReceived _ _ _ _ | .doneReceived _ _ _ _
  | .mirrorAckReceived _ _ _ _ | .mirrorMissReceived _ _ _ _ | .resyncBeginReceived _ _ _ _ | .resyncEndReceived _ _ _ _
  | .promoteReceived _ _ _ _ | .readReceived _ _ _ _ | .writeReceived _ _ _ _ | .syncReceived _ _ _ _
  | .resyncWriteReceived _ _ _ _ | .cancelReceived _ _ _ _ | .clearFaultReceived _ _ _ _ | .probeReceived _ _ _ _
  | .forwardReceived _ _ _ _ | .dataReceived _ _ _ _ | .reportReceived _ _ _ _ => true
  | _ => false

/-- The presence table after a message of station `o` has come into force (R37). -/
def State.heardFrom (s : State) (o : Station) : Vector PresenceEntry 16 :=
  s.peers.set o { s.peers[o] with lastHeard := s.tick }

/-- The steady part with one counter increased by one, up to 65535: the counters stand in the order of R177's item 4. -/
def State.counted (s : State) (i : Nat) : List Nat := s.counters.modify i satInc

/-- The counters after a message sent by the station is counted in one of them; a station in UNSET or SLEEPING keeps its
counters (R9; DEDUCED, log 42). -/
def State.sent (s : State) (i : Nat) : List Nat :=
  if s.power = .unset ∨ s.power = .sleeping then s.counters else s.counted i

/-- The drive's state, deferral and off-since tick, as the steady part holds them while HOT does not stop the drive. -/
def State.cold (s : State) (d : DriveState) (deferral : Option Tick) (off : Tick) :
    Option (DriveState × Option Tick × Tick) :=
  if s.supply.hot ∨ s.drive.hotStop then none else some (d, deferral, off)

/-- The same for a drive whose power has been removed, which no command in flight holds any more. -/
def State.unpowered (s : State) (d : DriveState) (deferral : Option Tick) (off : Tick) :
    Option (DriveState × Option Tick × Tick) :=
  if s.supply.hot then none else some (d, deferral, off)

/-- The steady part when the drive enters FAULT from another drive state (R80). -/
def State.faulted (s : State) (c : FaultCause) : Steady :=
  { s.steady with
    powered := false, cause := some c, readyWait := none, comp := { level := none, hold := false, counting := false }
    coldDrive := s.unpowered .fault none s.drive.offSince, held := some .fault }

/-- The steady part when power is applied (R71). -/
def State.spinningUp (s : State) : Steady :=
  { s.steady with
    powered := true, readyWait := some s.tick, comp := { level := some .spinUp, hold := true, counting := false }
    coldDrive := s.cold .spinUp none s.drive.offSince, held := some .spinUp }

/-- The steady part when power is removed and the drive enters OFF (R78). -/
def State.switchedOff (s : State) : Steady :=
  { s.steady with
    powered := false, comp := { level := none, hold := false, counting := false }
    coldDrive := s.unpowered .off s.drive.deferral s.tick, held := none }

/-- The presence entry that an AWAKE gives its sender (R33). -/
def Announcement.entry (x : Announcement) (now : Tick) : PresenceEntry :=
  { state := .listening, kind := if x.bay then .bay else .other, lastHeard := now, drive := x.drive, role := x.role
    epoch := x.epoch, behind := x.behind, usable := x.usable, duty := x.duty, budget := x.budget, holding := x.holding }

/-- The counters after an AWAKE that announces a budget: one other than that in force is counted (R33). -/
def State.mismatched (s : State) (budget : Nat) : List Nat :=
  if s.shelf.census = .complete ∧ budget ≠ s.shelf.budget then s.counted 6 else s.counters

/-- R156: the role and epoch that the station takes, from its own and its partner's; `lower` says that the station has the
lower number of the two. -/
def settledRole (lower : Bool) (mine theirs : Role × Nat) : Role × Nat :=
  let compared := (mine.1 = .primary ∨ mine.1 = .secondary) ∧ (theirs.1 = .primary ∨ theirs.1 = .secondary)
  if ¬ compared then mine
  else if mine.2 < theirs.2 then (if theirs.1 = .primary then .secondary else .primary, theirs.2)
  else if theirs.2 < mine.2 ∨ mine.1 ≠ theirs.1 then mine
  else if mine.1 = .primary then (if lower then .primary else .secondary, mine.2)
  else if lower then (.primary, min (mine.2 + 1) 65535)
  else mine

/-- R156: the dirty map with that role: every region for a station that becomes PRIMARY, or stays it against another PRIMARY
or a partner of a lower epoch; none for one that becomes SECONDARY. -/
def settledMap (mine theirs now : Role × Nat) (map : BitVec 256) : BitVec 256 :=
  if now ≠ mine then (if now.1 = .primary then BitVec.allOnes 256 else 0)
  else if mine.1 = .primary ∧ (theirs.1 = .primary ∨ theirs.1 = .secondary ∧ theirs.2 < mine.2) then BitVec.allOnes 256
  else map

/-- R156: the behind flag with that role. -/
def settledBehind (mine now : Role × Nat) (behind : Bool) : Bool :=
  if now ≠ mine then decide (now.1 = .secondary) else behind

/-- The tables after station `n` has been cleared from them (R49). -/
def State.cleared (s : State) (n : Station) : Shelf :=
  { s.shelf with
    holdings := s.shelf.holdings.set n 0, waiters := s.shelf.waiters.filter fun w => w.station != n
    watch := if s.shelf.watch = some n then none else s.shelf.watch }

/-- The values that a record write carries when it is sent: the mirror unit's, in OPENING those of the image, with the given
clean flag (R138, R142). The partner byte is 0 while no settings are in force (log 22). -/
def State.recordFor (s : State) (clean : Bool) : RecordFields :=
  let held : RecordFields :=
    { role := s.mirror.role, epoch := s.mirror.epoch
      partner := match s.settings with | some c => c.partner | none => 0
      regionSize := s.mirror.regionSize, clean := clean, dirty := s.mirror.dirty }
  if s.mirror.cond = .opening then { s.mirror.image.getD held with clean := clean } else held

/-- The dirty map after entries have ended CANCELLED, MEDIA, DRIVE_FAULT or NO_POWER: on a PRIMARY the extent of every WRITE
among them is marked (R136). -/
def State.mapAfter (s : State) (ended : List Entry) : BitVec 256 :=
  if s.mirror.role = .primary then
    ((ended.filter (·.kind == .write)).filterMap (·.extent)).foldl (fun d x => d ||| s.regions x) s.mirror.dirty
  else s.mirror.dirty

/-! ## Invariants -/

/-- The buffer is in canonical form. -/
def BufferCanonical (s : State) : Prop := memWf s.buffer = true

/-- The holdings do not exceed the budget in force (R46). -/
def HoldingsBounded (s : State) : Prop := sumOf s.shelf.holdings ≤ s.shelf.budget

/-- The waiters list holds each station at most once, and only stations whose holding is 0 (R41). -/
def WaitersSound (s : State) : Prop :=
  (s.shelf.waiters.map (·.station)).Nodup ∧ ∀ w ∈ s.shelf.waiters, s.shelf.holdings[w.station] = 0

/-- Drive power and the trip level in force are those of the drive state (R67, R89). -/
def PowerFollowsState (s : State) : Prop :=
  match s.drive.state with
  | .off | .fault => s.drive.powered = false ∧ s.comp.level = none
  | .spinUp => s.drive.powered = true ∧ s.comp.level = some .spinUp
  | .ready | .spinDown => s.drive.powered = true ∧ s.comp.level = some .run

/-- The request queue holds at most 16 entries, and no two of one origin and tag (R99). -/
def QueueSound (s : State) : Prop :=
  s.request.queue.length ≤ 16 ∧ (s.request.queue.map (·.key)).Nodup

/-- Every page is free or has one owner (R101). -/
def PagesSound (s : State) : Prop := s.ownedPages.Nodup ∧ ∀ p ∈ s.ownedPages, p < 256

/-- Every counter is at most 65535 (R24, R33, R93, R116, R143, R144). -/
def CountersBounded (s : State) : Prop := ∀ n ∈ s.counters, n ≤ 65535

/-- What is on the line is what the slot it was taken from still holds (R17, R19). -/
def LineFromSlot (s : State) : Prop := ∀ t, s.bus.sending = some t → s.slot t.slot = some t.msg

/-- The number of a send slot (R17). -/
def SlotId.number : SlotId → Nat
  | .budget => 1 | .presence => 2 | .watch => 3 | .request => 4 | .mirror => 5 | .resync => 6

/-- The kinds that the owner of a slot places in it (R17). -/
def OutMsg.fits (m : OutMsg) : SlotId → Bool
  | .budget => match m with | .claim _ | .release _ _ _ | .query | .table _ => true | _ => false
  | .presence => match m with | .awake => true | _ => false
  | .watch => match m with
    | .asleep | .wake _ _ | .absent _ | .watchTake | .watchPass _ | .forward _ _ _ | .done _ _ _ _ _ _ => true
    | _ => false
  | .request => match m with | .done _ _ _ _ _ _ | .data _ _ _ _ _ | .report _ _ _ _ => true | _ => false
  | .mirror => match m with
    | .mirrorAck _ _ _ _ _ | .mirrorMiss _ _ _ _ _ _ | .resyncBegin _ _ _ | .resyncEnd _ _ _ | .wake _ _ => true
    | _ => false
  | .resync => match m with | .resyncWrite _ _ _ _ => true | .data _ _ _ r _ => r | _ => false

/-- Every slot and every outgoing list holds only kinds of its owner (R17). -/
def SlotsHoldOwnKinds (s : State) : Prop :=
  (∀ i m, s.slot i = some m → m.fits i = true) ∧ (∀ m ∈ s.claim.out, m.fits .budget = true)
    ∧ (∀ m ∈ s.watch.out, m.fits .watch = true) ∧ ∀ m ∈ s.mirror.out, m.fits .mirror = true

end Sys2Proof.Machine
end

