-- ==== Sys2Proof/Certificates/Slice0/Obligations.lean ====
section
/-!
DEFINITION. The statements for the provers. `Leaves c s k`: command `c` answers a next state with steady part `k`;
`Does c s k P`: besides, the command's own effect satisfies `P`; `Idles c s`: the command only lets the tests after an
event run.
-/

section
open Sys2Proof Sys2Proof.Machine

/-! ## The machine -/

/-- A step with a command at the front of the queue is that command on the rest of the queue; an empty queue idles, or sends the
start bit of a message that waits on an idle line, as R2 gives for a line idle for longer (that an empty queue is a bit time in
which nothing reaches the station is DESIGN CHOICE, log 5). -/
def Obligations.StepRunsFrontCommand : Prop :=
  (∀ (c : Instr) (rest : List Instr) (s : State),
      step { s with pending := c :: rest } = exec c { s with pending := rest })
  ∧ ∀ s : State, s.pending = [] →
      (s.bus.idle = false ∨ s.bus.sending ≠ none ∨ s.nextToSend = none → step s = .next s)
      ∧ (s.bus.idle = true → s.bus.sending = none → s.nextToSend ≠ none → step s = exec .lineIdle s)

/-- Every command answers a next state and leaves the queue of commands; while reset is asserted, no command but a release
of reset changes anything (the model's choice: DESIGN CHOICE, log 23). -/
def Obligations.EveryCommandAnswersANextState : Prop :=
  (∀ (c : Instr) (s : State), ∃ t, exec c s = .next t ∧ t.pending = s.pending)
  ∧ ∀ (c : Instr) (s : State), s.resetAsserted = true → c ≠ .resetAssert → (∀ p, c ≠ .resetRelease p) →
    exec c s = .next s

/-- What reset asserted forces, and the values in force at reset release. That the blocks hold these values already while
reset is asserted (log 23), and that the buffer keeps its bytes (log 7) and the mirror unit's page its block (log 8), are the
model's choices: DESIGN CHOICEs. -/
def Obligations.ResetLeavesItsValues : Prop :=
  (∀ s : State, ∃ t, exec .resetAssert s = .next t ∧ t.resetAsserted = true
      ∧ t.drive.powered = false ∧ t.drive.state = .off ∧ t.drive.cause = none ∧ t.drive.flight = none
      ∧ t.comp = { level := none, hold := false, counting := false }
      ∧ t.bus.slots = ⟨none, none, none, none, none, none⟩ ∧ t.bus.sending = none ∧ t.bus.answer = .nothing
      ∧ t.bus.idle = false ∧ t.request = { queue := [], out := [], undelivered := 0 } ∧ t.tick = 0 ∧ t.seconds = 0
      ∧ t.buffer = s.buffer ∧ t.pending = s.pending)
  ∧ (∀ (p : BitVec 4) (s : State), s.resetAsserted = true → ∃ t, exec (.resetRelease p) s = .next t
      ∧ t.resetAsserted = false ∧ t.station.val = p.toNat ∧ t.power = .starting
      ∧ t.settings = none ∧ t.settingsResult = none ∧ t.tick = 0 ∧ t.seconds = 0
      ∧ t.bus.slots = ⟨none, none, none, none, none, none⟩ ∧ t.bus.sending = none
      ∧ t.bus.answer = .nothing ∧ t.bus.idle = false
      ∧ t.counters = [0, 0, 0, 0, 0, 0, 0, 0, 0]
      ∧ (∀ n : Station, t.peers[n] =
          { state := .unknown, kind := .other, lastHeard := 0, drive := .off, role := .notLoaded, epoch := 0,
            behind := false, usable := 0, duty := false, budget := 0, holding := 0 })
      ∧ t.announce = { timer := none, again := false, mismatches := 0 }
      ∧ (∀ n : Station, t.shelf.holdings[n] = 0) ∧ t.shelf.waiters = [] ∧ t.shelf.budget = 0
      ∧ t.shelf.census = .incomplete ∧ t.shelf.watch = none ∧ t.shelf.adopted = false
      ∧ t.claim = { state := .none, holdOff := none, out := [], tableTimer := none, giveUp := false, fullWanted := false }
      ∧ t.comp = { level := none, hold := false, counting := false }
      ∧ t.drive = { state := .off, cause := none, powered := false, deferral := none, readyWait := none, usable := 0,
                    flight := none, idle := none, offSince := 0, need := false, resyncWait := 0, hotStop := false }
      ∧ (∀ c : Fin 6, t.supply.records[c] =
          { value := 0, gain := .x4, overFlag := false, sequence := 0, valid := false })
      ∧ t.supply.channel = 0 ∧ t.supply.gain = .x4 ∧ t.supply.hot = false ∧ t.supply.trips = 0
      ∧ t.request = { queue := [], out := [], undelivered := 0 } ∧ t.freePages = List.range 256
      ∧ t.mirror.role = .notLoaded ∧ t.mirror.epoch = 0 ∧ t.mirror.link = .unloaded ∧ t.mirror.behind = false
      ∧ t.mirror.regionSize = 0 ∧ t.mirror.dirty = 0 ∧ t.mirror.copies = [] ∧ t.mirror.partnerBehind = false
      ∧ t.mirror.wakeInterval = none ∧ t.mirror.out = [] ∧ t.mirror.cond = .notLoaded ∧ t.mirror.image = none
      ∧ t.mirror.promotion = none ∧ t.mirror.behindAnnounced = false ∧ t.mirror.readWake = false
      ∧ t.mirror.rejoinRetry = none ∧ t.mirror.notedBehind = false ∧ t.mirror.recordErrors = 0
      ∧ t.mirror.calls = { opening := false, roleChange := false, mark := false, writeQueued := false, clean := false }
      ∧ t.mirror.blockStore = s.mirror.blockStore
      ∧ t.engine = { state := .idle, region := none, cursor := 0, chunk := none, redo := false, tagCounter := 0,
                     outstanding := none, replyWait := none, holdOff := none, redoCount := 0, ready := false,
                     retry := none, readStarted := false, orphans := [] }
      ∧ t.watch.listeningSince = 0 ∧ t.watch.sleepRetry = none ∧ t.watch.takeHold = none ∧ t.watch.term = none
      ∧ t.watch.passCheck = none ∧ t.watch.proxy = [] ∧ t.watch.out = []
      ∧ (∀ n : Station, t.watch.marks[n] =
          { waking := none, wakeWanted := false, lastWake := none, absenceHold := none })
      ∧ t.buffer = s.buffer ∧ t.pending = s.pending)

/-- The machine after reset satisfies every invariant that is stated below as kept by each step. -/
def Obligations.InvariantsHoldAtReset : Prop :=
  BufferCanonical .reset ∧ CountersBounded .reset ∧ PowerFollowsState .reset ∧ HoldingsBounded .reset
  ∧ WaitersSound .reset ∧ QueueSound .reset ∧ PagesSound .reset ∧ LineFromSlot .reset ∧ SlotsHoldOwnKinds .reset

/-- The settings read: what goes over the settings lane and when it counts as acknowledged (that the read is one command's
time is DESIGN CHOICE, log 45), the tests in their order, the fields handed out, the census begun, or UNSET. -/
def Obligations.SettingsReadDecidesThePart : Prop :=
  settingsTransaction =
    [.start, .send 0xA0, .send 0, .start, .send 0xA1] ++ List.replicate 15 (.take true) ++ [.take false, .stop]
  ∧ (∀ b : List Byte, b.length = 16 → readOf [true, true, true] b = .bytes b)
  ∧ (∀ (k : List Bool) (b : List Byte), k ≠ [true, true, true] ∨ b.length ≠ 16 → readOf k b = .notAcknowledged)
  ∧ (∀ n, testSettings n .notAcknowledged = (.missing, none))
  ∧ (∀ n b, b.length = 16 → b.getD 0 0 ≠ 0xE5 → testSettings n (.bytes b) = (.marker, none))
  ∧ (∀ n b, b.length = 16 → b.getD 0 0 = 0xE5 → (b.map (·.toNat)).sum % 256 ≠ 0xA5 →
      testSettings n (.bytes b) = (.check, none))
  ∧ (∀ (n : Station) (b : List Byte), b.length = 16 → b.getD 0 0 = 0xE5 → (b.map (·.toNat)).sum % 256 = 0xA5 →
      let x := fun i => (b.getD i 0).toNat
      ∀ ok : Bool, (ok = true ↔ 1 ≤ x 1 ∧ 1 ≤ x 2 ∧ x 2 ≤ 127 ∧ 1 ≤ x 3 ∧ x 3 ≤ x 2 ∧ x 4 ≤ 2
          ∧ (x 4 ≠ 0 → x 5 ≤ 15 ∧ x 5 ≠ n.val) ∧ x 6 ≤ 1 ∧ 1 ≤ x 7 ∧ 1 ≤ x 9 ∧ x 9 ≤ 24 ∧ x 12 ≤ 15 ∧ 30 ≤ x 13
          ∧ x 13 ≤ 80) →
        testSettings n (.bytes b) =
          if ok then
            (.good, some
              { budget := x 1, spinCost := x 2, runCost := x 3
                mode := if x 4 = 0 then .single else if x 4 = 1 then .primary else .secondary
                partner := b.getD 5 0, freshPair := x 6 = 1, idleLimit := x 7, sleepDelay := x 8, watchTerm := x 9
                runTrip := x 10, spinTrip := x 11, filterWidth := x 12, tempLimit := x 13, wakeThreshold := x 14 })
          else (.range, none))
  ∧ ∀ (r : SettingsRead) (s : State), s.resetAsserted = false → s.power = .starting → s.settingsResult = none →
      ((testSettings s.station r).1 ≠ .good →
        Leaves (.settingsReadDone r) s
          { s.steady with
            power := .unset, settingsResult := some (testSettings s.station r).1, settings := none })
      ∧ ∀ c, testSettings s.station r = (.good, some c) →
        Does (.settingsReadDone r) s
          { s.steady with
            settingsResult := some .good, settings := some c, holdOff := none, tableTimer := none
            shelf := { holdings := Vector.replicate 16 0, waiters := [], budget := c.budget, census := .incomplete,
                       watch := none, adopted := false } }
          fun u => u.claim.state = .none ∧ u.budgetPending isQuery = true

/-! ## Sending -/

/-- An idle line takes the pending message of the lowest class, and of equal class the one in the lowest slot, with its
frame made at the start bit; an UNSET station sends a REPORT from the REQUEST slot alone. With none pending the line stays
counted as idle, until a message is on it (that `bus.idle` holds this: DESIGN CHOICE, log 10). LINE_IDLE with a transmission of
the station in progress does nothing (DESIGN CHOICE, log 3). -/
def Obligations.IdleLineTakesTheLowestMessage : Prop :=
  (∀ (s : State) (i : SlotId) (m : OutMsg), s.takesPart = true → s.bus.sending = none → s.slot i = some m →
      (∀ j n, s.slot j = some n → classOfKind m.kind < classOfKind n.kind
        ∨ classOfKind m.kind = classOfKind n.kind ∧ i.number ≤ j.number) →
      Leaves .lineIdle s { s.steady with line := some (i, m, s.frameFor m, false) })
  ∧ (∀ s : State, s.takesPart = true → s.bus.sending = none → (∀ i, s.slot i = none) →
      Does .lineIdle s s.steady fun u => u = { s with bus := { s.bus with idle := true } })
  ∧ (∀ s : State, s.bus.sending ≠ none → s.resetAsserted = false → Idles .lineIdle s)
  ∧ (∀ (s : State) (d t i c), s.resetAsserted = false → s.power = .unset → s.bus.sending = none →
      s.slot .request = some (.report d t i c) →
      Leaves .lineIdle s
        { s.steady with line := some (.request, .report d t i c, s.frameFor (.report d t i c), false) })
  ∧ (∀ s : State, s.resetAsserted = false → s.power = .sleeping → s.bus.sending = none →
      Does .lineIdle s s.steady fun u => u = { s with bus := { s.bus with idle := true } })
  ∧ (∀ (c : Instr) (s : State), s.resetAsserted = false → c ≠ .resetAssert → ∃ t, exec c s = .next t ∧
      (carriesMessage c = true → t.bus.idle = false)
      ∧ (c = .lineIdle → s.bus.sending = none → t.bus.idle = t.bus.sending.isNone)
      ∧ (carriesMessage c = false → c ≠ .lineIdle ∨ s.bus.sending ≠ none → t.bus.idle = s.bus.idle))
  ∧ ∀ (s : State) (m : OutMsg), (s.frameFor m).header.origin.toNat = s.station.val
      ∧ (s.frameFor m).header.kind.toNat = m.kind ∧ (s.frameFor m).header.cls.toNat = classOfKind m.kind
      ∧ (s.frameFor m).check = frameCheck (s.frameFor m).header (s.frameFor m).payload
      ∧ (m = .awake → (s.frameFor m).payload = s.announcement.bytes)
      ∧ ∀ q, m = .table q → (s.frameFor m).payload = (s.tableFor q).bytes

/-- The contest: a loss counts and leaves the message pending, unless its withdrawal was asked for, when it goes; a win
refuses a withdrawal asked for before it. That a loss with the withdrawal held is counted all the same is the model's choice
(DESIGN CHOICE, log 31); that an UNSET or SLEEPING station counts none is DEDUCED (log 42). -/
def Obligations.ArbitrationLostOrWon : Prop :=
  ∀ (s : State) (x : Sending), s.resetAsserted = false → s.bus.sending = some x →
    (x.won = false → x.withdrawal ≠ .held →
      exec .arbitrationLost s =
        .next (settle s { s with bus := { s.bus with
          sending := none
          arbLosses := if s.power = .unset ∨ s.power = .sleeping then s.bus.arbLosses else satInc s.bus.arbLosses } }))
    ∧ (x.won = false → x.withdrawal = .held →
      Does .arbitrationLost s { s.steady with line := none, counters := s.sent 3 } fun u => u.slot x.slot = none)
    ∧ exec .arbitrationWon s =
        .next (settle s { s with bus := { s.bus with
          sending := some { x with
            won := true, withdrawal := if x.withdrawal = .held then .refused else x.withdrawal } } })

/-- The outcome that the answer bits give, and its report: the slot empties, and the owner's handling follows, here of TABLE,
WAKE, ABSENT, WATCH-TAKE, WATCH-PASS, MIRROR-ACK and MIRROR-MISS. An UNSET or SLEEPING station counts no SPOILED send
(DEDUCED, log 42); a MIRROR-MISS sent again leaves the behind flag as it stands (log 36), and a resync wake that comes into
force once the station is no longer PRIMARY starts no interval (log 40), as DESIGN CHOICEs. A resync wake is made ready when
R155's test calls for one, and no second one while one waits (DESIGN CHOICE, log 47); a READ that ends STALE makes a read wake
ready. -/
def Obligations.OutcomeIsReportedToTheOwner : Prop :=
  (∀ (m : OutMsg) (d : Station), m.dest = some d →
      outcomeOf m true true = .taken ∧ outcomeOf m true false = .taken ∧ outcomeOf m false true = .busy
      ∧ outcomeOf m false false = .unanswered)
  ∧ (∀ (m : OutMsg) (a : Bool), m.dest = none → outcomeOf m a false = .inForce a ∧ outcomeOf m a true = .objected a)
  ∧ (∀ (s : State) (x : Sending), s.resetAsserted = false → s.bus.sending = some x → x.won = true →
      (∀ a o, exec (.sendOutcome a o) s =
        .next (settle s (sendDone x (outcomeOf x.msg a o)
          { s with bus := { s.bus with sending := none, slots := s.bus.slots.set x.slot none } })))
      ∧ exec .sendSpoiled s =
        .next (settle s (sendDone x .spoiled
          { s with bus := { s.bus with
              sending := none, slots := s.bus.slots.set x.slot none
              spoiled := if s.power = .unset ∨ s.power = .sleeping then s.bus.spoiled else satInc s.bus.spoiled } })))
  ∧ (∀ (s : State) (p : Station) (c : Settings), s.partner = some p → s.settings = some c →
      let calls : Prop := s.mirror.role = .primary ∧ c.wakeThreshold ≠ 0 ∧ c.wakeThreshold ≤ s.dirtyCount
        ∧ (s.presence p).state = .sleeping ∧ s.mirror.wakeInterval = none
        ∧ s.mirror.out.any isResyncWake = false ∧ s.slotHolds .mirror isResyncWake = false
      (calls → resyncWakeTest s =
        { s with mirror := { s.mirror with out := s.mirror.out ++ [.wake (1#16 <<< p.val) .resync] } })
      ∧ (¬ calls → resyncWakeTest s = s))
  ∧ (∀ (b s : State) (p : Station) (c : Settings), s.takesPart = true → s.partner = some p → s.settings = some c →
      let t := settle b s
      t.mirror.role = .primary → c.wakeThreshold ≠ 0 → c.wakeThreshold ≤ t.dirtyCount →
        (t.presence p).state = .sleeping → t.mirror.wakeInterval = none →
        t.mirror.out.any isResyncWake = true ∨ t.slotHolds .mirror isResyncWake = true)
  ∧ (∀ (s : State) (k : Key) (e : Entry) (p : Station), s.entry k = some e → s.partner = some p →
      let u := endEntry k .stale s
      (s.mirror.role = .secondary → (s.presence p).state ≠ .listening → s.mirror.readWake = false →
        u.mirror.readWake = true ∧ u.mirror.out = s.mirror.out ++ [.wake (1#16 <<< p.val) .read])
      ∧ (s.mirror.role ≠ .secondary ∨ (s.presence p).state = .listening ∨ s.mirror.readWake = true →
        u.mirror.readWake = s.mirror.readWake ∧ u.mirror.out = s.mirror.out))
  ∧ ∀ (s : State) (x : Sending), s.resetAsserted = false → s.bus.sending = some x → x.won = true →
      let done : Steady := { s.steady with line := none }
      let fell : Steady := { done with counters := s.sent 2 }
      let fails : (Steady → Steady) → (State → Prop) → Prop := fun k P =>
        (∀ a, Does (.sendOutcome a true) s (k done) P) ∧ Does .sendSpoiled s (k fell) P
      (∀ q, x.msg = .table q → x.slot = .budget →
        (∀ a, Does (.sendOutcome a false) s done fun u => u.claim = s.claim)
        ∧ (s.claim.out.any (isTableFor q) = false → fails id fun u => u.claim.out = s.claim.out ++ [.table q])
        ∧ (s.claim.out.any (isTableFor q) = true → fails id fun u => u.claim = s.claim))
      ∧ (∀ m, x.msg = .wake m .proxy → s.duty = true →
        (∀ a, Does (.sendOutcome a false) s done fun u => ∀ n : Station, u.watch.marks[n] =
          if m.getLsbD n.val then
            { s.watch.marks[n] with
              lastWake := some s.tick, wakeWanted := false
              waking :=
                if a = true ∧ n ≠ s.station ∧ s.peers[n].state = .sleeping then some s.tick
                else s.watch.marks[n].waking }
          else s.watch.marks[n])
        ∧ fails id fun u => u.watch.out = s.watch.out ++ [.wake m .proxy])
      ∧ (∀ m, x.msg = .wake m .resync →
        (∀ a, Does (.sendOutcome a false) s
            { done with wakeInterval := if s.mirror.role = .primary then some s.tick else s.mirror.wakeInterval }
            fun u => u.mirror.out = s.mirror.out)
        ∧ fails id fun u => u.mirror.out = s.mirror.out ++ [.wake m .resync])
      ∧ (∀ m, x.msg = .wake m .read →
        (∀ a, Does (.sendOutcome a false) s done fun u => u.mirror = s.mirror)
        ∧ fails id fun u => u.mirror.out = s.mirror.out ++ [.wake m .read])
      ∧ (∀ n, x.msg = .absent n → n ≠ s.station →
        (∀ a, Does (.sendOutcome a false) s
            { done with
              peers := s.peers.set n { s.peers[n] with state := .absent, holding := 0 }, shelf := s.cleared n
              partnerBehind := if s.partner = some n then false else s.mirror.partnerBehind }
            fun u => u.watch.marks[n].waking = none ∧ (∀ e ∈ u.watch.proxy, e.target ≠ n)
              ∧ ∀ e ∈ s.watch.proxy, e.target = n →
                OutMsg.done e.key.origin e.key.tag .notAwake false none (some n) ∈ u.watch.out)
        ∧ (s.duty = true → fails id fun u =>
            u.watch.marks = s.watch.marks.set n { s.watch.marks[n] with absenceHold := some (s.tick + 100#32) }))
      ∧ (x.msg = .watchTake → fails (fun k => { k with takeHold := some (s.tick + 100#32) }) fun u => u.duty = s.duty)
      ∧ (∀ n, x.msg = .watchPass n →
        (∀ b, Does (.sendOutcome false b) s done fun u => u.watch = s.watch)
        ∧ Does .sendSpoiled s fell fun u => u.watch = s.watch)
      ∧ ∀ (d : Station) (k : Key) (st : BlockNo) (c n : Nat) (ans : Bool) (next : OutMsg),
        (x.msg = .mirrorAck d k st n ans ∧ next = .mirrorAck d k st (n + 1) ans)
          ∨ (x.msg = .mirrorMiss d k st c n ans ∧ next = .mirrorMiss d k st c (n + 1) ans) →
        let again : State → Prop := fun u => u.mirror.out = next :: s.mirror.out ∧ u.mirror.behind = s.mirror.behind
        (∀ b, Does (.sendOutcome true b) s done fun u => u.mirror = s.mirror)
        ∧ (Does (.sendOutcome false false) s done fun u => u.mirror = s.mirror)
        ∧ (n + 1 < 4 → Does (.sendOutcome false true) s done again ∧ Does .sendSpoiled s fell again)
        ∧ (4 ≤ n + 1 →
          (Does (.sendOutcome false true) s done fun u => u.mirror = s.mirror)
          ∧ Does .sendSpoiled s fell fun u => u.mirror = s.mirror)

/-- The station's own CLAIM: made ready when its conditions hold after an event, and from WAITING when the own table would
admit it; in force, an admission raises its holding and starts the drive, or defers it; a refusal leaves it waiting; objected
to or spoiled, it returns to where the claim stood. A claim given up while it was on the line gives its place in the list up
with that outcome. An UNSET or SLEEPING station counts no SPOILED send (DEDUCED, log 42). -/
def Obligations.OwnClaimIsDecidedInOwnTables : Prop :=
  (∀ (b s : State) (c : Settings), s.takesPart = true → s.settings = some c →
    let t := settle b s
    (t.shelf.census = .complete → t.drive.need = true → t.drive.state = .off → t.supply.hot = false → t.ownHolding = 0 →
      t.claim.holdOff = none → c.spinCost ≤ t.shelf.budget →
      t.claim.state ≠ .none ∧ (t.claim.state = .waiting → t.shelf.admits t.station c.spinCost = false))
    ∧ (s.claim.state = .none ∨ s.claim.state = .waiting → t.claim.state = .asking →
      OutMsg.claim c.spinCost ∈ t.claim.out ∨ t.slot .budget = some (.claim c.spinCost)))
  ∧ ∀ (s : State) (x : Sending) (n : Nat) (a : Bool), s.resetAsserted = false → s.bus.sending = some x → x.won = true →
    x.msg = .claim n → s.ownHolding = 0 → n ≤ s.shelf.budget →
    let raised : Shelf := { s.shelf with
      holdings := s.shelf.holdings.set s.station n, waiters := s.shelf.waiters.filter fun w => w.station != s.station }
    let listed : Shelf := { s.shelf with
      waiters :=
        if s.shelf.waits s.station then
          s.shelf.waiters.map fun w => if w.station = s.station then { w with units := n } else w
        else s.shelf.waiters ++ [⟨s.station, n⟩] }
    let fails : (State → Prop) → Prop := fun P =>
      Does (.sendOutcome a true) s { s.steady with line := none } P
        ∧ Does .sendSpoiled s { s.steady with line := none, counters := s.sent 2 } P
    let givesUp : State → Prop := fun u =>
      u.claim.state = .releasing ∧ u.claim.out = s.claim.out ++ [.release 0 true .giveUp]
    (s.shelf.admits s.station n = true → s.drive.state = .off → s.drive.deferral = none → s.adequate = true →
      Does (.sendOutcome a false) s { s.spinningUp with line := none, shelf := raised }
        fun u => u.claim.state = .spinUnits)
    ∧ (s.shelf.admits s.station n = true → s.drive.state = .off → s.drive.deferral = none → s.adequate = false →
      Does (.sendOutcome a false) s
        { s.steady with line := none, shelf := raised, coldDrive := s.cold .off (some s.tick) s.drive.offSince }
        fun u => u.claim.state = .spinUnits)
    ∧ (s.shelf.admits s.station n = true → s.drive.state = .fault →
      Does (.sendOutcome a false) s { s.steady with line := none, shelf := raised }
        fun u => u.claim.state = .releasing ∧ u.claim.out = s.claim.out ++ [.release n false .full])
    ∧ (s.shelf.admits s.station n = false →
      Does (.sendOutcome a false) s { s.steady with line := none, shelf := listed } fun u =>
        (s.claim.giveUp = false → u.claim.state = .waiting) ∧ (s.claim.giveUp = true → givesUp u))
    ∧ (s.claim.state = .asking → s.claim.giveUp = false →
      fails fun u => u.claim.state = (if s.shelf.waits s.station then .waiting else .none) ∧ u.claim.out = s.claim.out)
    ∧ (s.claim.state = .asking → s.claim.giveUp = true →
      fails fun u =>
        (s.shelf.waits s.station = true → givesUp u)
        ∧ (s.shelf.waits s.station = false → u.claim.state = .none ∧ u.claim.out = s.claim.out))

/-- The station's own RELEASE: in force it lowers the own holding, a settling one ends SPIN_UNITS and a full one
RELEASING; objected to or spoiled, it is made ready again, or, for a settling one after power has been removed, the full RELEASE
is. An UNSET or SLEEPING station counts no SPOILED send (DEDUCED, log 42). -/
def Obligations.OwnReleaseLowersAndIsRepeated : Prop :=
  ∀ (s : State) (x : Sending) (n : Nat) (w : Bool) (why : ReleaseWhy) (a : Bool), s.resetAsserted = false →
    s.bus.sending = some x → x.won = true → x.msg = .release n w why →
    let gives : Nat → State → Prop := fun held u =>
      u.claim.state = .releasing ∧ u.claim.out = s.claim.out ++ [.release held false .full]
    let again : State → Prop := fun u =>
      (why = .settle → s.claim.state = .spinUnits → s.claim.fullWanted = false →
        u.claim.state = .spinUnits ∧ u.claim.out = s.claim.out ++ [.release (s.spinCost - s.runCost) false .settle])
      ∧ (why = .settle → s.claim.fullWanted = true → gives s.ownHolding u)
      ∧ (why = .full → s.claim.state = .releasing → gives s.ownHolding u)
      ∧ (why = .giveUp → s.claim.state = .releasing →
        u.claim.state = .releasing ∧ u.claim.out = s.claim.out ++ [.release 0 true .giveUp])
    Does (.sendOutcome a false) s
      { s.steady with
        line := none
        shelf := { s.shelf with
          holdings := s.shelf.holdings.set s.station (s.ownHolding - n)
          waiters := if w then s.shelf.waiters.filter fun v => v.station != s.station else s.shelf.waiters } }
      (fun u => (why = .settle → s.claim.state = .spinUnits → s.claim.fullWanted = false → u.claim.state = .runUnits)
        ∧ (why ≠ .settle → s.claim.state = .releasing → u.claim.state = .none)
        ∧ (why = .settle → s.claim.fullWanted = true → gives (s.ownHolding - n) u))
    ∧ Does (.sendOutcome a true) s { s.steady with line := none } again
    ∧ Does .sendSpoiled s { s.steady with line := none, counters := s.sent 2 } again

/-- QUERY: a COMPLETE station takes it and makes a TABLE ready, an INCOMPLETE one does not; the querier completes its
census when nobody acknowledged, starts its table timer when somebody did, and queries again when objected to or spoiled. An
UNSET or SLEEPING station counts no SPOILED send (DEDUCED, log 42). -/
def Obligations.QueryAndItsOutcome : Prop :=
  (∀ (s : State) (o : Station) (a : AnswerSlot), s.takesPart = true → o ≠ s.station →
      (s.shelf.census = .complete → a.obj = false →
        Does (.queryReceived o [] a) s { s.steady with answer := .acknowledge, peers := s.heardFrom o }
          fun u => u.budgetPending (isTableFor o) = true)
      ∧ (s.shelf.census = .complete → a.obj = true →
        Leaves (.queryReceived o [] a) s { s.steady with answer := .acknowledge })
      ∧ (s.shelf.census = .incomplete →
        Does (.queryReceived o [] a) s
          { s.steady with answer := .nothing, peers := if a.obj then s.peers else s.heardFrom o }
          fun u => u.claim = s.claim))
  ∧ ∀ (s : State) (x : Sending), s.resetAsserted = false → s.bus.sending = some x → x.won = true → x.msg = .query →
      s.shelf.census = .incomplete →
      Leaves (.sendOutcome false false) s
        { s.steady with
          line := none, power := .listening, listeningSince := s.tick, tableTimer := none
          shelf := { s.shelf with census := .complete } }
      ∧ Leaves (.sendOutcome true false) s { s.steady with line := none, tableTimer := some s.tick }
      ∧ (∀ a, Does (.sendOutcome a true) s { s.steady with line := none } fun u => u.budgetPending isQuery = true)
      ∧ Does .sendSpoiled s { s.steady with line := none, counters := s.sent 2 } fun u => u.budgetPending isQuery = true

/-- The outcome of ASLEEP: in force the station sleeps with its slots and lists empty; objected to or spoiled, it holds off. An
UNSET or SLEEPING station counts no SPOILED send (DEDUCED, log 42). -/
def Obligations.AsleepInForcePutsTheStationToSleep : Prop :=
  ∀ (s : State) (x : Sending) (a : Bool), s.resetAsserted = false → s.bus.sending = some x → x.won = true →
    x.msg = .asleep →
    (∃ t, exec (.sendOutcome a false) s = .next t
      ∧ t.steady =
        { s.steady with
          line := none, power := .sleeping, shelf := s.cleared s.station, tableTimer := none, partnerBehind := false
          wakeInterval := none, resyncHoldOff := none, listeningSince := 0, sleepRetry := none, takeHold := none }
      ∧ t.bus.slots = ⟨none, none, none, none, none, none⟩ ∧ t.claim.state = .none ∧ t.claim.out = []
      ∧ t.mirror.out = [] ∧ t.watch.out = [] ∧ t.watch.proxy = [] ∧ t.engine.state = .idle
      ∧ t.announce.timer = none ∧ t.drive.need = false)
    ∧ Leaves (.sendOutcome a true) s { s.steady with line := none, sleepRetry := some (s.tick + 100#32) }
    ∧ Leaves .sendSpoiled s
        { s.steady with line := none, counters := s.sent 2, sleepRetry := some (s.tick + 100#32) }

/-- AWAKE: a change of what R31 names and the timer's expiry place one; in force it starts the timer, or the announce-again
mark places the next; objected to or spoiled, another is placed at once. The expiry does nothing before its time, and acts
when it comes late (DESIGN CHOICE, log 2). -/
def Obligations.AnnouncementsFollowTheTimer : Prop :=
  (∀ b s : State, s.resetAsserted = false → s.power = .listening → s.slot .presence = none →
      let t := settle b s
      b.drive.state ≠ t.drive.state ∨ b.mirror.role ≠ t.mirror.role ∨ b.mirror.epoch ≠ t.mirror.epoch
        ∨ b.mirror.behind ≠ t.mirror.behind ∨ b.duty ≠ t.duty →
      t.slot .presence = some .awake ∧ t.announce.timer = none)
  ∧ (∀ (s : State) (t0 : Tick), s.resetAsserted = false → s.power = .listening → s.announce.timer = some t0 →
      400 ≤ elapsed s.tick t0 → s.slot .presence = none →
      Does .announcementTimerExpiry s s.steady fun u => u.slot .presence = some .awake ∧ u.announce.timer = none)
  ∧ (∀ (s : State) (t0 : Tick), s.resetAsserted = false → s.announce.timer = some t0 → elapsed s.tick t0 < 400 →
      Idles .announcementTimerExpiry s)
  ∧ ∀ (s : State) (x : Sending) (a : Bool), s.resetAsserted = false → s.power = .listening →
      s.bus.sending = some x → x.won = true → x.slot = .presence → x.msg = .awake →
      (s.announce.again = false →
        Does (.sendOutcome a false) s { s.steady with line := none }
          fun u => u.slot .presence = none ∧ u.announce.timer = some s.tick)
      ∧ (s.announce.again = true →
        Does (.sendOutcome a false) s { s.steady with line := none }
          fun u => u.slot .presence = some .awake ∧ u.announce.timer = none ∧ u.announce.again = false)
      ∧ Does (.sendOutcome a true) s { s.steady with line := none }
          (fun u => u.slot .presence = some .awake ∧ u.announce.timer = none ∧ u.announce.again = false)
      ∧ Does .sendSpoiled s { s.steady with line := none, counters := s.counted 2 }
          (fun u => u.slot .presence = some .awake ∧ u.announce.timer = none ∧ u.announce.again = false)

/-- A READ's DATA piece: TAKEN moves the send position on and ends the entry OK after the last; BUSY waits 5 ticks and ends it
UNDELIVERED at the eighth attempt; UNANSWERED or SPOILED end it UNDELIVERED; the oldest DONE goes before any piece, and its
entry leaves with it. The end of the retry wait does nothing before its 5 ticks (DESIGN CHOICE, log 2). At a FOLLOWING
secondary a piece that its partner takes sets the behind flag, as any DATA for the partner without a REPLICA entry does. An
UNSET or SLEEPING station counts no SPOILED send (DEDUCED, log 42). -/
def Obligations.DataPiecesAreDelivered : Prop :=
  (∀ (b s : State) (k : Key) (e : Entry) (l r : List ReqOut), s.takesPart = true → QueueSound s →
      s.slot .request = none → s.request.out = l ++ .entryDone k :: r → (∀ m ∈ l, m.isDone = false) →
      l.length < b.request.out.length → s.entry k = some e → e.state = .ending →
      let t := settle b s
      t.slot .request = some (.done k.origin k.tag (e.status.getD .ok) e.cancelLate e.forwardedBy none)
        ∧ t.entry k = none)
  ∧ (∀ (s : State) (x : Sending) (d : Station) (tag : Tag) (i : Nat) (bs : List Byte) (e : Entry) (p : SendPos)
      (ext : Extent), s.resetAsserted = false → s.bus.sending = some x → x.won = true →
      x.msg = .data d tag i false bs → s.entry ⟨d, tag⟩ = some e → e.send = some p → e.extent = some ext →
      (∀ o, p.pos + 1 < ext.count →
        Does (.sendOutcome true o) s { s.steady with line := none } fun u =>
          u.entry ⟨d, tag⟩ = some { e with send := some ⟨p.pos + 1, 0, none⟩ }
          ∧ u.request.out = s.request.out ++ [.piece ⟨d, tag⟩])
      ∧ (∀ o, ext.count ≤ p.pos + 1 → e.kind = .read →
        Does (.sendOutcome true o) s { s.steady with line := none } fun u =>
          u.entry ⟨d, tag⟩ = some { e with state := .ending, status := some .ok, send := none }
          ∧ u.request.out = s.request.out ++ [.entryDone ⟨d, tag⟩])
      ∧ (p.attempts + 1 < 8 →
        Does (.sendOutcome false true) s { s.steady with line := none } fun u =>
          u.entry ⟨d, tag⟩ = some { e with send := some ⟨p.pos, p.attempts + 1, some s.tick⟩ }
          ∧ u.request.out = s.request.out)
      ∧ (8 ≤ p.attempts + 1 →
        Does (.sendOutcome false true) s { s.steady with line := none, counters := s.counted 7 } fun u =>
          u.entry ⟨d, tag⟩ = some { e with state := .ending, status := some .undelivered, send := none })
      ∧ Does (.sendOutcome false false) s { s.steady with line := none, counters := s.counted 7 } (fun u =>
          u.entry ⟨d, tag⟩ = some { e with state := .ending, status := some .undelivered, send := none }
          ∧ u.mirror.behind = s.mirror.behind)
      ∧ (∀ o, Does (.sendOutcome true o) s { s.steady with line := none } fun u =>
          (s.mirror.role = .secondary → s.mirror.link = .following → s.partner = some d → u.mirror.behind = true)
          ∧ (s.mirror.link ≠ .following ∨ s.partner ≠ some d → u.mirror.behind = s.mirror.behind))
      ∧ Does .sendSpoiled s { s.steady with line := none, counters := (s.sent 2).modify 7 satInc } (fun u =>
          u.entry ⟨d, tag⟩ = some { e with state := .ending, status := some .undelivered, send := none }))
  ∧ ∀ (s : State) (k : Key) (e : Entry) (p : SendPos) (t0 : Tick), s.resetAsserted = false → s.entry k = some e →
      e.state = .sending → e.send = some p → p.retry = some t0 →
      (5 ≤ elapsed s.tick t0 →
        Does (.dataRetryWaitEnd k) s s.steady fun u =>
          u.entry k = some { e with send := some { p with retry := none } }
          ∧ u.request.out = s.request.out ++ [.piece k])
      ∧ (elapsed s.tick t0 < 5 → Idles (.dataRetryWaitEnd k) s)

/-! ## Receiving: what is dropped -/

/-- A check error draws an objection and is counted, and sets the behind flag of a FOLLOWING secondary; a fill error or a
malformed header draws nothing and counts nothing. A frame that carries the own number as its origin is judged like any other
(DEDUCED, log 27). -/
def Obligations.DamagedMessages : Prop :=
  (∀ (s : State) (f : Frame), s.takesPart = true → headerMalformed f.header = false →
      f.check ≠ frameCheck f.header f.payload →
      Does (.checkError f) s { s.steady with answer := .objection, counters := s.counted 0 }
        fun u => s.mirror.link = .following → s.mirror.role = .secondary → u.mirror.behind = true)
  ∧ (∀ (s : State) (f : Frame), s.resetAsserted = false → s.takesPart = false →
      Leaves (.checkError f) s { s.steady with answer := .nothing })
  ∧ ∀ (s : State) (h : Header), s.resetAsserted = false →
      exec .fillErrorDrop s = .next (settle s { s with bus := { s.bus with answer := .nothing, idle := false } })
      ∧ exec (.malformedDrop h) s = .next (settle s { s with bus := { s.bus with answer := .nothing, idle := false } })

/-- A station that takes no part (settings being read, UNSET, SLEEPING), and any station for a message of its own number,
hands no message to its blocks: only what it drives and the line's idleness change; the exceptions are WAKE while SLEEPING and
PROBE while UNSET. -/
def Obligations.UnheardMessagesChangeNothing : Prop :=
  ∀ (s : State) (o t : Station) (p : List Byte) (a : AnswerSlot), s.resetAsserted = false →
    s.takesPart = false ∨ o = s.station →
    ∀ c ∈ [Instr.claimReceived o p a, .releaseReceived o p a, .queryReceived o p a, .tableReceived o p a,
        .awakeReceived o p a, .asleepReceived o p a, .wakeReceived o p a, .absentReceived o p a,
        .watchTakeReceived o p a, .watchPassReceived o t p a, .doneReceived o t p a, .mirrorAckReceived o t p a,
        .mirrorMissReceived o t p a, .resyncBeginReceived o t p a, .resyncEndReceived o t p a,
        .promoteReceived o t p a, .readReceived o t p a, .writeReceived o t p a, .syncReceived o t p a,
        .resyncWriteReceived o t p a, .cancelReceived o t p a, .clearFaultReceived o t p a, .probeReceived o t p a,
        .forwardReceived o t p a, .dataReceived o t p a, .reportReceived o t p a],
      (c = .wakeReceived o p a → s.power ≠ .sleeping) → (c = .probeReceived o t p a → s.power ≠ .unset) →
      exec c s = .next (settle s { s with bus := { s.bus with answer := .nothing, idle := false } })

/-- A payload whose length does not fit its kind draws no answer, and its message applies nothing: not even its origin's
last-heard tick (DEDUCED, log 13). -/
def Obligations.PayloadsOfWrongLengthApplyNothing : Prop :=
  ∀ (s : State) (o t : Station) (p : List Byte) (a : AnswerSlot), s.takesPart = true →
    ∀ c, (p.length ≠ 0 ∧ c ∈ [Instr.queryReceived o p a, .asleepReceived o p a, .watchTakeReceived o p a,
          .watchPassReceived o t p a])
      ∨ (p.length ≠ 1 ∧ c ∈ [Instr.claimReceived o p a, .absentReceived o p a, .promoteReceived o t p a,
          .syncReceived o t p a, .cancelReceived o t p a, .clearFaultReceived o t p a])
      ∨ (p.length ≠ 2 ∧ c ∈ [Instr.releaseReceived o p a, .wakeReceived o p a, .resyncEndReceived o t p a,
          .probeReceived o t p a])
      ∨ (p.length ≠ 3 ∧ c = .resyncBeginReceived o t p a)
      ∨ (p.length ≠ 6 ∧ c ∈ [Instr.mirrorAckReceived o t p a, .readReceived o t p a, .writeReceived o t p a,
          .resyncWriteReceived o t p a])
      ∨ (p.length ≠ 7 ∧ c = .mirrorMissReceived o t p a) ∨ (p.length ≠ 13 ∧ c = .awakeReceived o p a)
      ∨ (p.length ≠ 515 ∧ c = .dataReceived o t p a)
      ∨ (p.length ≠ 4 ∧ p.length ≠ 5 ∧ c = .doneReceived o t p a)
      ∨ (p.length ≠ 4 ∧ p.length ≠ 8 ∧ c = .forwardReceived o t p a)
      ∨ (p.length ≠ 20 + 2 * (p.getD 19 0).toNat ∧ c = .tableReceived o p a) →
      exec c s = .next (settle s { s with bus := { s.bus with answer := .nothing, idle := false } })

/-! ## Receiving: the shelf's tables -/

/-- A CLAIM in force: admitted against free units, or free less the head's units, or refused into the waiters list; one
from a holder changes nothing, and one above the budget does not enter the list. -/
def Obligations.ClaimIsDecidedAgainstFreeUnits : Prop :=
  ∀ (s : State) (o : Station) (n : Byte) (a : AnswerSlot), s.takesPart = true → o ≠ s.station → n ≠ 0 →
    let free : Int := (s.shelf.budget : Int) - (sumOf s.shelf.holdings : Int)
    let fits : Bool :=
      match s.shelf.waiters with
      | [] => (n.toNat : Int) ≤ free
      | head :: _ => if head.station = o then (n.toNat : Int) ≤ free else (n.toNat : Int) ≤ free - (head.units : Int)
    (a.obj = false →
      Leaves (.claimReceived o [n] a) s
        { s.steady with
          answer := .acknowledge, peers := s.heardFrom o
          shelf :=
            if s.shelf.holdings[o] ≠ 0 ∨ s.shelf.budget < n.toNat then s.shelf
            else if fits then
              { s.shelf with
                holdings := s.shelf.holdings.set o n.toNat
                waiters := s.shelf.waiters.filter fun w => w.station != o }
            else if s.shelf.waits o then
              { s.shelf with
                waiters := s.shelf.waiters.map fun w => if w.station = o then { w with units := n.toNat } else w }
            else { s.shelf with waiters := s.shelf.waiters ++ [⟨o, n.toNat⟩] } })
    ∧ (a.obj = true → Leaves (.claimReceived o [n] a) s { s.steady with answer := .acknowledge })
    ∧ exec (.claimReceived o [0] a) s = .next (settle s { s with bus := { s.bus with answer := .nothing, idle := false } })

/-- RELEASE (R48): its payload, the tests that make it malformed, its taking, its effect at every receiver and at its
sender, and that it never raises the sum. -/
def Obligations.ReleaseLowersTheEntry : Prop :=
  classOfKind 1 = 0 ∧ broadcastKind 1 = true
  ∧ (∀ (n : Nat) (w : Bool) (why : ReleaseWhy) ann tab, (OutMsg.release n w why).kind = 1
      ∧ (OutMsg.release n w why).payload ann tab = [BitVec.ofNat 8 n, if w then 1 else 0])
  ∧ (∀ (s : State) (o : Station) (p : List Byte) (a : AnswerSlot), s.takesPart = true →
      p.length ≠ 2 ∨ 1 < (p.getD 1 0).toNat →
      exec (.releaseReceived o p a) s = .next (settle s { s with bus := { s.bus with answer := .nothing, idle := false } }))
  ∧ (∀ (s : State) (o : Station) (n w : Byte) (a : AnswerSlot), s.takesPart = true → o ≠ s.station → w.toNat ≤ 1 →
      (a.obj = false →
        Leaves (.releaseReceived o [n, w] a) s
          { s.steady with
            answer := .acknowledge, peers := s.heardFrom o
            shelf := { s.shelf with
              holdings := s.shelf.holdings.set o (s.shelf.holdings[o] - min n.toNat s.shelf.holdings[o])
              waiters := if w = 1 then s.shelf.waiters.filter fun v => v.station != o else s.shelf.waiters } })
      ∧ (a.obj = true → Leaves (.releaseReceived o [n, w] a) s { s.steady with answer := .acknowledge }))
  ∧ (∀ (s : State) (x : Sending) (n : Nat) (w : Bool) (why : ReleaseWhy) (a : Bool), s.resetAsserted = false →
      s.bus.sending = some x → x.won = true → x.msg = .release n w why →
      Leaves (.sendOutcome a false) s
        { s.steady with
          line := none
          shelf := { s.shelf with
            holdings := s.shelf.holdings.set s.station (s.shelf.holdings[s.station] - min n s.shelf.holdings[s.station])
            waiters := if w then s.shelf.waiters.filter fun v => v.station != s.station else s.shelf.waiters } })
  ∧ ∀ (h : Vector Nat 16) (o : Station) (n : Nat), sumOf (h.set o (h[o] - min n h[o])) ≤ sumOf h

/-- A TABLE in force: an INCOMPLETE station adopts it, takes its QUERY back and becomes LISTENING; a COMPLETE one only takes
back its own TABLE for the same querier. A message is taken back out of the list or, when the list has none, out of the slot; on
the line the withdrawal is held, or refused once arbitration is won. Stray units, or a stray place in the list, that the adopted
table shows are given back. -/
def Obligations.TableIsAdoptedOnce : Prop :=
  let takenBack : (OutMsg → Bool) → State → State → Prop := fun p s u =>
    u.claim.out = s.claim.out.filter (fun m => !p m)
    ∧ (s.claim.out.any p = true ∨ s.slotHolds .budget p = false → u.slot .budget = s.slot .budget)
    ∧ (s.claim.out.any p = false → s.slotHolds .budget p = true → s.onLine .budget = false → u.slot .budget = none)
    ∧ ∀ y, s.claim.out.any p = false → s.slotHolds .budget p = true → s.bus.sending = some y → y.slot = .budget →
        u.slot .budget = s.slot .budget
          ∧ u.bus.sending = some { y with withdrawal := if y.won then .refused else .held }
  (∀ (s : State) (o : Station) (p : List Byte) (x : TableBody) (c : Settings) (a : AnswerSlot), s.takesPart = true →
    o ≠ s.station → s.settings = some c → parseTable o p = some x → a.obj = false →
    (s.shelf.census = .incomplete →
      Does (.tableReceived o p a) s
        { s.steady with
          answer := .acknowledge, peers := s.heardFrom o, power := .listening, listeningSince := s.tick
          tableTimer := none
          shelf := { holdings := x.holdings, waiters := x.waiters, budget := x.budget, census := .complete
                     watch := if x.watch = some s.station then none else x.watch
                     adopted := x.budget ≠ c.budget } }
        fun u => takenBack isQuery s u ∧ u.claim.state = s.claim.state
          ∧ (s.slot .presence = none → u.slot .presence = some .awake))
    ∧ (s.shelf.census = .complete →
      Does (.tableReceived o p a) s { s.steady with answer := .acknowledge, peers := s.heardFrom o }
        fun u => takenBack (isTableFor x.querier) s u ∧ u.claim = { s.claim with out := u.claim.out }))
  ∧ ∀ b s : State, s.takesPart = true → s.shelf.census = .complete → s.claim.state = .none →
    let t := settle b s
    let gives : OutMsg → Prop := fun m =>
      t.claim.state = .releasing ∧ (m ∈ t.claim.out ∨ t.slot .budget = some m)
    (s.ownHolding ≠ 0 → gives (.release s.ownHolding false .full))
    ∧ (s.ownHolding = 0 → s.shelf.waits s.station = true → gives (.release 0 true .giveUp))

/-- The watch station number (R50): WATCH-TAKE and WATCH-PASS in force move it, at every receiver and at their sender,
whatever the census state; a TABLE carries it, and adoption takes it. -/
def Obligations.WatchNumberFollowsTheDuty : Prop :=
  (∀ (s : State) (o : Station) (a : AnswerSlot), s.takesPart = true → o ≠ s.station → a.obj = false →
      s.duty = false ∨ a.ownFails = true →
      Leaves (.watchTakeReceived o [] a) s
        { s.steady with
          answer := if s.duty then .objection else .acknowledge, peers := s.heardFrom o
          shelf := { s.shelf with watch := some o } })
  ∧ (∀ (s : State) (o t : Station) (a : AnswerSlot), s.takesPart = true → o ≠ s.station →
      a.ack = true ∨ (t = s.station ∧ s.power = .listening ∧ a.ownFails = false) →
      Leaves (.watchPassReceived o t [] a) s
        { s.steady with
          answer := if t = s.station ∧ s.power = .listening then .acknowledge else .nothing, peers := s.heardFrom o
          shelf := { s.shelf with watch := some t } })
  ∧ (∀ (s : State) (x : Sending) (a : Bool), s.resetAsserted = false → s.bus.sending = some x → x.won = true →
      x.msg = .watchTake →
      Leaves (.sendOutcome a false) s
        { s.steady with line := none, shelf := { s.shelf with watch := some s.station } })
  ∧ (∀ (s : State) (x : Sending) (n : Station) (b : Bool), s.resetAsserted = false → s.bus.sending = some x →
      x.won = true → x.msg = .watchPass n →
      Leaves (.sendOutcome true b) s { s.steady with line := none, shelf := { s.shelf with watch := some n } })
  ∧ (∀ (s : State) (q : Station), (s.tableFor q).watch = s.shelf.watch)
  ∧ (∀ x : TableBody, x.bytes.getD 2 0 = match x.watch with | some n => BitVec.ofNat 8 n.val | none => 255)
  ∧ ∀ (s : State) (o : Station) (p : List Byte) (x : TableBody) (a : AnswerSlot), s.takesPart = true →
      o ≠ s.station → parseTable o p = some x → a.obj = false → s.shelf.census = .incomplete →
      ∃ t, exec (.tableReceived o p a) s = .next t
        ∧ t.shelf.watch = if x.watch = some s.station then none else x.watch

/-- Gaining watch duty, by WATCH-TAKE or WATCH-PASS, starts the term; losing it, by WATCH-TAKE, by WATCH-PASS or by an ABSENT
naming the station, ends the holder's work: timers and marks go, the proxy entries end NOT_AWAKE, and its other messages are
taken back, but for one on the line. A WATCH-PASS naming a station that holds duty already lets its term go on (DESIGN CHOICE,
log 51). -/
def Obligations.DutyIsGainedAndLost : Prop :=
  let loses : State → Instr → Prop := fun s c =>
    ∃ t, exec c s = .next t ∧ t.duty = false ∧ t.watch.term = none ∧ t.watch.passCheck = none ∧ t.watch.proxy = []
      ∧ (∀ n : Station, t.watch.marks[n] =
          { waking := none, wakeWanted := false, lastWake := none, absenceHold := none })
      ∧ (∀ e ∈ s.watch.proxy,
          let m : OutMsg := .done e.key.origin e.key.tag .notAwake false none (some e.target)
          m ∈ t.watch.out ∨ t.slot .watch = some m)
      ∧ (∀ m ∈ t.watch.out, isDutyWork m = false)
      ∧ (t.slotHolds .watch isDutyWork = true → t.onLine .watch = true)
  (∀ (s : State) (x : Sending) (a : Bool), s.resetAsserted = false → s.power = .listening → s.duty = false →
      s.bus.sending = some x → x.won = true → x.msg = .watchTake →
      ∃ t, exec (.sendOutcome a false) s = .next t ∧ t.duty = true ∧ t.watch.term = some s.seconds)
  ∧ (∀ (s : State) (o : Station) (a : AnswerSlot), s.resetAsserted = false → s.power = .listening → s.duty = false →
      o ≠ s.station → a.ack = true ∨ a.ownFails = false →
      ∃ t, exec (.watchPassReceived o s.station [] a) s = .next t ∧ t.duty = true ∧ t.watch.term = some s.seconds)
  ∧ (∀ (s : State) (o : Station) (a : AnswerSlot), s.resetAsserted = false → s.duty = true → o ≠ s.station →
      ∃ t, exec (.watchPassReceived o s.station [] a) s = .next t ∧ t.duty = true ∧ t.watch.term = s.watch.term)
  ∧ (∀ (s : State) (o t : Station) (a : AnswerSlot), s.resetAsserted = false → s.duty = true → o ≠ s.station →
      (a.obj = false → a.ownFails = true →
        loses s (.watchTakeReceived o [] a) ∧ loses s (.absentReceived o [BitVec.ofNat 8 s.station.val] a))
      ∧ (t ≠ s.station → a.ack = true → loses s (.watchPassReceived o t [] a)))
  ∧ ∀ (s : State) (x : Sending) (n : Station) (b : Bool), s.resetAsserted = false → s.duty = true →
      s.bus.sending = some x → x.won = true → x.msg = .watchPass n → n ≠ s.station → loses s (.sendOutcome true b)

/-! ## Receiving: presence -/

/-- An AWAKE in force sets the sender's entry whole, and counts a budget other than the one in force; the partner's does more
(PartnerAwakeSettlesRoles). At the holder it brings the FORWARD of the sender's oldest proxy entry, unless one is FORWARDING; a
FORWARD that is still pending although its entry has ended holds the next one back (DESIGN CHOICE, log 19). -/
def Obligations.AwakeSetsTheEntry : Prop :=
  ∀ (s : State) (o : Station) (x : Announcement) (p : List Byte) (a : AnswerSlot), s.takesPart = true →
    o ≠ s.station → parseAwake p = some x →
    (a.obj = false → s.partner ≠ some o →
      Leaves (.awakeReceived o p a) s
        { s.steady with
          answer := .acknowledge
          peers := s.peers.set o (x.entry s.tick), counters := s.mismatched x.budget })
    ∧ (a.obj = true → Leaves (.awakeReceived o p a) s { s.steady with answer := .acknowledge })
    ∧ (a.obj = false → s.duty = true →
      let others : List OutMsg := s.watch.out.filter fun m => !isAbsentFor o m
      ∃ u, exec (.awakeReceived o p a) s = .next (settle s u) ∧ u.watch.marks[o].waking = none
        ∧ (∀ f, s.watch.proxy.find? (fun g => g.target == o) = some f →
            (∀ g ∈ s.watch.proxy, g.target = o → g.state = .held) → s.watchPending (isForwardTo o) = false →
            u.proxyEntry o f.key = some { f with state := .sending, expired := false, recalled := false }
              ∧ u.watch.out = others ++ [.forward o f.key f.req])
        ∧ ((∀ g ∈ s.watch.proxy, g.target ≠ o) ∨ (∃ g ∈ s.watch.proxy, g.target = o ∧ g.state ≠ .held)
              ∨ s.watchPending (isForwardTo o) = true →
            u.watch.out = others ∧ u.watch.proxy = s.watch.proxy))

/-- The partner's AWAKE: its entry is set as by any AWAKE; roles, epochs, the map and the behind flag follow R156's table,
where the record is in use; a PRIMARY whose partner is newly behind marks the extents it copies and ends its copy waits
(R137); a rejoin follows where the map is empty then (R154). The lower of two SECONDARY stations at one epoch becomes PRIMARY
with its behind flag clear (DEDUCED, log 48). -/
def Obligations.PartnerAwakeSettlesRoles : Prop :=
  ∀ (s : State) (o : Station) (x : Announcement) (p : List Byte) (a : AnswerSlot), s.takesPart = true →
    o ≠ s.station → parseAwake p = some x → a.obj = false → s.partner = some o →
    let mine : Role × Nat := (s.mirror.role, s.mirror.epoch)
    let theirs : Role × Nat := (x.role, x.epoch)
    let used : Bool := s.mirror.cond == .opened || s.mirror.cond == .closed
    let now : Role × Nat := if used then settledRole (s.station < o) mine theirs else mine
    let map : BitVec 256 := if used then settledMap mine theirs now s.mirror.dirty else s.mirror.dirty
    let noted : Bool := x.behind && !s.mirror.partnerBehind && now.1 == .primary
    let copied : List Entry :=
      s.request.queue.filter fun e => e.kind == .write && (e.outstanding || e.state == .waitMirror)
    let marked : BitVec 256 :=
      (copied.filterMap (·.extent)).foldl (fun d y => d ||| s.regions y) map
    Does (.awakeReceived o p a) s
      { s.steady with
        answer := .acknowledge, peers := s.peers.set o (x.entry s.tick), counters := s.mismatched x.budget
        role := now.1, epoch := now.2, partnerBehind := x.behind
        wakeInterval := if mine.1 = .primary ∧ now.1 ≠ .primary then none else s.mirror.wakeInterval }
      fun u => u.mirror.behind = settledBehind mine now s.mirror.behind
        ∧ u.mirror.dirty = (if noted then marked else map)
        ∧ (noted = true → ∀ e ∈ u.request.queue, e.state ≠ .waitMirror)
        ∧ (now.1 = .primary → u.mirror.dirty = 0 → x.behind = true → theirs = (.secondary, now.2) →
            s.mirror.out.any isResyncEnd = false → s.slotHolds .mirror isResyncEnd = false →
            OutMsg.resyncEnd o now.2 true ∈ u.mirror.out)

/-- An ASLEEP in force: the entry sleeps, and the sender leaves the shelf's tables. At the holder the sender's waking mark goes,
a pending ABSENT and a pending FORWARD for it are taken back, and its FORWARDING proxy entries return to HELD, at once or, where
the FORWARD is on the line, at its outcome. -/
def Obligations.AsleepClearsTheSender : Prop :=
  ∀ (s : State) (o : Station) (a : AnswerSlot), s.takesPart = true → o ≠ s.station →
    let removed : Bool :=
      s.watch.out.any (isForwardTo o) || (s.slotHolds .watch (isForwardTo o) && !s.onLine .watch)
    (a.obj = false →
      Does (.asleepReceived o [] a) s
        { s.steady with
          answer := .acknowledge
          peers := s.peers.set o
            { s.peers[o] with state := .sleeping, drive := .off, holding := 0, lastHeard := s.tick }
          shelf := s.cleared o
          partnerBehind := if s.partner = some o then false else s.mirror.partnerBehind }
        fun u => u.watch.marks = s.watch.marks.set o { s.watch.marks[o] with waking := none }
          ∧ u.watch.out = s.watch.out.filter (fun m => !isAbsentFor o m && !isForwardTo o m)
          ∧ u.watch.proxy = (s.watch.proxy.map fun e =>
              if e.target = o ∧ e.state ≠ .held then
                (if e.state = .sending ∧ removed = false then { e with recalled := true } else { e with state := .held })
              else e)
          ∧ ∀ p ∈ [isAbsentFor o, isForwardTo o], s.watch.out.any p = false → s.slotHolds .watch p = true →
              (s.onLine .watch = false → u.slot .watch = none)
              ∧ ∀ y, s.bus.sending = some y → y.slot = .watch → u.slot .watch = s.slot .watch
                  ∧ u.bus.sending = some { y with withdrawal := if y.won then .refused else .held })
    ∧ (a.obj = true → Leaves (.asleepReceived o [] a) s { s.steady with answer := .acknowledge })

/-- An ABSENT: one naming another station clears it; one naming the station itself is objected to, and, in force all the
same, expels it. Such an ABSENT in force still sets its origin's last-heard tick: the model's choice (DESIGN CHOICE, log 32). -/
def Obligations.AbsentClearsOrExpels : Prop :=
  ∀ (s : State) (o n : Station) (a : AnswerSlot), s.takesPart = true → o ≠ s.station → n ≠ o →
    let p : List Byte := [BitVec.ofNat 8 n.val]
    (n ≠ s.station → a.obj = false →
      Leaves (.absentReceived o p a) s
        { s.steady with
          answer := .acknowledge
          peers := (s.heardFrom o).set n { (s.heardFrom o)[n] with state := .absent, holding := 0 }
          shelf := s.cleared n
          partnerBehind := if s.partner = some n then false else s.mirror.partnerBehind })
    ∧ (n = s.station → a.ownFails = false ∨ a.obj = true →
      Does (.absentReceived o p a) s { s.steady with answer := .objection }
        fun u => s.power = .listening → s.slot .presence = none → u.slot .presence = some .awake)
    ∧ (n = s.station → a.ownFails = true → a.obj = false → s.drive.state ≠ .fault →
      Does (.absentReceived o p a) s
        { s.faulted .expelled with answer := .objection, peers := s.heardFrom o, shelf := s.cleared s.station }
        fun u => u.claim.state = .none ∧ u.drive.flight = none)
    ∧ (n = s.station → a.ownFails = true → a.obj = false → s.drive.state = .fault →
      Leaves (.absentReceived o p a) s
        { s.steady with answer := .objection, peers := s.heardFrom o, shelf := s.cleared s.station })

/-- A WAKE: it makes the SLEEPING station it marks RESUMING, with a census begun, its watch unit at its reset values and a
SECONDARY behind; a waking station does not answer it. The budget in force is 0 without settings (DESIGN CHOICE, log 22), which
no SLEEPING station is. -/
def Obligations.WakeResumesTheMarkedStation : Prop :=
  ∀ (s : State) (o : Station) (p : List Byte) (mask : BitVec 16) (a : AnswerSlot), s.resetAsserted = false →
    o ≠ s.station → parseWake p = some mask →
    (s.power = .sleeping → mask.getLsbD s.station.val = true → a.obj = false →
      Does (.wakeReceived o p a) s
        { s.steady with
          answer := .acknowledge, power := .resuming
          peers := Vector.replicate 16
            { state := .unknown, kind := .other, lastHeard := s.tick, drive := .off, role := .notLoaded, epoch := 0
              behind := false, usable := 0, duty := false, budget := 0, holding := 0 }
          shelf := { holdings := Vector.replicate 16 0, waiters := []
                     budget := match s.settings with | some c => c.budget | none => 0
                     census := .incomplete, watch := none, adopted := false }
          holdOff := none, tableTimer := none, listeningSince := 0, sleepRetry := none, takeHold := none }
        fun u => u.mirror.behind = (s.mirror.role == .secondary || s.mirror.behind)
          ∧ u.mirror.behindAnnounced = false ∧ u.mirror.readWake = false
          ∧ u.watch = { listeningSince := 0, sleepRetry := none, takeHold := none, term := none, passCheck := none
                        marks := Vector.replicate 16
                          { waking := none, wakeWanted := false, lastWake := none, absenceHold := none }
                        proxy := [], out := [] }
          ∧ u.claim.state = .none ∧ u.budgetPending isQuery = true ∧ u.drive.idle = none)
    ∧ (s.power = .sleeping → mask.getLsbD s.station.val = true → a.obj = true →
      Leaves (.wakeReceived o p a) s { s.steady with answer := .acknowledge })
    ∧ (s.power = .sleeping → mask.getLsbD s.station.val = false →
      Leaves (.wakeReceived o p a) s { s.steady with answer := .nothing })
    ∧ (s.takesPart = true →
      Leaves (.wakeReceived o p a) s
        { s.steady with answer := .nothing, peers := if a.obj then s.peers else s.heardFrom o })

/-! ## Receiving: requests -/

/-- A request without room is answered BUSY and counted: 16 entries, too few free pages, or its name in the queue.
It counts also where the own transmitter fails to bring the answer to the line (DESIGN CHOICE, log 46). -/
def Obligations.RequestsWithoutRoomAreBusy : Prop :=
  ∀ (s : State) (o : Station) (tag : Tag) (p : List Byte) (x : Extent) (ep : Nat) (a : AnswerSlot),
    s.takesPart = true → o ≠ s.station → parseExtent p = some (tag, x) → 1 ≤ ep → ep ≤ 65535 →
    let full : Prop := 16 ≤ s.request.queue.length ∨ ∃ e ∈ s.request.queue, e.key = ⟨o, tag⟩
    let busy : Steady :=
      { s.steady with
        answer := .busy, counters := s.counted 1, peers := if a.ack then s.heardFrom o else s.peers }
    (full ∨ s.freePages.length < x.count →
      Leaves (.readReceived o s.station p a) s busy ∧ Leaves (.writeReceived o s.station p a) s busy
      ∧ Leaves (.resyncWriteReceived o s.station p a) s busy)
    ∧ (full →
      Leaves (.syncReceived o s.station [tag] a) s busy ∧ Leaves (.promoteReceived o s.station [tag] a) s busy
      ∧ Leaves (.resyncBeginReceived o s.station [tag, BitVec.ofNat 8 (ep / 256), BitVec.ofNat 8 ep] a) s busy)

/-- The entry that a taken request makes. Its pages are the lowest free ones (DESIGN CHOICE, log 9). A PRIMARY's WRITE gets a
NOT_EXPECTED copy item unless the link is IN_STEP or RESYNCING, and sets the redo mark when it touches the current region. -/
def Obligations.TakenRequestsJoinTheQueue : Prop :=
  ∀ (s : State) (o : Station) (tag : Tag) (p : List Byte) (x : Extent) (ep : Nat) (a : AnswerSlot),
    s.takesPart = true → o ≠ s.station → parseExtent p = some (tag, x) → 1 ≤ ep → ep ≤ 65535 →
    s.request.queue.length < 16 → (∀ e ∈ s.request.queue, e.key ≠ ⟨o, tag⟩) → x.count ≤ s.freePages.length →
    a.ack = true ∨ a.ownFails = false → s.drive.state ≠ .fault →
    (s.drive.usable = 0 ∨ x.start.toNat + x.count ≤ s.drive.usable.toNat) →
    let got : Steady := { s.steady with answer := .acknowledge, peers := s.heardFrom o }
    let entry : EntryKind → Option Extent → EntryState → Entry := fun kind ext st =>
      { key := ⟨o, tag⟩, kind := kind, extent := ext, state := st
        pages := if ext = none then [] else s.freePages.take x.count
        pieces := [], lastPiece := if st = .dataIn then some s.tick else none
        queued := if st = .dataIn then none else some s.tick
        forwardedBy := none, cancelLate := false, ackEarly := false, send := none, status := none }
    ((s.mirror.role = .secondary → s.mirror.behind = false) →
      Does (.readReceived o s.station p a) s got fun u =>
        u.request.queue = s.request.queue ++ [entry .read (some x) .queued])
    ∧ (s.mirror.role ≠ .secondary →
      Does (.writeReceived o s.station p a) s got fun u =>
        u.request.queue = s.request.queue ++ [entry .write (some x) .dataIn]
        ∧ u.mirror.copies =
            (if s.mirror.role = .primary ∧ s.mirror.link ≠ .inStep ∧ s.mirror.link ≠ .resyncing then
              s.mirror.copies ++ [{ key := ⟨o, tag⟩, extent := x, state := .notExpected }]
            else s.mirror.copies)
        ∧ (u.engine.redo = true ↔ s.engine.redo = true
            ∨ s.mirror.role = .primary ∧ ∃ r, s.engine.region = some r ∧ (s.regions x).getLsbD r.val = true))
    ∧ ((s.mirror.role = .secondary ∧ s.partner = some o) ∨ s.mirror.role = .notLoaded →
      Does (.resyncWriteReceived o s.station p a) s got fun u =>
        u.request.queue = s.request.queue ++ [entry .resyncIn (some x) .dataIn])
    ∧ Does (.syncReceived o s.station [tag] a) s got
        (fun u => u.request.queue = s.request.queue ++ [entry .sync none .queued])
    ∧ Does (.promoteReceived o s.station [tag] a) s got
        (fun u => u.request.queue = s.request.queue ++ [entry .promote none .queued])
    ∧ Does (.resyncBeginReceived o s.station [tag, BitVec.ofNat 8 (ep / 256), BitVec.ofNat 8 ep] a) s got
        (fun u => u.request.queue = s.request.queue ++ [entry (.resyncBegin ep) none .queued])

/-- The take checks, in their order; a READ that ends STALE makes the read wake of R155 ready, and a PRIMARY's WRITE that ends
DRIVE_FAULT marks its extent. -/
def Obligations.TakeChecksEndTheEntry : Prop :=
  ∀ (s : State) (o : Station) (tag : Tag) (p : List Byte) (x : Extent) (a : AnswerSlot),
    s.takesPart = true → o ≠ s.station → parseExtent p = some (tag, x) →
    s.request.queue.length < 16 → (∀ e ∈ s.request.queue, e.key ≠ ⟨o, tag⟩) → x.count ≤ s.freePages.length →
    a.ack = true ∨ a.ownFails = false →
    let got : Steady := { s.steady with answer := .acknowledge, peers := s.heardFrom o }
    let ends : Status → State → Prop := fun st u =>
      (u.entry ⟨o, tag⟩).map (fun e => (e.state, e.status)) = some (.ending, some st)
      ∧ u.request.out = s.request.out ++ [.entryDone ⟨o, tag⟩]
    let passes : Prop := s.drive.usable ≠ 0 ∧ s.drive.usable.toNat < x.start.toNat + x.count
    (passes → ∀ c ∈ [Instr.readReceived o s.station p a, .writeReceived o s.station p a,
        .resyncWriteReceived o s.station p a], Does c s got (ends .range))
    ∧ (¬ passes → s.mirror.role = .secondary → Does (.writeReceived o s.station p a) s got (ends .role))
    ∧ (¬ passes → s.mirror.role ≠ .notLoaded → s.mirror.role ≠ .secondary ∨ s.partner ≠ some o →
      Does (.resyncWriteReceived o s.station p a) s got (ends .role))
    ∧ (¬ passes → s.mirror.role = .secondary → s.mirror.behind = true →
      Does (.readReceived o s.station p a) s got fun u => ends .stale u
        ∧ ∀ n, s.partner = some n → (s.presence n).state ≠ .listening → s.mirror.readWake = false →
          u.mirror.readWake = true ∧ u.mirror.out = s.mirror.out ++ [.wake (1#16 <<< n.val) .read])
    ∧ (s.drive.state = .fault → ¬ passes →
      ((s.mirror.role = .secondary → s.mirror.behind = false) →
        Does (.readReceived o s.station p a) s got (ends .driveFault))
      ∧ (s.mirror.role ≠ .secondary →
        Does (.writeReceived o s.station p a) s got fun u => ends .driveFault u
          ∧ u.mirror.dirty =
              if s.mirror.role = .primary then s.mirror.dirty ||| s.regions x else s.mirror.dirty)
      ∧ ((s.mirror.role = .secondary ∧ s.partner = some o) ∨ s.mirror.role = .notLoaded →
        Does (.resyncWriteReceived o s.station p a) s got (ends .driveFault)))
    ∧ (s.drive.state = .fault →
      Does (.syncReceived o s.station [tag] a) s got (ends .driveFault)
      ∧ Does (.promoteReceived o s.station [tag] a) s got (ends .driveFault)
      ∧ ∀ ep, 1 ≤ ep → ep ≤ 65535 →
        Does (.resyncBeginReceived o s.station [tag, BitVec.ofNat 8 (ep / 256), BitVec.ofNat 8 ep] a) s got
          (ends .driveFault))

/-- PROBE and FORWARD: their room, their REPORT or entry, and an UNSET station's silence; and what a REPORT contains when it
is placed, the settings result as 0 while there is none (DESIGN CHOICE, log 22). A forwarded READ's pages are the lowest free
ones (DESIGN CHOICE, log 9); the summary has no usable size, as R177's table gives it and R66 does not (DEDUCED, log 33). A BUSY
answer that the own transmitter fails to bring to the line counts too (DESIGN CHOICE, log 46). -/
def Obligations.ProbesAndForwardsAreTaken : Prop :=
  let one : Nat → Byte := BitVec.ofNat 8
  let two : Nat → List Byte := fun n => [one (n / 256), one n]
  let four : BitVec 32 → List Byte := fun v =>
    [one (v.toNat / 16777216), one (v.toNat / 65536), one (v.toNat / 256), one v.toNat]
  let flag : Bool → Byte := fun b => if b then 1 else 0
  let drives : List DriveState := [.off, .spinUp, .ready, .spinDown, .fault]
  let roles : List Role := [.single, .primary, .secondary, .notLoaded]
  (∀ (s : State) (m : ReqOut), s.slot .request = none → nextRequestOut s.request.out = some m →
      (placeRequest s).slot .request = s.fillRequest m ∧ (placeRequest s).request.out = s.request.out.erase m)
  ∧ (∀ (b s : State) (m : ReqOut), s.resetAsserted = false → s.power = .unset → s.slot .request = none →
      nextRequestOut s.request.out = some m → (settle b s).slot .request = s.fillRequest m)
  ∧ (∀ (s : State) (k : Key) (i : Nat),
      (s.power = .unset → s.fillRequest (.report k i) = some (.report k.origin k.tag 0 (s.reportItem 0)))
      ∧ (s.power ≠ .unset → s.fillRequest (.report k i) = some (.report k.origin k.tag i (s.reportItem i))))
  ∧ (∀ s : State,
      s.reportItem 0 =
        [one s.station.val,
         match s.settingsResult with
           | some r => one ([SettingsResult.good, .missing, .marker, .check, .range].idxOf r)
           | none => 0,
         one ([PowerState.starting, .unset, .listening, .sleeping, .resuming].idxOf s.power),
         one (drives.idxOf s.drive.state),
         one ([none, some FaultCause.overcurrent, some .spinUpFail, some .driveTimeout, some .size,
           some .expelled].idxOf s.drive.cause),
         flag s.supply.hot, one (roles.idxOf s.mirror.role)] ++ two s.mirror.epoch
          ++ [one ([Link.none, .unloaded, .apart, .resyncing, .inStep, .mismatched, .following].idxOf s.mirror.link),
              flag s.mirror.behind] ++ two ((List.range 256).countP fun r => s.mirror.dirty.getLsbD r)
          ++ [one s.shelf.holdings[s.station],
              one ([ClaimState.none, .asking, .waiting, .spinUnits, .runUnits, .releasing].idxOf s.claim.state),
              one ([Census.incomplete, .complete].idxOf s.shelf.census), one s.shelf.budget, flag s.shelf.adopted,
              one s.request.queue.length] ++ two s.freePages.length
          ++ [flag s.duty, one s.watch.proxy.length] ++ four s.tick ++ four s.seconds
      ∧ s.reportItem 1 =
        [one s.shelf.budget, match s.shelf.watch with | some n => one n.val | none => 255,
         one ([Census.incomplete, .complete].idxOf s.shelf.census)]
          ++ s.shelf.holdings.toList.map one ++ [one s.shelf.waiters.length]
          ++ s.shelf.waiters.flatMap (fun w => [one w.station.val, one w.units])
      ∧ s.reportItem 2 =
        (match s.shelf.watch with | some n => one n.val | none => 255) ::
          (List.finRange 16).flatMap (fun n =>
            let e := s.presence n
            [one ([PresenceState.unknown, .listening, .sleeping, .absent].idxOf e.state),
             one ([StationKind.bay, .other].idxOf e.kind)] ++ four e.lastHeard
              ++ [one (drives.idxOf e.drive), one (roles.idxOf e.role)] ++ two e.epoch ++ [flag e.behind]
              ++ four e.usable ++ [flag e.duty, one e.budget, one e.holding])
      ∧ s.reportItem 3 = ((List.finRange 6).flatMap fun c =>
          let r := s.supply.records[c]
          two r.value ++ [one ([Gain.x4, .x1].idxOf r.gain), flag r.overFlag, r.sequence, flag r.valid])
      ∧ s.reportItem 4 = [s.bus.checkErrors, s.bus.busyGiven, s.bus.spoiled, s.bus.arbLosses, s.supply.trips,
          s.engine.redoCount, s.announce.mismatches, s.request.undelivered, s.mirror.recordErrors].flatMap two)
  ∧ (∀ (s : State) (o : Station) (tag item : Byte) (a : AnswerSlot), s.takesPart = true → o ≠ s.station →
      item.toNat ≤ 4 →
      (s.reports < 4 → a.ack = true ∨ a.ownFails = false →
        Does (.probeReceived o s.station [tag, item] a) s
          { s.steady with answer := .acknowledge, peers := s.heardFrom o }
          fun u => u.request.out = s.request.out ++ [.report ⟨o, tag⟩ item.toNat])
      ∧ (4 ≤ s.reports →
        Leaves (.probeReceived o s.station [tag, item] a) s
          { s.steady with
            answer := .busy, counters := s.counted 1, peers := if a.ack then s.heardFrom o else s.peers }))
  ∧ (∀ (s : State) (o : Station) (tag item : Byte) (a : AnswerSlot), s.resetAsserted = false → s.power = .unset →
      o ≠ s.station → item.toNat ≤ 4 → a.ack = true ∨ a.ownFails = false →
      (s.reports < 4 →
        Does (.probeReceived o s.station [tag, item] a) s { s.steady with answer := .acknowledge }
          fun u => u.request.out = s.request.out ++ [.report ⟨o, tag⟩ item.toNat])
      ∧ (4 ≤ s.reports →
        Leaves (.probeReceived o s.station [tag, item] a) s { s.steady with answer := .nothing }))
  ∧ ∀ (s : State) (o : Station) (p : List Byte) (k : Key) (q : ProxyReq) (a : AnswerSlot), s.takesPart = true →
      o ≠ s.station → parseForward s.station p = some (k, q) →
      let refused : Steady := { s.steady with
        answer := .busy, counters := s.counted 1, peers := if a.ack then s.heardFrom o else s.peers }
      (∀ i, q = .probe i → s.reports < 4 → a.ack = true ∨ a.ownFails = false →
        Does (.forwardReceived o s.station p a) s { s.steady with answer := .acknowledge, peers := s.heardFrom o }
          fun u => u.request.out = s.request.out ++ [.report k i])
      ∧ (∀ i, q = .probe i → 4 ≤ s.reports → Leaves (.forwardReceived o s.station p a) s refused)
      ∧ ∀ st c, q = .read st c →
        (a.ack = true ∨ a.ownFails = false → s.request.queue.length < 16 → (∀ e ∈ s.request.queue, e.key ≠ k) →
          c ≤ s.freePages.length →
          s.drive.state ≠ .fault → s.drive.usable = 0 ∨ st.toNat + c ≤ s.drive.usable.toNat →
          (s.mirror.role = .secondary → s.mirror.behind = false) →
          Does (.forwardReceived o s.station p a) s { s.steady with answer := .acknowledge, peers := s.heardFrom o }
            fun u => u.request.queue = s.request.queue ++
              [{ key := k, kind := .read, extent := some ⟨st, c⟩, state := .queued, pages := s.freePages.take c
                 pieces := [], lastPiece := none, queued := some s.tick, forwardedBy := some o, cancelLate := false
                 ackEarly := false, send := none, status := none }])
        ∧ (16 ≤ s.request.queue.length ∨ (∃ e ∈ s.request.queue, e.key = k) ∨ s.freePages.length < c →
          Leaves (.forwardReceived o s.station p a) s refused)

/-- A DATA piece fills its page and no other byte, moves its entry on with the last piece, and is discarded as a
duplicate; one that matches no entry draws no answer. -/
def Obligations.DataFillsItsPage : Prop :=
  ∀ (s : State) (o : Station) (p : List Byte) (b : DataBody) (a : AnswerSlot), s.takesPart = true → o ≠ s.station →
    parseData p = some b →
    (∀ (e : Entry) (x : Extent), a.ack = true ∨ a.ownFails = false → s.entry ⟨o, b.tag⟩ = some e → e.state = .dataIn →
      e.kind = (if b.resync then .resyncIn else .write) → e.extent = some x → b.index < x.count →
      (b.index ∉ e.pieces →
        (∃ t, exec (.dataReceived o s.station p a) s = .next t
          ∧ t.steady =
            { s.steady with answer := .acknowledge, peers := s.heardFrom o, buffer := t.buffer }
          ∧ (∀ i, i < 512 → readByte t.buffer (e.pages.getD b.index 0 * 512 + i) = b.bytes.getD i 0)
          ∧ ∀ i, i < e.pages.getD b.index 0 * 512 ∨ e.pages.getD b.index 0 * 512 + 512 ≤ i →
              readByte t.buffer i = readByte s.buffer i)
        ∧ ∃ u, exec (.dataReceived o s.station p a) s = .next (settle s u)
          ∧ u.entry ⟨o, b.tag⟩ =
            some { e with
              pieces := e.pieces ++ [b.index], lastPiece := some s.tick
              state := if e.pieces.length + 1 = x.count then .queued else .dataIn
              queued := if e.pieces.length + 1 = x.count then some s.tick else e.queued })
      ∧ (b.index ∈ e.pieces →
        Does (.dataReceived o s.station p a) s { s.steady with answer := .acknowledge, peers := s.heardFrom o }
          fun u => u.request = s.request))
    ∧ ((∀ e ∈ s.request.queue, e.key ≠ ⟨o, b.tag⟩ ∨ e.state ≠ .dataIn) → a.ack = false →
      Leaves (.dataReceived o s.station p a) s { s.steady with answer := .nothing })

/-- The link is what R123 and R124 give after every event, with what leaving FOLLOWING and leaving IN_STEP and RESYNCING
bring; and what a FOLLOWING secondary makes of its partner's WRITE and DATA: a REPLICA entry, or a miss that sets its behind
flag. The entry's pages are the lowest free ones (DESIGN CHOICE, log 9). -/
def Obligations.FollowingSecondarySnoops : Prop :=
  (∀ b s : State, s.takesPart = true →
    let t := settle b s
    let used : Bool := t.mirror.cond == .opened || t.mirror.cond == .closed
    t.mirror.link =
      (match t.mirror.role with
       | .single => .none
       | .notLoaded => .unloaded
       | .primary | .secondary =>
         if !used then .unloaded
         else
           match t.partner with
           | none => .apart
           | some n =>
             let p := t.presence n
             let primary : Bool := t.mirror.role == .primary
             if p.state ≠ .listening ∨ p.role ≠ (if primary then .secondary else .primary)
                 ∨ p.epoch ≠ t.mirror.epoch ∨ (if primary then p.drive else t.drive.state) = .fault then .apart
             else if p.usable ≠ t.drive.usable then .mismatched
             else if primary then (if t.mirror.dirty = 0 then .inStep else .resyncing)
             else .following)
    ∧ (s.mirror.link = .following → s.mirror.role = .secondary → t.mirror.link ≠ .following → t.mirror.behind = true)
    ∧ (s.mirror.link = .inStep ∨ s.mirror.link = .resyncing → s.mirror.role = .primary → t.mirror.link ≠ .inStep →
        t.mirror.link ≠ .resyncing → ∀ e ∈ t.request.queue, e.state ≠ .waitMirror))
  ∧ ∀ (s : State) (o t : Station) (p : List Byte) (a : AnswerSlot), s.takesPart = true → o ≠ s.station →
    t ≠ s.station → s.partner = some t → s.mirror.link = .following → s.answersFor t = false → a.ack = true →
    let seen : Steady := { s.steady with answer := .nothing, peers := s.heardFrom o }
    (∀ tag x, parseExtent p = some (tag, x) →
      (s.drive.usable = 0 ∨ x.start.toNat + x.count ≤ s.drive.usable.toNat) →
      (s.request.queue.length < 16 → (∀ e ∈ s.request.queue, e.key ≠ ⟨o, tag⟩) → x.count ≤ s.freePages.length →
        Does (.writeReceived o t p a) s seen fun u =>
          u.request.queue = s.request.queue ++
            [{ key := ⟨o, tag⟩, kind := .replica, extent := some x, state := .dataIn
               pages := s.freePages.take x.count, pieces := [], lastPiece := some s.tick, queued := none
               forwardedBy := none, cancelLate := false, ackEarly := false, send := none, status := none }])
      ∧ (16 ≤ s.request.queue.length → s.mirror.role = .secondary → s.mirror.out = [] →
        Does (.writeReceived o t p a) s seen fun u =>
          u.mirror.behind = true ∧ u.mirror.out = [.mirrorMiss t ⟨o, tag⟩ x.start x.count 0 false]
          ∧ u.request = s.request))
    ∧ (∀ tag x, parseExtent p = some (tag, x) → s.drive.usable ≠ 0 →
      s.drive.usable.toNat < x.start.toNat + x.count →
      Does (.writeReceived o t p a) s seen fun u => u.request = s.request ∧ u.mirror = s.mirror)
    ∧ ∀ b, parseData p = some b → b.resync = false →
      ((∀ e ∈ s.request.queue, e.key ≠ ⟨o, b.tag⟩) → s.mirror.role = .secondary →
        Does (.dataReceived o t p a) s seen fun u => u.mirror.behind = true ∧ u.request = s.request)
      ∧ ∀ (e : Entry) (x : Extent), s.entry ⟨o, b.tag⟩ = some e → e.state = .dataIn → e.kind = .replica →
          e.extent = some x → b.index < x.count → b.index ∉ e.pieces →
          ∃ v, exec (.dataReceived o t p a) s = .next v
            ∧ v.steady = { seen with buffer := writePage s.buffer (e.pages.getD b.index 0) b.bytes }

/-- A CANCEL ends an entry that has not reached the drive, and marks any other cancel-late; it does not reach a
REPLICA. A PRIMARY's WRITE that it ends marks its extent, and the copy item of a WRITE goes. -/
def Obligations.CancelEndsOrMarks : Prop :=
  ∀ (s : State) (o : Station) (tag : Tag) (a : AnswerSlot), s.takesPart = true → o ≠ s.station →
    a.ack = true ∨ a.ownFails = false →
    let got : Steady := { s.steady with answer := .acknowledge, peers := s.heardFrom o }
    (∀ e : Entry, s.entry ⟨o, tag⟩ = some e → e.kind ≠ .replica →
      (e.state = .dataIn ∨ e.state = .queued ∧ s.mirror.promotion = none →
        Does (.cancelReceived o s.station [tag] a) s got fun u =>
          u.entry ⟨o, tag⟩ = some { e with state := .ending, status := some .cancelled, send := none }
          ∧ u.request.out = s.request.out ++ [.entryDone ⟨o, tag⟩]
          ∧ u.mirror.dirty = s.mapAfter [e] ∧ (e.kind = .write → u.copyState ⟨o, tag⟩ = none))
      ∧ (e.state ≠ .dataIn → e.state ≠ .queued
          ∨ (∃ p, s.mirror.promotion = some p ∧ p.key = ⟨o, tag⟩) →
        Does (.cancelReceived o s.station [tag] a) s got fun u =>
          u.entry ⟨o, tag⟩ = some { e with cancelLate := true } ∧ u.request.out = s.request.out))
    ∧ (∀ e : Entry, s.entry ⟨o, tag⟩ = some e → e.kind = .replica →
      Does (.cancelReceived o s.station [tag] a) s got fun u => u.request = s.request)
    ∧ (s.entry ⟨o, tag⟩ = none →
      Does (.cancelReceived o s.station [tag] a) s got fun u => u.request = s.request)

/-- CLEAR-FAULT after a trip (R97): the last drive 12 V current record decides between OFF and DENIED, by range, over
flag and validity; the comparator stays as it was. With four DONEs for CLEAR-FAULTs waiting it is answered BUSY and counted. -/
def Obligations.ClearFaultTestsTheCurrent : Prop :=
  (∀ (s : State) (o : Station) (tag : Tag) (a : AnswerSlot), s.takesPart = true → o ≠ s.station → 4 ≤ s.clearDones →
    a.ownFails = false →
      Leaves (.clearFaultReceived o s.station [tag] a) s
        { s.steady with
          answer := .busy, counters := s.counted 1, peers := if a.ack then s.heardFrom o else s.peers })
  ∧ ∀ (s : State) (o : Station) (tag : Tag) (c : Settings) (a : AnswerSlot), s.takesPart = true → o ≠ s.station →
    a.ack = true ∨ a.ownFails = false → s.settings = some c → s.clearDones < 4 →
    let r := s.supply.records[0]
    let below : Prop := r.valid = true ∧ r.overFlag = false
      ∧ (match r.gain with | .x4 => r.value * 2 | .x1 => r.value * 8) < (c.runTrip + 1) * 32
    let cleared : Steady :=
      { s.steady with
        answer := .acknowledge, peers := s.heardFrom o, cause := none, held := none
        coldDrive := s.cold .off s.drive.deferral s.tick }
    let kept : Steady := { s.steady with answer := .acknowledge, peers := s.heardFrom o }
    (s.drive.state = .fault → s.drive.cause = some .overcurrent → below →
      Does (.clearFaultReceived o s.station [tag] a) s cleared
        fun u => u.request.out = s.request.out ++ [.clearDone ⟨o, tag⟩ .ok])
    ∧ (s.drive.state = .fault → s.drive.cause = some .overcurrent → ¬ below →
      Does (.clearFaultReceived o s.station [tag] a) s kept
        fun u => u.request.out = s.request.out ++ [.clearDone ⟨o, tag⟩ .denied] ∧ u.drive = s.drive)
    ∧ (s.drive.state = .fault → s.drive.cause ≠ some .overcurrent →
      Does (.clearFaultReceived o s.station [tag] a) s cleared
        fun u => u.request.out = s.request.out ++ [.clearDone ⟨o, tag⟩ .ok])
    ∧ (s.drive.state ≠ .fault →
      Does (.clearFaultReceived o s.station [tag] a) s kept
        fun u => u.request.out = s.request.out ++ [.clearDone ⟨o, tag⟩ .ok] ∧ u.drive = s.drive)

/-- A sleeping station's watch station answers for it: it holds READ and PROBE, up to 8, refuses the other requests,
and ends a held request on CANCEL; for any other target nobody but the target answers. A repeated READ or PROBE replaces the
entry's request whole, its kind included (DEDUCED, log 20), and a BUSY answer that the own transmitter fails to bring to the
line counts too (DESIGN CHOICE, log 46). -/
def Obligations.WatchStationAnswersForSleepers : Prop :=
  ∀ (s : State) (o t : Station) (tag : Tag) (a : AnswerSlot), s.takesPart = true → o ≠ s.station → t ≠ s.station →
    let k : Key := ⟨o, tag⟩
    let got : Steady := { s.steady with answer := .acknowledge, peers := s.heardFrom o }
    let busy : Steady := { s.steady with answer := .busy, counters := s.counted 1 }
    (s.answersFor t = true →
      (∀ (p : List Byte) (q : ProxyReq) (c : Instr),
        (∃ x, parseExtent p = some (tag, x) ∧ q = .read x.start x.count ∧ c = .readReceived o t p a)
          ∨ (∃ i, parseProbe p = some (tag, i) ∧ q = .probe i ∧ c = .probeReceived o t p a) →
        (s.proxyEntry t k = none → s.proxyLoad < 8 → a.ack = true ∨ a.ownFails = false →
          Does c s got fun u => u.watch.marks[t].wakeWanted = true
            ∧ u.watch.proxy = s.watch.proxy ++
              [{ target := t, key := k, req := q, arrival := s.tick, state := .held, expired := false
                 recalled := false }])
        ∧ (∀ e, s.proxyEntry t k = some e → a.ack = true ∨ a.ownFails = false →
          Does c s got fun u => u.watch.marks[t].wakeWanted = true ∧ u.proxyEntry t k = some { e with req := q })
        ∧ (s.proxyEntry t k = none → 8 ≤ s.proxyLoad → a.ack = false →
          Does c s busy fun u => u.watch.marks[t].wakeWanted = true ∧ u.watch.proxy = s.watch.proxy))
      ∧ (∀ (p : List Byte) (x : Extent) (ep : Nat), parseExtent p = some (tag, x) → 1 ≤ ep → ep ≤ 65535 →
        a.ack = false →
        let e : List Byte := [BitVec.ofNat 8 (ep / 256), BitVec.ofNat 8 ep]
        ∀ c ∈ [Instr.writeReceived o t p a, .resyncWriteReceived o t p a, .syncReceived o t [tag] a,
            .promoteReceived o t [tag] a, .clearFaultReceived o t [tag] a, .resyncBeginReceived o t (tag :: e) a,
            .resyncEndReceived o t e a],
          Does c s busy fun u => u.watch.marks[t].wakeWanted = true ∧ u.watch.proxy = s.watch.proxy)
      ∧ (∀ e, s.proxyEntry t k = some e → e.state = .held → a.ack = true ∨ a.ownFails = false →
        Does (.cancelReceived o t [tag] a) s got fun u =>
          u.proxyEntry t k = none ∧ OutMsg.done o tag .cancelled false none (some t) ∈ u.watch.out)
      ∧ ((∀ e, s.proxyEntry t k = some e → e.state ≠ .held) → a.ack = false →
        Leaves (.cancelReceived o t [tag] a) s { s.steady with answer := .nothing }))
    ∧ (s.answersFor t = false → a.ack = false → ∀ (p : List Byte) (x : Extent) (i : Byte),
        parseExtent p = some (tag, x) → i.toNat ≤ 4 →
        ∀ c ∈ [Instr.readReceived o t p a, .writeReceived o t p a, .resyncWriteReceived o t p a,
            .syncReceived o t [tag] a, .promoteReceived o t [tag] a, .clearFaultReceived o t [tag] a,
            .cancelReceived o t [tag] a, .probeReceived o t [tag, i] a],
          Leaves c s { s.steady with answer := .nothing })

/-! ## Receiving: the mirror unit -/

/-- MIRROR-ACK and MIRROR-MISS at a PRIMARY: the waiting WRITE ends OK or OK_DEGRADED, an earlier one is noted, a miss marks
its extent, which in CLOSED calls for a record write and sets the redo mark where it touches the current region; nobody but
the PRIMARY whose partner sends it takes one. -/
def Obligations.MirrorAnswersEndTheWait : Prop :=
  (∀ (s : State) (o : Station) (p : List Byte) (k : Key) (st : BlockNo) (a : AnswerSlot), s.takesPart = true →
      o ≠ s.station → parseMirrorAck p = some (k, st) →
      let got : Steady := { s.steady with answer := .acknowledge, peers := s.heardFrom o }
      (s.mirror.role = .primary → s.partner = some o → a.ack = true ∨ a.ownFails = false →
        (∀ (e : Entry) (x : Extent), s.entry k = some e → e.kind = .write → e.extent = some x → x.start = st →
          (e.state = .waitMirror →
            Does (.mirrorAckReceived o s.station p a) s got fun u =>
              u.entry k = some { e with state := .ending, status := some .ok, send := none }
              ∧ u.mirror.dirty = s.mirror.dirty ∧ u.request.out = s.request.out ++ [.entryDone k])
          ∧ (e.state = .dataIn ∨ e.state = .queued ∨ e.state = .running →
            Does (.mirrorAckReceived o s.station p a) s got fun u =>
              u.entry k = some { e with ackEarly := true } ∧ u.mirror = s.mirror
              ∧ u.request.out = s.request.out))
        ∧ ((∀ e, s.entry k = some e → e.kind ≠ .write ∨ e.extent.map (·.start) ≠ some st) →
          Does (.mirrorAckReceived o s.station p a) s got fun u => u.request = s.request ∧ u.mirror = s.mirror))
      ∧ (s.mirror.role ≠ .primary ∨ s.partner ≠ some o → a.ack = false →
        Leaves (.mirrorAckReceived o s.station p a) s { s.steady with answer := .nothing }))
  ∧ ∀ (s : State) (o : Station) (p : List Byte) (k : Key) (x : Extent) (a : AnswerSlot), s.takesPart = true →
      o ≠ s.station → parseMirrorMiss p = some (k, x) →
      let got : Steady := { s.steady with answer := .acknowledge, peers := s.heardFrom o }
      let marks : State → Prop := fun u =>
        u.mirror.dirty = s.mirror.dirty ||| s.regions x
        ∧ (u.mirror.calls.mark = true ↔ s.mirror.calls.mark = true
            ∨ s.mirror.cond = .closed ∧ u.mirror.dirty ≠ s.mirror.dirty)
        ∧ (u.engine.redo = true ↔ s.engine.redo = true
            ∨ ∃ r, s.engine.region = some r ∧ (s.regions x).getLsbD r.val = true)
      (s.mirror.role = .primary → s.partner = some o → a.ack = true ∨ a.ownFails = false →
        (∀ (e : Entry) (y : Extent), s.entry k = some e → e.kind = .write → e.extent = some y → y.start = x.start →
          (e.state = .waitMirror →
            Does (.mirrorMissReceived o s.station p a) s got fun u =>
              u.entry k = some { e with state := .ending, status := some .okDegraded, send := none }
              ∧ marks u)
          ∧ (e.state = .dataIn ∨ e.state = .queued ∨ e.state = .running →
            Does (.mirrorMissReceived o s.station p a) s got fun u =>
              u.copyState k = some .missHeard ∧ u.request = s.request
              ∧ marks u))
        ∧ ((∀ e, s.entry k = some e → e.kind ≠ .write ∨ e.extent.map (·.start) ≠ some x.start) →
          Does (.mirrorMissReceived o s.station p a) s got fun u =>
            u.request = s.request ∧ marks u))
      ∧ (s.mirror.role ≠ .primary ∨ s.partner ≠ some o → a.ack = false →
        Leaves (.mirrorMissReceived o s.station p a) s { s.steady with answer := .nothing })

/-- RESYNC-END clears the behind flag of a secondary that has announced it; a DONE that the resync engine waits for begins the
copying, ends the chunk or stops the resync with its hold-off, and a region with the redo mark stays marked; a DONE nobody
waits for and a REPORT draw no answer. A DONE to any station that the holder sees takes the proxy entry it answers out of the
queue, and lets the origin's FORWARDs that wait in step RETRY go again. The region chosen next is the lowest marked one at or
above the cursor, else the lowest marked one. Which marks stand for regions without a block is the model's choice (DESIGN
CHOICE, log 17). -/
def Obligations.ResyncMessages : Prop :=
  (∀ (s : State) (o : Station) (p : List Byte) (ep : Nat) (a : AnswerSlot), s.takesPart = true → o ≠ s.station →
      parseResyncEnd p = some ep →
      (s.mirror.role = .secondary → s.partner = some o → a.ack = true ∨ a.ownFails = false →
        Does (.resyncEndReceived o s.station p a) s { s.steady with answer := .acknowledge, peers := s.heardFrom o }
          fun u => u.mirror.behind =
            if ep = s.mirror.epoch ∧ s.mirror.behindAnnounced = true then false else s.mirror.behind)
      ∧ (s.mirror.role ≠ .secondary ∨ s.partner ≠ some o → a.ack = false →
        Leaves (.resyncEndReceived o s.station p a) s { s.steady with answer := .nothing }))
  ∧ (∀ (s : State) (o : Station) (p : List Byte) (b : DoneBody) (a : AnswerSlot), s.takesPart = true →
      o ≠ s.station → parseDone p = some b →
      let got : Steady := { s.steady with answer := .acknowledge, peers := s.heardFrom o }
      let size := s.mirror.regionSize
      let usable := s.drive.usable.toNat
      let goesOn : BitVec 256 → Fin 256 → State → Prop := fun marks cursor u =>
        let left : BitVec 256 := marks &&& ~~~ (emptyRegions size usable)
        u.mirror.dirty = left
        ∧ (∀ r : Fin 256, left.getLsbD r.val = true →
            (cursor ≤ r ∧ ∀ q : Fin 256, cursor ≤ q → q < r → left.getLsbD q.val = false)
              ∨ ((∀ q : Fin 256, cursor ≤ q → left.getLsbD q.val = false)
                  ∧ ∀ q : Fin 256, q < r → left.getLsbD q.val = false) →
            u.engine.state = .copying ∧ u.engine.region = some r
              ∧ u.engine.chunk =
                some { start := r.val * size, count := min 64 (min ((r.val + 1) * size) usable - r.val * size)
                       step := .waitPages, pages := [], sendPos := none }
              ∧ (u.engine.redo = true ↔ ∃ e ∈ s.request.queue, e.kind = .write ∧ e.outstanding = true
                  ∧ ∃ x, e.extent = some x ∧ (s.regions x).getLsbD r.val = true))
        ∧ (left = 0 → u.engine.state = .ending ∧ u.engine.region = none ∧ u.engine.chunk = none
            ∧ u.mirror.out = s.mirror.out ++ [.resyncEnd o s.mirror.epoch false])
      (s.partner = some o → s.engine.outstanding = some b.tag → a.ack = true ∨ a.ownFails = false →
        (s.engine.state = .beginWait → b.status ≠ .ok →
          Does (.doneReceived o s.station p a) s { got with resyncHoldOff := some (s.tick + 500#32) } fun u =>
            u.engine.state = .idle ∧ u.engine.outstanding = none ∧ u.engine.replyWait = none)
        ∧ (s.engine.state = .beginWait → b.status = .ok →
          Does (.doneReceived o s.station p a) s got fun u =>
            u.engine.outstanding = none ∧ u.engine.replyWait = none ∧ goesOn s.mirror.dirty s.engine.cursor u)
        ∧ ∀ (r : Fin 256) (c : Chunk), s.engine.state = .copying → s.engine.region = some r →
            s.engine.chunk = some c → c.step = .reply →
            let stop := min ((r.val + 1) * size) usable
            (b.status ≠ .ok →
              Does (.doneReceived o s.station p a) s { got with resyncHoldOff := some (s.tick + 500#32) } fun u =>
                u.engine.state = .idle ∧ u.engine.chunk = none ∧ u.engine.region = none
                ∧ u.mirror.dirty = s.mirror.dirty)
            ∧ (b.status = .ok → c.start + c.count < stop →
              Does (.doneReceived o s.station p a) s got fun u =>
                u.engine.region = some r ∧ u.mirror.dirty = s.mirror.dirty
                ∧ u.engine.chunk =
                  some { start := c.start + c.count, count := min 64 (stop - (c.start + c.count)), step := .waitPages
                         pages := [], sendPos := none })
            ∧ (b.status = .ok → stop ≤ c.start + c.count → s.engine.redo = false →
              Does (.doneReceived o s.station p a) s got fun u =>
                u.mirror.dirty.getLsbD r.val = false ∧ u.engine.cursor = r + 1
                ∧ goesOn (s.mirror.dirty &&& ~~~ (1#256 <<< r.val)) (r + 1) u)
            ∧ (b.status = .ok → stop ≤ c.start + c.count → s.engine.redo = true →
              Does (.doneReceived o s.station p a) s { got with counters := s.counted 5 } fun u =>
                u.engine.cursor = r + 1 ∧ goesOn s.mirror.dirty (r + 1) u
                ∧ (r.val * size < usable →
                    u.mirror.dirty.getLsbD r.val = s.mirror.dirty.getLsbD r.val)))
      ∧ (s.partner ≠ some o ∨ s.engine.outstanding ≠ some b.tag → a.ack = false →
        Leaves (.doneReceived o s.station p a) s { s.steady with answer := .nothing }))
  ∧ (∀ (s : State) (o t : Station) (p : List Byte) (b : DoneBody) (a : AnswerSlot), s.takesPart = true →
      o ≠ s.station → parseDone p = some b → s.duty = true → a.ack = true →
      ∃ u, exec (.doneReceived o t p a) s = .next (settle s u) ∧ u.proxyEntry o ⟨t, b.tag⟩ = none
        ∧ (∀ n k, n ≠ o → u.proxyEntry n k = s.proxyEntry n k)
        ∧ ∀ k f, k ≠ ⟨t, b.tag⟩ → s.proxyEntry o k = some f →
          (∀ t0, f.state = .retry t0 →
            u.proxyEntry o k = some { f with state := .sending, expired := false, recalled := false }
              ∧ OutMsg.forward o k f.req ∈ u.watch.out)
          ∧ (f.state = .held ∨ f.state = .sending →
            (s.watch.proxy.map fun e => (e.target, e.key)).Nodup → u.proxyEntry o k = some f))
  ∧ ∀ (s : State) (o t : Station) (p : List Byte) (a : AnswerSlot), s.takesPart = true → o ≠ s.station →
      Leaves (.reportReceived o t p a) s
        { s.steady with answer := .nothing, peers := if a.ack then s.heardFrom o else s.peers }

/-! ## Time -/

/-- A tick: the tick count advances by one, wrapping; at a multiple of 100 the seconds and a running idle timer follow
(at the wrap, the model's reading: DEDUCED, log 12). Nothing else happens (log 2). -/
def Obligations.TicksCount : Prop :=
  ∀ s : State,
    (s.resetAsserted = false → (s.tick + 1#32).toNat % 100 ≠ 0 →
      exec .tickAdvance s = .next { s with tick := s.tick + 1#32 })
    ∧ (s.resetAsserted = false → (s.tick + 1#32).toNat % 100 = 0 →
      exec .tickAdvance s =
        .next { s with
          tick := s.tick + 1#32, seconds := s.seconds + 1#32
          drive := { s.drive with idle := s.drive.idle.map (· + 1) } })
    ∧ (s.resetAsserted = true → exec .tickAdvance s = .next s)

/-- The holds end at their end ticks, the table timer after 100 ticks, the wake interval after 6000, a waking mark after 300;
before that their expiries do nothing (DESIGN CHOICE, log 2), nor does the expiry of a hold or timer that does not run (DESIGN
CHOICE, log 3). An end tick is reached for half the count's range after it (DEDUCED, log 18). -/
def Obligations.HoldsEnd : Prop :=
  ∀ s : State, s.resetAsserted = false →
    let due : Option Tick → Prop := fun h => ∃ t, h = some t ∧ (s.tick - t).toNat < 2147483648
    let ran : Nat → Option Tick → Prop := fun n h => ∃ t, h = some t ∧ n ≤ (s.tick - t).toNat
    (due s.claim.holdOff → Leaves .claimHoldOffExpiry s { s.steady with holdOff := none })
    ∧ (¬ due s.claim.holdOff → Idles .claimHoldOffExpiry s)
    ∧ (due s.watch.sleepRetry → Leaves .sleepRetryHoldExpiry s { s.steady with sleepRetry := none })
    ∧ (¬ due s.watch.sleepRetry → Idles .sleepRetryHoldExpiry s)
    ∧ (due s.watch.takeHold → Leaves .takeHoldOffExpiry s { s.steady with takeHold := none })
    ∧ (¬ due s.watch.takeHold → Idles .takeHoldOffExpiry s)
    ∧ (due s.engine.holdOff → Leaves .resyncHoldOffExpiry s { s.steady with resyncHoldOff := none })
    ∧ (¬ due s.engine.holdOff → Idles .resyncHoldOffExpiry s)
    ∧ (ran 6000 s.mirror.wakeInterval → Leaves .resyncWakeIntervalExpiry s { s.steady with wakeInterval := none })
    ∧ (¬ ran 6000 s.mirror.wakeInterval → Idles .resyncWakeIntervalExpiry s)
    ∧ (ran 100 s.claim.tableTimer →
      Does .tableTimerExpiry s { s.steady with tableTimer := none } fun u => u.budgetPending isQuery = true)
    ∧ (¬ ran 100 s.claim.tableTimer → Idles .tableTimerExpiry s)
    ∧ ∀ n : Station,
      (due s.watch.marks[n].absenceHold →
        Does (.absenceHoldExpiry n) s s.steady fun u =>
          u.watch.marks = s.watch.marks.set n { s.watch.marks[n] with absenceHold := none })
      ∧ (¬ due s.watch.marks[n].absenceHold → Idles (.absenceHoldExpiry n) s)
      ∧ (ran 300 s.watch.marks[n].waking →
        Does (.wakingMarkExpiry n) s s.steady fun u =>
          u.watch.marks = s.watch.marks.set n { s.watch.marks[n] with waking := none })
      ∧ (¬ ran 300 s.watch.marks[n].waking → Idles (.wakingMarkExpiry n) s)

/-! ## The drive -/

/-- Spin-up: a deferral ends in power on an adequate sample, or is given up after 500 ticks with a claim hold-off; the
ready line brings IDENTIFY, and 1500 ticks without it a FAULT; and the need for spin-up is reported as its conditions stand
after every event. Before their time or in another state these commands do nothing (DESIGN CHOICE, logs 2 and 3). -/
def Obligations.SpinUpProceeds : Prop :=
  (∀ b s : State, s.takesPart = true →
    let t := settle b s
    t.drive.need = true ↔ t.drive.state = .off ∧ t.drive.deferral = none
      ∧ ((∃ e ∈ t.request.queue, e.state = .queued)
        ∨ (t.mirror.cond = .notLoaded ∧ ∃ c, t.settings = some c ∧ c.mode ≠ .single)
        ∨ t.mirror.calls.opening = true ∨ t.mirror.calls.roleChange = true ∨ t.mirror.calls.mark = true
        ∨ t.engine.state ≠ .idle))
  ∧ ∀ s : State, s.resetAsserted = false →
    (s.drive.deferral ≠ none → s.adequate = true → Leaves .deferralEnd s s.spinningUp)
    ∧ (s.drive.deferral = none ∨ s.adequate = false → Idles .deferralEnd s)
    ∧ (∀ t, s.drive.deferral = some t → 500 ≤ (s.tick - t).toNat → s.adequate = false →
      Does .deferralGiveUp s
        { s.steady with
          holdOff := some (s.tick + 1000#32), coldDrive := s.cold s.drive.state none s.tick }
        fun u => s.claim.state = .spinUnits → s.budgetPending isSettle = false →
          u.claim.state = .releasing ∧ u.claim.out = s.claim.out ++ [.release s.ownHolding false .full])
    ∧ (∀ t, s.drive.deferral = some t → (s.tick - t).toNat < 500 ∨ s.adequate = true → Idles .deferralGiveUp s)
    ∧ (s.drive.state = .spinUp → s.drive.readyWait ≠ none →
      Does .readyLineHigh s { s.steady with readyWait := none } fun u =>
        u.drive.flight = some { cmd := .identify, requester := .port, start := s.tick })
    ∧ (s.drive.state ≠ .spinUp ∨ s.drive.readyWait = none → Idles .readyLineHigh s)
    ∧ (∀ t, s.drive.readyWait = some t → 1500 ≤ (s.tick - t).toNat → s.drive.state ≠ .fault →
      Leaves .readyWaitExpiry s (s.faulted .spinUpFail))
    ∧ ∀ t, s.drive.readyWait = some t → (s.tick - t).toNat < 1500 → Idles .readyWaitExpiry s

/-- IDENTIFY: a drive of 1024 blocks or more, and of the size the station knows, brings READY, the settling RELEASE and the
range test of every entry with an extent and drive work outstanding: one that passes the usable size ends RANGE, a REPLICA
with a miss and without a status (DEDUCED, log 35), and nothing is marked. Another size is FAULT SIZE, MEDIA_ERROR is FAULT
SPIN_UP_FAIL. -/
def Obligations.IdentifyDecidesReady : Prop :=
  ∀ (s : State) (r : Requester) (t : Tick) (size : BlockNo), s.resetAsserted = false → s.drive.state = .spinUp →
    s.drive.flight = some { cmd := .identify, requester := r, start := t } →
    (size.toNat < 1024 → Leaves (.identifyReply (.ok size)) s (s.faulted .size))
    ∧ (1024 ≤ size.toNat → s.drive.usable = 0 ∨ s.drive.usable = size - 8#32 →
      Does (.identifyReply (.ok size)) s
        { s.steady with
          usable := size - 8#32, readyWait := none, held := none
          comp := { level := some .run, hold := true, counting := false }
          coldDrive := s.cold .ready s.drive.deferral s.drive.offSince }
        fun u => u.drive.flight = none
          ∧ (s.claim.state = .spinUnits →
              if s.runCost < s.spinCost then
                u.claim.out = s.claim.out ++ [.release (s.spinCost - s.runCost) false .settle]
              else u.claim.state = .runUnits)
          ∧ (QueueSound s →
              let passes : Entry → Bool := fun e =>
                e.outstanding && (match e.extent with
                  | some x => decide ((size - 8#32).toNat < x.start.toNat + x.count)
                  | none => false)
              let ended : List Entry := s.request.queue.filter passes
              (∀ e ∈ s.request.queue, passes e = false → u.entry e.key = some e)
              ∧ (∀ e ∈ ended, e.kind ≠ .replica →
                  u.entry e.key = some { e with state := .ending, status := some .range, send := none })
              ∧ u.request.out = s.request.out ++ (ended.filter (·.kind != .replica)).map (fun e => .entryDone e.key)
              ∧ u.mirror.dirty = s.mirror.dirty ∧ (∀ e ∈ ended, e.kind = .write → u.copyState e.key = none)
              ∧ ∀ n, s.partner = some n → ∀ e ∈ ended, e.kind = .replica → ∀ x, e.extent = some x →
                  u.entry e.key = some { e with state := .ending }
                  ∧ .mirrorMiss n e.key x.start x.count 0 true ∈ u.mirror.out
                  ∧ (s.mirror.role = .secondary → u.mirror.behind = true)))
    ∧ (1024 ≤ size.toNat → s.drive.usable ≠ 0 → s.drive.usable ≠ size - 8#32 →
      Leaves (.identifyReply (.ok size)) s (s.faulted .size))
    ∧ Leaves (.identifyReply .mediaError) s (s.faulted .spinUpFail)

/-- Stopping: the idle limit enters SPIN_DOWN, with a record write of the values then held and clean set where the record is
open and the SYNC otherwise; at every entry into SPIN_DOWN the resync stops, the age limit ends what has waited 6000 ticks,
and the record write goes where the record is open or a call for one stands (its partner byte is 0 without settings: DESIGN
CHOICE, log 22; a REPLICA so ended has no status: DEDUCED, log 35); the end of the SYNC, or 500 ticks, removes power; any
other command that lasts 200 ticks is FAULT. The idle timer runs after every event as its conditions stand at its end, and
starts from 0 where they failed after the event's own effect, as when a request joins and leaves the queue within the event.
Before their time or for another command these do nothing (DESIGN CHOICE, logs 2 and 3). -/
def Obligations.StopsRemovePower : Prop :=
  (∀ b s : State, s.takesPart = true →
    let t := settle b s
    let runs : State → Prop := fun u => u.drive.state = .ready ∧ u.drive.flight = none ∧ u.request.queue = []
      ∧ u.mirror.cond ≠ .notLoaded ∧ u.mirror.calls = .quiet ∧ (∀ p, u.mirror.promotion = some p → p.sent = true)
      ∧ u.engine.chunk = none
    (runs s → runs t → t.drive.idle = some (s.drive.idle.getD 0))
    ∧ (¬ runs s → runs t → t.drive.idle = some 0)
    ∧ (¬ runs t → t.drive.idle = none))
  ∧ (∀ (s : State) (n : Nat) (c : Settings), s.resetAsserted = false → s.drive.idle = some n → s.settings = some c →
      c.idleLimit * 60 ≤ n → s.idleRuns = true →
      Does .idleLimit s { s.steady with coldDrive := s.cold .spinDown s.drive.deferral s.drive.offSince } fun u =>
        (s.mirror.cond = .opened → u.mirror.blockStore = (s.recordFor true).block
          ∧ u.drive.flight = some
            { cmd := .write s.drive.usable 1, requester := .recordWrite (s.recordFor true) s.mirror.calls
              start := s.tick })
        ∧ (s.mirror.cond ≠ .opened →
          u.drive.flight = some { cmd := .sync, requester := .port, start := s.tick }))
  ∧ (∀ s : State, QueueSound s →
      let u := enterSpinDown s
      let ended : List Entry := s.request.queue.filter fun e =>
        e.state == .queued && (match e.queued with | some t => decide (6000 ≤ (s.tick - t).toNat) | none => false)
      let calls : RecordCalls := { s.mirror.calls with
        mark := s.mirror.calls.mark || (s.mirror.cond == .closed && s.mapAfter ended != s.mirror.dirty) }
      u.drive.state = .spinDown ∧ u.engine.state = .idle ∧ u.mirror.dirty = s.mapAfter ended
      ∧ (∀ e ∈ ended, e.kind ≠ .replica →
          u.entry e.key = some { e with state := .ending, status := some .noPower, send := none })
      ∧ (∀ n, s.partner = some n → ∀ e ∈ ended, e.kind = .replica → ∀ x, e.extent = some x →
          u.entry e.key = some { e with state := .ending }
            ∧ .mirrorMiss n e.key x.start x.count 0 true ∈ u.mirror.out)
      ∧ (∀ e ∈ s.request.queue, e ∉ ended → u.entry e.key = some e)
      ∧ (∀ e ∈ ended, e.kind = .write → u.copyState e.key = none)
      ∧ (s.mirror.cond = .opened ∨ calls.any = true →
          u.drive.flight = some
            { cmd := .write s.drive.usable 1, requester := .recordWrite (u.recordFor true) calls, start := s.tick }
          ∧ u.laneBlocks = [(u.recordFor true).block] ∧ u.mirror.calls = .quiet
          ∧ u.recordFor true =
              if s.mirror.cond = .opening ∧ s.mirror.image ≠ none then s.recordFor true
              else { s.recordFor true with dirty := s.mapAfter ended })
      ∧ (s.mirror.cond ≠ .opened → calls.any = false →
          u.drive.flight = some { cmd := .sync, requester := .port, start := s.tick }))
  ∧ (∀ (s : State) (n : Nat) (c : Settings), s.resetAsserted = false → s.drive.idle = some n → s.settings = some c →
      n < c.idleLimit * 60 → Idles .idleLimit s)
  ∧ (∀ (s : State) (f : Flight), s.resetAsserted = false → s.drive.flight = some f → f.cmd = .sync →
      f.requester = .port →
      (500 ≤ (s.tick - f.start).toNat →
        Leaves .commandTimeout s s.switchedOff ∧ Leaves (.spinDownSyncReply .timeout) s s.switchedOff)
      ∧ ((s.tick - f.start).toNat < 500 → Idles .commandTimeout s ∧ Idles (.spinDownSyncReply .timeout) s)
      ∧ Leaves (.spinDownSyncReply .ok) s s.switchedOff ∧ Leaves (.spinDownSyncReply .mediaError) s s.switchedOff)
  ∧ ∀ (s : State) (f : Flight), s.resetAsserted = false → s.drive.flight = some f →
      f.cmd ≠ .sync ∨ f.requester ≠ .port →
      (200 ≤ (s.tick - f.start).toNat → s.drive.state ≠ .fault →
        Leaves .commandTimeout s (s.faulted .driveTimeout))
      ∧ ((s.tick - f.start).toNat < 200 → Idles .commandTimeout s)
      ∧ ∀ e, Idles (.spinDownSyncReply e) s

/-- A reply to an entry's command: a READ's blocks fill its pages, those before the failing block on a media error, and its
pieces begin; SYNC and RESYNC_IN end OK, a media error ends the entry MEDIA, and a WRITE that replied OK ends or waits for its
copy as the mirror unit decides. A free lane takes the next command in R76's order, and a WRITE on it sends its requester's
pages. Three clauses are the model's DESIGN CHOICE: within the record work, which R76 does not order, the load goes first,
then a standing record write, then the promotion write (log 16); a reply with nothing in flight does nothing (log 3); the
blocks of a reply are as many as fit (log 29). A REPLICA in ENDING has no status (DEDUCED, log 35). Entries for the mirror
unit are checked when they become runnable: RESYNC_BEGIN against role, partner and epoch, PROMOTE against role, behind flag,
partner and epoch, also while another promotion is pending, when one that passes stays in QUEUED (DESIGN CHOICE, log 21); a
promotion not yet sent is dropped when the partner serves again or the drive leaves READY, and one that is sent writes epoch +
1, at most 65535 (DESIGN CHOICE, log 41). A record write carries the mirror unit's values, in OPENING the image's, with clean
set when no call asks for clean clear and no write-like entry has drive work outstanding (DESIGN CHOICE where a clean call
stands beside another, log 15; the partner byte is 0 without settings, log 22). A PRIMARY's WRITE that ends MEDIA marks its
extent, and the copy item of a WRITE goes with its end. -/
def Obligations.DriveRepliesMoveEntries : Prop :=
  let ask : LaneCmd → Requester → Tick → Option Flight := fun c r t => some { cmd := c, requester := r, start := t }
  (∀ (s : State) (e : Entry), s.runnable e = true ↔
    e.state = .queued ∧ s.drive.state = .ready
      ∧ (s.mirror.cond = .opened ∨ s.mirror.cond = .closed ∧ e.kind.writeLike = false)
      ∧ ∀ o ∈ olderThan e.key s.request.queue, o.outstanding = true →
          ¬ (e.kind = .sync ∧ o.kind.writeLike = true)
          ∧ ∀ x : Extent, o.extent = some x → ∀ y : Extent, e.extent = some y →
              e.kind = .read ∨ e.kind.writeLike = true → o.kind.writeLike = true ∨ e.kind.writeLike = true →
              x.start.toNat + x.count ≤ y.start.toNat ∨ y.start.toNat + y.count ≤ x.start.toNat)
  ∧ (∀ b s : State, s.takesPart = true →
    let t := settle b s
    t.drive.state = .ready → t.drive.flight = none →
      t.recordWork = false ∧ (∀ c, t.engine.chunk = some c → c.step ≠ .read)
      ∧ ∀ e ∈ t.request.queue, e.kind.usesLane = true → t.runnable e = false)
  ∧ (∀ s : State, s.drive.state = .ready → s.drive.flight = none →
    let next := (chooseCommand s).drive.flight
    let first : Bool :=
      s.mirror.cond == .notLoaded || s.mirror.calls.any
        || (match s.mirror.promotion with | some p => !p.sent | none => false)
    (s.mirror.cond = .notLoaded → next = ask (.read s.drive.usable 1) .recordLoad s.tick)
    ∧ (s.mirror.cond ≠ .notLoaded → s.mirror.calls.any = true →
        ∀ clean : Bool,
          (clean = true ↔ s.mirror.calls.opening = false ∧ s.mirror.calls.roleChange = false ∧ s.mirror.calls.mark = false
            ∧ s.mirror.calls.writeQueued = false
            ∧ ∀ e ∈ s.request.queue, e.kind.writeLike = true → e.outstanding = false) →
          next = ask (.write s.drive.usable 1) (.recordWrite (s.recordFor clean) s.mirror.calls) s.tick
          ∧ (chooseCommand s).laneBlocks = [(s.recordFor clean).block] ∧ (chooseCommand s).mirror.calls = .quiet)
    ∧ (∀ p, s.mirror.cond ≠ .notLoaded → s.mirror.calls.any = false → s.mirror.promotion = some p → p.sent = false →
        let f : RecordFields := { s.recordFor false with
          role := .primary, epoch := if s.mirror.epoch < 65535 then s.mirror.epoch + 1 else 65535, dirty := 0 }
        next = ask (.write s.drive.usable 1) (.promotionWrite f) s.tick
          ∧ (chooseCommand s).laneBlocks = [f.block]
          ∧ (chooseCommand s).mirror.promotion = some { p with sent := true })
    ∧ (∀ c, first = false → s.engine.chunk = some c → c.step = .read →
        100 ≤ (s.tick - s.drive.resyncWait).toNat ∨ (∀ e ∈ s.request.queue, s.runnable e = false) →
        next = ask (.read (BitVec.ofNat 32 c.start) c.count) .chunk s.tick
          ∧ (chooseCommand s).drive.resyncWait = s.tick)
    ∧ (first = false →
        (∀ c, s.engine.chunk = some c → c.step = .read → (s.tick - s.drive.resyncWait).toNat < 100) →
        (∀ e, s.entry e.key = some e → s.runnable e = true →
          (e.kind = .write → s.mirror.role = .secondary →
            (chooseCommand s).entry e.key = some { e with state := .ending, status := some .role, send := none })
          ∧ (e.kind = .resyncIn → s.mirror.role ≠ .secondary ∨ s.partner ≠ some e.key.origin →
            (chooseCommand s).entry e.key = some { e with state := .ending, status := some .role, send := none })
          ∧ (e.kind = .read → s.mirror.role = .secondary → s.mirror.behind = true →
            (chooseCommand s).entry e.key = some { e with state := .ending, status := some .stale, send := none }))
        ∧ ∀ e : Entry, (∀ g ∈ s.request.queue, s.runnable g = true → s.runFailure g = none) →
          s.request.queue.find? (fun g => s.runnable g && g.kind.usesLane) = some e → s.entry e.key = some e →
          (chooseCommand s).entry e.key = some { e with state := .running }
          ∧ ∀ x : Extent, e.extent = some x ∨ e.kind = .sync →
            next = ask
              (if e.kind = .sync then .sync else if e.kind = .read then .read x.start x.count
                else .write x.start x.count)
              (.entry e.key) s.tick))
  ∧ (∀ b s : State, s.takesPart = true → QueueSound s →
    let t := settle b s
    ∀ e ∈ t.request.queue, t.runnable e = true →
      (∀ ep, e.kind ≠ .resyncBegin ep) ∧ (e.kind = .promote → t.mirror.promotion ≠ none))
  ∧ (∀ (s : State) (e : Entry), QueueSound s → s.entry e.key = some e → s.runnable e = true →
    let u := handSpecials s
    let ended : Status → Option Entry := fun st => some { e with state := .ending, status := some st, send := none }
    (∀ ep, e.kind = .resyncBegin ep →
      let agrees : Prop := s.mirror.role = .secondary ∧ s.partner = some e.key.origin ∧ ep = s.mirror.epoch
      (agrees → u.entry e.key = ended .ok ∧ u.mirror.behind = true) ∧ (¬ agrees → u.entry e.key = ended .denied))
    ∧ (e.kind = .promote →
      (∀ g ∈ s.request.queue, s.runnable g = true → g.kind.usesLane = false →
        g = e ∨ (g.kind = .promote ∧ ∃ p, s.mirror.promotion = some p ∧ p.key = g.key)) →
      let passes : Prop := s.mirror.role = .secondary ∧ s.mirror.behind = false ∧ s.mirror.epoch < 65535
        ∧ ∀ n, s.partner = some n → (s.presence n).state ≠ .listening ∨ (s.presence n).drive = .fault
      (s.mirror.promotion = none → passes →
        u = { s with mirror := { s.mirror with promotion := some { key := e.key, sent := false } } })
      ∧ (s.mirror.promotion = none → ¬ passes → u.entry e.key = ended .denied ∧ u.mirror.promotion = none)
      ∧ ∀ p, s.mirror.promotion = some p →
        (p.key = e.key ∨ passes → u = s)
        ∧ (p.key ≠ e.key → ¬ passes → u.entry e.key = ended .denied ∧ u.mirror.promotion = some p)))
  ∧ (∀ (s : State) (p : Promotion), s.mirror.promotion = some p →
    let serves : Prop :=
      ∃ n, s.partner = some n ∧ (s.presence n).state = .listening ∧ (s.presence n).drive ≠ .fault
    (p.sent = false → serves →
      (∀ b, s.takesPart = true → (settle b s).mirror.promotion = none)
      ∧ (dropPromotion s).mirror.promotion = none
      ∧ ∀ e, s.entry p.key = some e → e.state = .queued →
        (dropPromotion s).entry p.key = some { e with state := .ending, status := some .denied, send := none })
    ∧ (p.sent = true ∨ ¬ serves → dropPromotion s = s)
    ∧ (enterSpinDown s).mirror.promotion = none
    ∧ ∀ e, QueueSound s → s.entry p.key = some e → s.aged e = false → (enterSpinDown s).entry p.key = some e)
  ∧ (∀ (s : State) (x : Extent) (k : Key) (e : Entry) (t : Tick),
    s.drive.flight = ask (.write x.start x.count) (.entry k) t → s.entry k = some e →
      s.laneBlocks.length = e.pages.length
      ∧ ∀ i < e.pages.length, (s.laneBlocks.getD i []).length = 512
        ∧ ∀ j < 512, (s.laneBlocks.getD i []).getD j 0 = readByte s.buffer (e.pages.getD i 0 * 512 + j))
  ∧ (∀ s : State, s.resetAsserted = false → s.drive.flight = none → ∀ r, Idles (.driveReply r) s)
  ∧ ∀ (s : State) (cmd : LaneCmd) (k : Key) (t : Tick) (e : Entry), s.resetAsserted = false →
      s.drive.flight = some { cmd := cmd, requester := .entry k, start := t } → s.entry k = some e →
      let ends : Status → BitVec 256 → State → Prop := fun st map u => u.drive.flight = none
        ∧ u.entry k = some { e with state := .ending, status := some st, send := none }
        ∧ u.request.out = s.request.out ++ [.entryDone k]
        ∧ u.mirror.dirty = map ∧ (e.kind = .write → u.copyState k = none)
      (∀ bs, e.kind = .read →
        Does (.driveReply (.ok bs)) s { s.steady with buffer := writePages s.buffer e.pages bs } fun u =>
          u.drive.flight = none ∧ u.entry k = some { e with state := .sending, send := some ⟨0, 0, none⟩ }
          ∧ u.request.out = s.request.out ++ [.piece k])
      ∧ (∀ (x : Extent) (b : BlockNo) (bs : List (List Byte)), e.kind = .read → e.extent = some x →
        Does (.driveReply (.mediaError b bs)) s
          { s.steady with buffer := writePages s.buffer e.pages (bs.take (b.toNat - x.start.toNat)) }
          (ends .media s.mirror.dirty))
      ∧ (∀ bs, e.kind = .sync ∨ e.kind = .resyncIn → Does (.driveReply (.ok bs)) s s.steady (ends .ok s.mirror.dirty))
      ∧ (∀ b bs, e.kind = .sync ∨ e.kind = .resyncIn ∨ e.kind = .write →
        Does (.driveReply (.mediaError b bs)) s s.steady (ends .media (s.mapAfter [e])))
      ∧ (∀ bs, e.kind = .write → s.mirror.role = .single →
        Does (.driveReply (.ok bs)) s s.steady (ends .ok s.mirror.dirty))
      ∧ (∀ bs, e.kind = .write → s.mirror.role = .secondary →
        Does (.driveReply (.ok bs)) s s.steady (ends .role s.mirror.dirty))
      ∧ (∀ (bs : List (List Byte)) (x : Extent), e.kind = .write → s.mirror.role = .primary → e.extent = some x →
        (s.copyState k = some .missHeard
            ∨ e.ackEarly = false ∧ (s.copyState k = some .notExpected ∨ s.mirror.link.together = false) →
          Does (.driveReply (.ok bs)) s s.steady fun u =>
            ends .okDegraded (s.mirror.dirty ||| s.regions x) u)
        ∧ (s.copyState k ≠ some .missHeard → e.ackEarly = true →
          Does (.driveReply (.ok bs)) s s.steady (ends .ok s.mirror.dirty))
        ∧ (s.copyState k ≠ some .missHeard → e.ackEarly = false → s.copyState k ≠ some .notExpected →
          s.mirror.link.together = true →
          Does (.driveReply (.ok bs)) s s.steady fun u => u.drive.flight = none
            ∧ u.entry k = some { e with state := .waitMirror } ∧ u.copyState k = some (.waiting s.tick)
            ∧ u.mirror.dirty = s.mirror.dirty))
      ∧ ∀ (n : Station) (x : Extent), e.kind = .replica → s.partner = some n → e.extent = some x →
        (∀ bs, s.mirror.link = .following →
          Does (.driveReply (.ok bs)) s s.steady fun u =>
            u.entry k = some { e with state := .ending }
            ∧ u.mirror.out = s.mirror.out ++ [.mirrorAck n k x.start 0 true])
        ∧ (∀ bs, s.mirror.link ≠ .following →
          Does (.driveReply (.ok bs)) s s.steady fun u =>
            u.entry k = some { e with state := .ending }
            ∧ u.mirror.out = s.mirror.out ++ [.mirrorMiss n k x.start x.count 0 true]
            ∧ (s.mirror.role = .secondary → u.mirror.behind = true))
        ∧ ∀ b bs, Does (.driveReply (.mediaError b bs)) s s.steady fun u =>
            u.entry k = some { e with state := .ending }
            ∧ u.mirror.out = s.mirror.out ++ [.mirrorMiss n k x.start x.count 0 true]
            ∧ (s.mirror.role = .secondary → u.mirror.behind = true)

/-! ## The mirror record -/

/-- The record: what a load makes the image, what a record write's reply brings into force, with R156's table where the
partner is LISTENING, and a promotion. A record that becomes CLOSED is called for again by a write-like entry in QUEUED (log
14) and by a mark that its write does not carry (log 50): DEDUCED. The epoch after a promotion is the greater of the written
one and the one held, where R159 says e + 1 (DESIGN CHOICE, log 21), and the lower of two SECONDARY stations at one epoch
becomes PRIMARY with its behind flag clear (DEDUCED, log 48). -/
def Obligations.RecordRepliesSetTheImage : Prop :=
  (∀ (s : State) (f : Flight) (c : Settings) (r : LaneReply), s.resetAsserted = false → s.drive.flight = some f →
      f.requester = .recordLoad → s.settings = some c →
      let size := (s.drive.usable.toNat + 255) / 256
      let readable : RecordFields → Prop := fun g =>
        g.partner = c.partner ∧ g.regionSize = size ∧ (g.role = .single ↔ c.mode = .single)
      (∀ b g, r = .ok [b] → b.length = 512 → parseRecord b = some g → readable g →
        Does (.recordLoadReply r) s
          { s.steady with
            image := some { g with
              dirty := if g.role = .primary then (if g.clean then g.dirty else BitVec.allOnes 256) else 0 } }
          fun u => u.mirror.cond = .opening ∧ u.mirror.calls.opening = true ∧ u.mirror.blockStore = b
            ∧ (u.mirror.notedBehind = true ↔ g.role = .secondary) ∧ u.drive.flight = none)
      ∧ ((∃ n bs, r = .mediaError n bs) ∨ (∃ b, r = .ok [b] ∧ b.length = 512
          ∧ ∀ g, parseRecord b = some g → ¬ readable g) →
        Does (.recordLoadReply r) s
          { s.steady with
            image := some
              { role := c.mode, epoch := 1, partner := c.partner, regionSize := size, clean := false
                dirty := if c.mode = .primary ∧ c.freshPair = false then BitVec.allOnes 256 else 0 } }
          fun u => u.mirror.cond = .opening ∧ u.mirror.calls.opening = true
            ∧ (u.mirror.notedBehind = true ↔ c.mode = .secondary) ∧ u.drive.flight = none))
  ∧ (∀ (s : State) (cmd : LaneCmd) (g : RecordFields) (q : RecordCalls) (t : Tick), s.resetAsserted = false →
      s.drive.flight = some { cmd := cmd, requester := .recordWrite g q, start := t } →
      let next : Option Flight :=
        if s.drive.state = .spinDown then some { cmd := .sync, requester := .port, start := s.tick } else none
      (∀ bs, s.mirror.cond ≠ .opening →
        Does (.recordWriteReply (.ok bs)) s { s.steady with image := some g } fun u =>
          u.mirror.cond = (if g.clean then .closed else .opened) ∧ u.drive.flight = next
          ∧ (u.mirror.calls.mark = true ↔ s.mirror.calls.mark = true
              ∨ g.clean = true ∧ ∃ r : Fin 256, s.mirror.dirty.getLsbD r = true ∧ g.dirty.getLsbD r = false)
          ∧ (u.mirror.calls.writeQueued = true ↔ s.mirror.calls.writeQueued = true
              ∨ g.clean = true ∧ ∃ e ∈ s.request.queue, e.state = .queued ∧ e.kind.writeLike = true))
      ∧ (∀ n bs, s.mirror.cond ≠ .opening →
        Does (.recordWriteReply (.mediaError n bs)) s { s.steady with counters := s.counted 8 } fun u =>
          u.mirror.cond = .opened ∧ u.drive.flight = next)
      ∧ ∀ (i : RecordFields) (bs : List (List Byte)), s.mirror.cond = .opening → s.mirror.image = some i →
        s.mirror.link = .unloaded →
        let mine : Role × Nat := (i.role, i.epoch)
        let heard : Option (Role × Nat × Bool) :=
          s.partner.bind fun n =>
            let p := s.presence n
            if p.state = .listening then some (p.role, p.epoch, decide (s.station < n)) else none
        let now : Role × Nat := match heard with | some (r, f, l) => settledRole l mine (r, f) | none => mine
        let map : BitVec 256 := match heard with | some (r, f, _) => settledMap mine (r, f) now i.dirty | none => i.dirty
        let opens : Steady := { s.steady with
          role := now.1, epoch := now.2, regionSize := i.regionSize
          wakeInterval := if mine.1 = .primary ∧ now.1 ≠ .primary then none else s.mirror.wakeInterval }
        (∀ n, s.partner = some n → n ≠ s.station) →
        (Does (.recordWriteReply (.ok bs)) s { opens with image := some g } fun u =>
          u.mirror.cond = (if g.clean then .closed else .opened) ∧ u.mirror.dirty = map
          ∧ u.mirror.behind = settledBehind mine now s.mirror.notedBehind ∧ u.drive.flight = next)
        ∧ ∀ n, Does (.recordWriteReply (.mediaError n bs)) s { opens with counters := s.counted 8 } fun u =>
          u.mirror.cond = .opened ∧ u.mirror.dirty = map
          ∧ u.mirror.behind = settledBehind mine now s.mirror.notedBehind ∧ u.drive.flight = next)
  ∧ ∀ (s : State) (cmd : LaneCmd) (g : RecordFields) (t : Tick) (m : Promotion) (e : Entry),
      s.resetAsserted = false → s.drive.flight = some { cmd := cmd, requester := .promotionWrite g, start := t } →
      s.mirror.promotion = some m → s.entry m.key = some e →
      (∀ bs,
        Does (.promotionWriteReply (.ok bs)) s
          { s.steady with role := .primary, epoch := max g.epoch s.mirror.epoch, image := some g } fun u =>
          u.mirror.cond = .opened ∧ u.mirror.dirty = 0 ∧ u.mirror.behind = false ∧ u.mirror.promotion = none
          ∧ u.entry m.key = some { e with state := .ending, status := some .ok, send := none })
      ∧ ∀ n bs,
        Does (.promotionWriteReply (.mediaError n bs)) s { s.steady with counters := s.counted 8 } fun u =>
          u.mirror.promotion = none ∧ u.mirror.behind = s.mirror.behind
          ∧ u.entry m.key = some { e with state := .ending, status := some .media, send := none }

/-! ## Resync -/

/-- The resync engine's own events: its start, the outcomes of its messages, its pages, its chunk read, its retries and its
reply wait. Its pages are the lowest free ones (log 9), taken also while a stopped resync's read still holds its own (log 49),
RESYNC-BEGIN and RESYNC-END join the back of the list (log 25), a message made ready again keeps its tag (log 37) and carries
the epoch then in force (log 38), a rejoin's RESYNC-END waits for no other one (log 39), and taken or unanswered it leaves the
engine as it is (log 34), the blocks of a reply are as many as fit (log 29), and before their time these commands do nothing
(logs 2 and 3): DESIGN CHOICEs. An UNSET or SLEEPING station counts no SPOILED send (DEDUCED, log 42). -/
def Obligations.ResyncProceeds : Prop :=
  (∀ (b s : State) (p : Station), s.takesPart = true → s.partner = some p →
    let t := settle b s
    (t.mirror.role = .primary → t.mirror.link = .resyncing → t.engine.holdOff = none → t.drive.state ≠ .fault →
      t.drive.state ≠ .spinDown → t.engine.state ≠ .idle)
    ∧ (s.engine.state = .idle → t.engine.state ≠ .idle →
      let m : OutMsg := .resyncBegin p t.engine.tagCounter t.mirror.epoch
      t.engine.state = .beginning ∧ t.engine.tagCounter = s.engine.tagCounter + 1
        ∧ (m ∈ t.mirror.out ∨ t.slot .mirror = some m)))
  ∧ (∀ (s : State) (x : Sending), s.resetAsserted = false → s.bus.sending = some x → x.won = true →
    let done : Steady := { s.steady with line := none }
    let fell : Steady := { done with counters := s.sent 2 }
    let stops : Prop := s.engine.state ≠ .idle →
      Does (.sendOutcome false false) s { done with resyncHoldOff := some (s.tick + 500#32) } fun u =>
        u.engine.state = .idle ∧ u.engine.chunk = none ∧ u.engine.outstanding = none ∧ u.engine.replyWait = none
    let waits : Prop := Does (.sendOutcome false true) s done fun u =>
      u.engine = { s.engine with retry := some s.tick } ∧ u.mirror = s.mirror
    (x.withdrawal = .notAsked →
      (∀ (d : Station) (tag : Tag) (ep : Nat), x.msg = .resyncBegin d tag ep →
        (∀ b, Does (.sendOutcome true b) s done fun u => u.mirror = s.mirror
          ∧ u.engine = { s.engine with state := .beginWait, outstanding := some tag, replyWait := some s.tick })
        ∧ waits ∧ stops
        ∧ ∀ p, s.partner = some p →
          Does .sendSpoiled s fell fun u => u.mirror.out = s.mirror.out ++ [.resyncBegin p tag s.mirror.epoch])
      ∧ (∀ (d : Station) (ep : Nat), x.msg = .resyncEnd d ep false →
        (∀ b, Does (.sendOutcome true b) s done fun u => u.engine = { s.engine with state := .idle }
          ∧ u.mirror = { s.mirror with calls := { s.mirror.calls with clean := true } })
        ∧ waits
        ∧ (Does (.sendOutcome false false) s done fun u =>
            u.engine = { s.engine with state := .idle } ∧ u.mirror = s.mirror)
        ∧ ∀ p, s.partner = some p →
          Does .sendSpoiled s fell fun u => u.mirror.out = s.mirror.out ++ [.resyncEnd p s.mirror.epoch false])
      ∧ (∀ (d : Station) (ep : Nat), x.msg = .resyncEnd d ep true →
        (∀ b, Does (.sendOutcome true b) s done fun u => u.engine = s.engine ∧ u.mirror = s.mirror)
        ∧ (Does (.sendOutcome false true) s done fun u =>
            u.engine = s.engine ∧ u.mirror = { s.mirror with rejoinRetry := some s.tick })
        ∧ (Does (.sendOutcome false false) s done fun u => u.engine = s.engine ∧ u.mirror = s.mirror)
        ∧ ∀ p, s.partner = some p →
          Does .sendSpoiled s fell fun u => u.mirror.out = s.mirror.out ++ [.resyncEnd p s.mirror.epoch true])
      ∧ (∀ (d : Station) (tag : Tag) (st : BlockNo) (n : Nat) (c : Chunk), x.msg = .resyncWrite d tag st n →
        s.engine.chunk = some c →
        (∀ b, Does (.sendOutcome true b) s done fun u => u.engine =
          { s.engine with
            outstanding := some s.engine.tagCounter, chunk := some { c with sendPos := some 0 }, ready := true })
        ∧ waits ∧ stops ∧ Does .sendSpoiled s fell fun u => u.engine = { s.engine with ready := true })
      ∧ ∀ (d : Station) (tag : Tag) (i : Nat) (bs : List Byte) (c : Chunk), x.msg = .data d tag i true bs →
        s.engine.chunk = some c →
        (i + 1 < c.count → ∀ b, Does (.sendOutcome true b) s done fun u => u.engine =
          { s.engine with chunk := some { c with sendPos := some (i + 1) }, ready := true })
        ∧ (c.count ≤ i + 1 → ∀ b, Does (.sendOutcome true b) s done fun u => u.engine =
          { s.engine with chunk := some { c with step := .reply }, replyWait := some s.tick })
        ∧ waits ∧ stops ∧ Does .sendSpoiled s fell fun u => u.engine = { s.engine with ready := true })
    ∧ (x.withdrawal ≠ .notAsked → isEngineMirror x.msg = true ∨ isEngineResync x.msg = true →
      (∀ a b, Does (.sendOutcome a b) s done fun u => u.engine = s.engine ∧ u.mirror = s.mirror)
      ∧ Does .sendSpoiled s fell fun u => u.engine = s.engine ∧ u.mirror = s.mirror))
  ∧ (∀ (s : State) (c : Chunk), s.resetAsserted = false → s.engine.chunk = some c →
      (c.step = .waitPages → s.drive.state = .ready → c.count ≤ s.freePages.length →
        Does .chunkPagesTaken s s.steady fun u =>
          u.engine.chunk = some { c with step := .read, pages := s.freePages.take c.count })
      ∧ (c.step ≠ .waitPages ∨ s.drive.state ≠ .ready ∨ s.freePages.length < c.count → Idles .chunkPagesTaken s)
      ∧ ∀ (cmd : LaneCmd) (t : Tick), s.drive.flight = some { cmd := cmd, requester := .chunk, start := t } →
        (∀ bs,
          Does (.chunkReadReply (.ok bs)) s { s.steady with buffer := writePages s.buffer c.pages bs } fun u =>
            u.engine.chunk = some { c with step := .send, sendPos := none } ∧ u.engine.ready = true
            ∧ u.engine.tagCounter = s.engine.tagCounter + 1 ∧ u.drive.flight = none)
        ∧ ∀ (n : BlockNo) (bs : List (List Byte)) (r : Fin 256), s.engine.region = some r →
          let stop := min ((r.val + 1) * s.mirror.regionSize) s.drive.usable.toNat
          c.start + c.count < stop →
          Does (.chunkReadReply (.mediaError n bs)) s
              { s.steady with buffer := writePages s.buffer c.pages (bs.take (n.toNat - c.start)) } fun u =>
            u.drive.flight = none ∧ u.engine.chunk =
              some { start := c.start + c.count, count := min 64 (stop - (c.start + c.count)), step := .waitPages
                     pages := [], sendPos := none })
  ∧ (∀ (s : State) (st n : BlockNo) (c : Nat) (t : Tick) (bs : List (List Byte)), s.resetAsserted = false →
      s.drive.flight = some { cmd := .read st c, requester := .stoppedChunk, start := t } →
      let ends : State → Prop := fun u => u.engine.orphans = [] ∧ u.drive.flight = none
      Does (.chunkReadReply (.ok bs)) s { s.steady with buffer := writePages s.buffer s.engine.orphans bs } ends
      ∧ Does (.chunkReadReply (.mediaError n bs)) s
          { s.steady with buffer := writePages s.buffer s.engine.orphans (bs.take (n.toNat - st.toNat)) } ends)
  ∧ (∀ (s : State) (n : Station) (t : Tick), s.resetAsserted = false → s.partner = some n →
      (s.engine.retry = some t → 10 ≤ (s.tick - t).toNat → s.mirror.rejoinRetry = none →
        (s.engine.state = .beginning →
          Does .resyncRetryWaitEnd s s.steady fun u => u.engine.retry = none
            ∧ u.mirror.out = s.mirror.out ++ [.resyncBegin n s.engine.tagCounter s.mirror.epoch])
        ∧ (s.engine.state = .ending →
          Does .resyncRetryWaitEnd s s.steady fun u => u.engine.retry = none
            ∧ u.mirror.out = s.mirror.out ++ [.resyncEnd n s.mirror.epoch false])
        ∧ (s.engine.state = .copying →
          Does .resyncRetryWaitEnd s s.steady fun u => u.engine.retry = none ∧ u.engine.ready = true))
      ∧ (s.engine.retry = none → s.mirror.rejoinRetry = some t → 10 ≤ (s.tick - t).toNat →
        Does .resyncRetryWaitEnd s s.steady fun u => u.mirror.rejoinRetry = none
          ∧ u.mirror.out =
            if s.mirror.out.any isResyncEnd || s.slotHolds .mirror isResyncEnd then s.mirror.out
            else s.mirror.out ++ [.resyncEnd n s.mirror.epoch true])
      ∧ ((∀ t, s.engine.retry = some t → (s.tick - t).toNat < 10) →
        (∀ t, s.mirror.rejoinRetry = some t → (s.tick - t).toNat < 10) → Idles .resyncRetryWaitEnd s))
  ∧ ∀ (s : State) (t : Tick), s.resetAsserted = false → s.engine.replyWait = some t →
      (7000 ≤ (s.tick - t).toNat → s.engine.state ≠ .idle →
        Does .replyWaitExpiry s { s.steady with resyncHoldOff := some (s.tick + 500#32) } fun u =>
          u.engine.state = .idle ∧ u.engine.chunk = none ∧ u.engine.outstanding = none ∧ u.engine.replyWait = none)
      ∧ ((s.tick - t).toNat < 7000 → Idles .replyWaitExpiry s)

/-! ## Supply -/

/-- A conversion: a current channel at ×4 that reads 1020 or more is read again at ×1; otherwise the channel's record is
written and the next channel's turn comes; the drive temperature moves HOT with its hysteresis. HOT gives up a deferral and
stops a READY drive, once its command in flight has ended, even when HOT has cleared by then (DEDUCED, log 43). -/
def Obligations.ConversionsFillTheRecords : Prop :=
  (∀ b s : State, s.takesPart = true →
    let t := settle b s
    (s.supply.hot = true → s.drive.state = .off → t.drive.state = .off ∧ t.drive.deferral = none)
    ∧ (s.supply.hot = true ∨ s.drive.hotStop = true → s.drive.state = .ready → s.drive.flight = none →
      t.drive.state = .spinDown)
    ∧ (s.supply.hot = true → s.drive.state = .ready → s.drive.flight ≠ none →
      t.drive.state = .ready ∧ t.drive.hotStop = true
        ∧ t.drive.flight.map (fun f => f.cmd) = s.drive.flight.map (fun f => f.cmd))
    ∧ (s.supply.hot = true → s.drive.state = .spinUp ∨ s.drive.state = .spinDown ∨ s.drive.state = .fault →
      t.drive.state = s.drive.state))
  ∧ ∀ (s : State) (r : BitVec 10), s.resetAsserted = false →
    let v := r.toNat
    let ch := s.supply.channel
    let hot : Bool :=
      match s.settings with
      | some c =>
        if ch = 2 then
          (if 200 + 4 * c.tempLimit < v then true else if v < 180 + 4 * c.tempLimit then false else s.supply.hot)
        else s.supply.hot
      | none => s.supply.hot
    let drive : Bool → Option (DriveState × Option Tick × Tick) := fun h =>
      if h || s.drive.hotStop then none else some (s.drive.state, s.drive.deferral, s.drive.offSince)
    (ch.val < 2 → s.supply.gain = .x4 → 1020 ≤ v →
      Leaves (.conversionDone r) s { s.steady with supply := { s.supply with gain := .x1 } })
    ∧ (¬ (ch.val < 2 ∧ s.supply.gain = .x4 ∧ 1020 ≤ v) →
      Leaves (.conversionDone r) s
        { s.steady with
          coldDrive := drive hot
          supply :=
            { channel := ch + 1, gain := .x4, hot := hot, trips := s.supply.trips
              records := s.supply.records.set ch
                { value := v, gain := s.supply.gain
                  overFlag := if ch.val < 2 ∧ s.supply.gain = .x4 then false else decide (v = 1023)
                  sequence := s.supply.records[ch].sequence + 1, valid := true } } })

/-- The trip comparator: armed and with no switch hold, a current that goes over the threshold of the level in force counts,
or trips at once at filter width 0, and so does one that is at (n + 1) × 32 mA or more when the hold ends (at it too: DEDUCED,
log 44); a filtered excursion ends the count; a trip removes power, counts and is FAULT OVERCURRENT. TRIP acts at any time
while the count runs (log 11), does nothing without a count, as a second COMPARATOR_OVER does (log 3), and without settings
there is no threshold (log 22): DESIGN CHOICEs. Every entry with drive work outstanding ends DRIVE_FAULT, a REPLICA with a
miss and without a status (DEDUCED, log 35); a PRIMARY's WRITEs among them mark their extents, and their copy items go. -/
def Obligations.ComparatorTripsTheDrive : Prop :=
  ∀ (s : State) (i : Nat), s.resetAsserted = false → s.drive.state ≠ .fault →
    let level : Option Nat :=
      s.settings.bind fun c => s.comp.level.map fun l => match l with | .spinUp => c.spinTrip | .run => c.runTrip
    let isOver : Prop := ∃ n, level = some n ∧ (n + 1) * 32 ≤ i
    let width : Nat := match s.settings with | some c => c.filterWidth | none => 0
    let trip : Steady :=
      { s.faulted .overcurrent with
        counters := s.counted 4
        supply := { s.supply with trips := if s.supply.trips < 65535 then s.supply.trips + 1 else s.supply.trips } }
    let acts : Prop := s.comp.level ≠ none ∧ s.comp.hold = false
    (acts → s.comp.counting = false → level ≠ none → width ≠ 0 →
      Leaves .comparatorOver s { s.steady with comp := { s.comp with counting := true } })
    ∧ (acts → s.comp.counting = false → level ≠ none → width = 0 → Leaves .comparatorOver s trip)
    ∧ (¬ acts ∨ s.comp.counting = true ∨ level = none → Idles .comparatorOver s)
    ∧ Leaves .excursionFiltered s { s.steady with comp := { s.comp with counting := false } }
    ∧ (s.comp.level ≠ none → s.comp.hold = true →
      (¬ isOver → Leaves (.switchHoldEnd i) s { s.steady with comp := { s.comp with hold := false } })
      ∧ (isOver → width ≠ 0 →
        Leaves (.switchHoldEnd i) s { s.steady with comp := { s.comp with hold := false, counting := true } })
      ∧ (isOver → width = 0 → Leaves (.switchHoldEnd i) s trip))
    ∧ (s.comp.level = none ∨ s.comp.hold = false → Idles (.switchHoldEnd i) s)
    ∧ (acts → s.comp.counting = true →
      Does .trip s trip fun u => u.drive.flight = none ∧ u.engine.state = .idle ∧ u.mirror.promotion = none
        ∧ (QueueSound s →
            let ended : List Entry := s.request.queue.filter (·.outstanding)
            u.mirror.dirty = s.mapAfter ended
            ∧ (∀ e ∈ ended, e.kind ≠ .replica →
                u.entry e.key = some { e with state := .ending, status := some .driveFault, send := none })
            ∧ (∀ e ∈ ended, e.kind = .write → u.copyState e.key = none)
            ∧ (∀ e ∈ s.request.queue, e.outstanding = false → u.entry e.key = some e)
            ∧ ∀ n, s.partner = some n → ∀ e ∈ ended, e.kind = .replica → ∀ x, e.extent = some x →
                u.entry e.key = some { e with state := .ending }
                ∧ .mirrorMiss n e.key x.start x.count 0 true ∈ u.mirror.out
                ∧ (s.mirror.role = .secondary → u.mirror.behind = true)))
    ∧ (¬ acts ∨ s.comp.counting = false → Idles .trip s)

/-! ## Timers of entries -/

/-- The timers of a queue entry: data timeout, age limit, copy wait. Before their time or in another state these commands do
nothing (DESIGN CHOICE, logs 2 and 3). A REPLICA that ends moves to ENDING without a status (DEDUCED, log 35). A PRIMARY's WRITE
that ends NO_POWER marks its extent, one that ends DATA_TIMEOUT does not, and the copy item of a WRITE goes with its end. -/
def Obligations.EntryTimersEndTheEntry : Prop :=
  ∀ (s : State) (k : Key) (e : Entry), s.resetAsserted = false → s.entry k = some e →
    let ends : Status → BitVec 256 → State → Prop := fun st map u =>
      u.entry k = some { e with state := .ending, status := some st, send := none }
      ∧ u.request.out = s.request.out ++ [.entryDone k] ∧ u.mirror.dirty = map
      ∧ (e.kind = .write → u.copyState k = none)
    let missed : Station → Extent → State → Prop := fun n x u =>
      u.entry k = some { e with state := .ending }
      ∧ u.mirror.out = s.mirror.out ++ [.mirrorMiss n k x.start x.count 0 true]
      ∧ (s.mirror.role = .secondary → u.mirror.behind = true)
    (∀ t, e.state = .dataIn → e.lastPiece = some t →
      (200 ≤ (s.tick - t).toNat → e.kind ≠ .replica →
        Does (.dataTimeout k) s s.steady (ends .dataTimeout s.mirror.dirty))
      ∧ (∀ n x, 200 ≤ (s.tick - t).toNat → e.kind = .replica → s.partner = some n → e.extent = some x →
        Does (.dataTimeout k) s s.steady (missed n x))
      ∧ ((s.tick - t).toNat < 200 → Idles (.dataTimeout k) s))
    ∧ (e.state ≠ .dataIn → Idles (.dataTimeout k) s)
    ∧ (∀ t, e.state = .queued → e.queued = some t →
      (6000 ≤ (s.tick - t).toNat → s.drive.state ≠ .ready → e.kind ≠ .replica →
        Does (.ageLimit k) s s.steady (ends .noPower (s.mapAfter [e])))
      ∧ (∀ n x, 6000 ≤ (s.tick - t).toNat → s.drive.state ≠ .ready → e.kind = .replica → s.partner = some n →
        e.extent = some x → Does (.ageLimit k) s s.steady (missed n x))
      ∧ ((s.tick - t).toNat < 6000 ∨ s.drive.state = .ready → Idles (.ageLimit k) s))
    ∧ (e.state ≠ .queued → Idles (.ageLimit k) s)
    ∧ (∀ t x, e.state = .waitMirror → s.copyState k = some (.waiting t) → e.extent = some x →
      (2000 ≤ (s.tick - t).toNat → s.mirror.role = .primary →
        Does (.mirrorWaitTimeout k) s s.steady (ends .okDegraded (s.mirror.dirty ||| s.regions x)))
      ∧ ((s.tick - t).toNat < 2000 → Idles (.mirrorWaitTimeout k) s))
    ∧ (e.state ≠ .waitMirror → Idles (.mirrorWaitTimeout k) s)

/-! ## Watch duty and sleep -/

/-- The holder's timers: the term, the pass check and its target, the absence test, the repeated WAKE. Before their time they
do nothing (DESIGN CHOICE, log 2), and a pass check is due for half the count's range after its tick (DEDUCED, log 18). -/
def Obligations.HolderTimers : Prop :=
  ∀ s : State, s.resetAsserted = false → s.duty = true →
    (∀ (t : BitVec 32) (c : Settings), s.watch.term = some t → s.settings = some c →
      (c.watchTerm * 3600 ≤ (s.seconds - t).toNat →
        Does .termTimerExpiry s s.steady fun u => u.watch.term = none ∧ u.watch.passCheck = some s.tick)
      ∧ ((s.seconds - t).toNat < c.watchTerm * 3600 → Idles .termTimerExpiry s))
    ∧ (∀ t : Tick, s.watch.passCheck = some t →
      let bay : Station → Prop := fun n => s.peers[n].state = .listening ∧ s.peers[n].kind = .bay
      ((s.tick - t).toNat < 2147483648 → s.watch.proxy = [] → s.watchPending isWatchPass = false →
        (∀ i : Nat, i < 15 → bay (s.station + Fin.ofNat 16 (i + 1)) →
          (∀ j : Nat, j < i → ¬ bay (s.station + Fin.ofNat 16 (j + 1))) →
          Does .passCheck s s.steady fun u => u.watch.passCheck = some (t + 6000#32)
            ∧ u.watch.out = s.watch.out ++ [.watchPass (s.station + Fin.ofNat 16 (i + 1))])
        ∧ ((∀ i : Nat, i < 15 → ¬ bay (s.station + Fin.ofNat 16 (i + 1))) →
          Does .passCheck s s.steady fun u =>
            u.watch.passCheck = some (t + 6000#32) ∧ u.watch.out = s.watch.out))
      ∧ ((s.tick - t).toNat < 2147483648 → s.watch.proxy ≠ [] →
        Does .passCheck s s.steady fun u =>
          u.watch.passCheck = some (t + 6000#32) ∧ u.watch.out = s.watch.out)
      ∧ (2147483648 ≤ (s.tick - t).toNat → Idles .passCheck s))
    ∧ (∀ gone : Station → Bool,
      (∀ n : Station, gone n = true ↔ n ≠ s.station ∧ s.peers[n].state = .listening
          ∧ 1200 ≤ (s.tick - s.peers[n].lastHeard).toNat ∧ s.watch.marks[n].absenceHold = none
          ∧ s.watchPending (isAbsentFor n) = false) →
      Does .absenceTest s s.steady fun u =>
        u.watch.out = s.watch.out ++ ((List.finRange 16).filter gone).map OutMsg.absent)
    ∧ ∀ n : Station,
      let calls : Prop := n ≠ s.station ∧ s.peers[n].state = .sleeping ∧ s.watch.marks[n].waking = none
        ∧ (s.watch.marks[n].wakeWanted = true ∨ ∃ e ∈ s.watch.proxy, e.target = n)
        ∧ s.watchPending (isWakeFor n) = false ∧ s.mirror.out.any (isWakeFor n) = false
        ∧ s.slotHolds .mirror (isWakeFor n) = false
        ∧ ∀ t, s.watch.marks[n].lastWake = some t → 100 ≤ (s.tick - t).toNat
      (calls →
        Does (.wakeRepeat n) s s.steady fun u => u.watch.out = s.watch.out ++ [.wake (1#16 <<< n.val) .proxy])
      ∧ (¬ calls → Idles (.wakeRepeat n) s)

/-- A proxy entry ends NOT_AWAKE 3000 ticks after its arrival, its FORWARD taken back from list or slot, or left to its outcome
on the line; a FORWARD that is TAKEN lets the next entry of its target go, one answered BUSY goes again after 10 ticks, a
SPOILED one at once, and one UNANSWERED returns to HELD. Before their time or in another state PROXY_TIMEOUT and FORWARD_RETRY
do nothing (DESIGN CHOICE, logs 2 and 3). An UNSET or SLEEPING station counts no SPOILED send (DEDUCED, log 42). -/
def Obligations.ProxyTimersRun : Prop :=
  (∀ (s : State) (x : Sending) (n : Station) (k : Key) (q : ProxyReq) (e : ProxyEntry), s.resetAsserted = false →
    s.bus.sending = some x → x.won = true → x.slot = .watch → x.msg = .forward n k q → s.proxyEntry n k = some e →
    let done : Steady := { s.steady with line := none }
    let fell : Steady := { done with counters := s.sent 2 }
    let rest : List ProxyEntry := s.watch.proxy.filter fun f => !(f.target == n && f.key == k)
    let goes : ProxyEntry → ProxyEntry := fun f => { f with state := .sending, expired := false, recalled := false }
    (∀ b,
      (∀ f, s.duty = true → s.watch.out.any (isForwardTo n) = false →
        (∀ g ∈ rest, g.target = n → g.state = .held) → rest.find? (fun g => g.target == n) = some f →
        Does (.sendOutcome true b) s done fun u => u.proxyEntry n k = none ∧ u.proxyEntry n f.key = some (goes f)
          ∧ u.watch.out = s.watch.out ++ [.forward n f.key f.req])
      ∧ ((∀ g ∈ rest, g.target ≠ n) →
        Does (.sendOutcome true b) s done fun u => u.watch.proxy = rest ∧ u.watch.out = s.watch.out))
    ∧ (e.expired = false → e.recalled = false →
      (Does (.sendOutcome false true) s done fun u =>
        u.proxyEntry n k = some { e with state := .retry s.tick } ∧ u.watch.out = s.watch.out)
      ∧ (Does (.sendOutcome false false) s done fun u =>
        u.proxyEntry n k = some { e with state := .held } ∧ u.watch.out = s.watch.out)
      ∧ Does .sendSpoiled s fell fun u =>
        u.proxyEntry n k = some (goes e) ∧ u.watch.out = s.watch.out ++ [.forward n k e.req])
    ∧ (e.expired = true → ∀ b,
      Does (.sendOutcome false b) s done fun u => u.proxyEntry n k = none
        ∧ u.watch.out = s.watch.out ++ [.done k.origin k.tag .notAwake false none (some n)])
    ∧ (e.expired = false → e.recalled = true → ∀ b,
      Does (.sendOutcome false b) s done fun u =>
        u.proxyEntry n k = some { e with state := .held, recalled := false } ∧ u.watch.out = s.watch.out))
  ∧ ∀ (s : State) (n : Station) (k : Key) (e : ProxyEntry), s.resetAsserted = false → s.proxyEntry n k = some e →
    (3000 ≤ (s.tick - e.arrival).toNat → e.state ≠ .sending →
      Does (.proxyTimeout n k) s s.steady fun u => u.proxyEntry n k = none
        ∧ u.watch.out = s.watch.out ++ [.done k.origin k.tag .notAwake false none (some n)])
    ∧ (3000 ≤ (s.tick - e.arrival).toNat → e.state = .sending → OutMsg.forward n k e.req ∈ s.watch.out →
      Does (.proxyTimeout n k) s s.steady fun u => u.proxyEntry n k = none
        ∧ u.watch.out = (s.watch.out.filter fun m => !isForwardOf n k m)
            ++ [.done k.origin k.tag .notAwake false none (some n)])
    ∧ (∀ q, 3000 ≤ (s.tick - e.arrival).toNat → e.state = .sending → s.watch.out.any (isForwardOf n k) = false →
      s.slot .watch = some (.forward n k q) →
      (s.onLine .watch = false →
        Does (.proxyTimeout n k) s s.steady fun u => u.slot .watch = none ∧ u.proxyEntry n k = none
          ∧ u.watch.out = s.watch.out ++ [.done k.origin k.tag .notAwake false none (some n)])
      ∧ (s.onLine .watch = true →
        Does (.proxyTimeout n k) s s.steady fun u => u.slot .watch = s.slot .watch ∧ u.watch.out = s.watch.out
          ∧ u.proxyEntry n k = some { e with expired := true }))
    ∧ ((s.tick - e.arrival).toNat < 3000 → Idles (.proxyTimeout n k) s)
    ∧ (∀ t, e.state = .retry t → 10 ≤ (s.tick - t).toNat →
      Does (.forwardRetry n k) s s.steady fun u =>
        u.proxyEntry n k = some { e with state := .sending, expired := false, recalled := false }
        ∧ u.watch.out = s.watch.out ++ [.forward n k e.req])
    ∧ (∀ t, e.state = .retry t → (s.tick - t).toNat < 10 → Idles (.forwardRetry n k) s)
    ∧ (e.state = .held ∨ e.state = .sending → Idles (.forwardRetry n k) s)

/-- ASLEEP is placed when every sleep condition holds and taken back when one ends; a WATCH-TAKE is made ready when no
station answers as the watch station. -/
def Obligations.SleepAndTakeTests : Prop :=
  (∀ (s : State) (c : Settings), s.resetAsserted = false → s.power = .listening → s.settings = some c →
      c.sleepDelay ≠ 0 → c.sleepDelay * 100 ≤ (s.tick - s.watch.listeningSince).toNat → s.drive.state = .off →
      s.drive.deferral = none → c.sleepDelay * 100 ≤ (s.tick - s.drive.offSince).toNat → s.drive.need = false →
      s.request.queue = [] → s.request.out = [] → s.claim.state = .none → s.engine.state = .idle →
      s.duty = false → s.takeTest = false → s.slot .request = none → s.slot .mirror = none → s.slot .resync = none →
      s.slot .watch = none → s.mirror.out = [] → s.watch.out = [] → s.watch.sleepRetry = none →
      Does .asleepPlaced s s.steady fun u => u.slot .watch = some .asleep)
  ∧ (∀ (s : State) (c : Settings), s.resetAsserted = false → s.settings = some c → s.slot .watch = some .asleep →
      s.bus.sending = none →
      s.power ≠ .listening ∨ c.sleepDelay = 0 ∨ (s.tick - s.watch.listeningSince).toNat < c.sleepDelay * 100
        ∨ s.drive.state ≠ .off ∨ s.drive.deferral ≠ none ∨ (s.tick - s.drive.offSince).toNat < c.sleepDelay * 100
        ∨ s.drive.need = true ∨ s.request.queue ≠ [] ∨ s.request.out ≠ [] ∨ s.claim.state ≠ .none
        ∨ s.engine.state ≠ .idle ∨ s.duty = true ∨ s.takeTest = true ∨ s.slot .request ≠ none ∨ s.slot .mirror ≠ none
        ∨ s.slot .resync ≠ none ∨ s.mirror.out ≠ [] ∨ s.watch.out ≠ [] ∨ s.watch.sleepRetry ≠ none →
      Does .asleepPlaced s s.steady fun u => u.slot .watch = none)
  ∧ ∀ s : State, s.resetAsserted = false →
      let calls : Prop := s.power = .listening ∧ s.watch.takeHold = none ∧ s.shelf.watch ≠ some s.station
        ∧ ∀ n : Station, s.shelf.watch = some n →
            s.peers[n].state = .absent ∨ 1200 ≤ (s.tick - s.peers[n].lastHeard).toNat
      (calls → s.watchPending isWatchTake = false →
        Does .watchTakeTest s s.steady fun u => u.watch.out = s.watch.out ++ [.watchTake])
      ∧ (¬ calls → OutMsg.watchTake ∈ s.watch.out →
        Does .watchTakeTest s s.steady fun u => OutMsg.watchTake ∉ u.watch.out)

/-! ## Invariants that every step keeps -/

/-- Every step keeps the buffer in canonical form: the model's own form of the 131,072 bytes of R101, in which an unlisted
byte reads as 0 (DESIGN CHOICE, log 7). -/
def Obligations.EveryStepKeepsTheBufferCanonical : Prop :=
  ∀ s t : State, step s = .next t → BufferCanonical s → BufferCanonical t

/-- Every step keeps every counter at 65535 or less. -/
def Obligations.EveryStepKeepsCountersBounded : Prop :=
  ∀ s t : State, step s = .next t → CountersBounded s → CountersBounded t

/-- Every step keeps drive power and the trip level in force as the drive state has them. -/
def Obligations.EveryStepKeepsPowerWithTheDriveState : Prop :=
  ∀ s t : State, step s = .next t → PowerFollowsState s → PowerFollowsState t

/-- Every step keeps the holdings within the budget in force, and the waiters distinct and without holdings. -/
def Obligations.EveryStepKeepsTheShelfSound : Prop :=
  ∀ s t : State, step s = .next t → HoldingsBounded s → WaitersSound s → HoldingsBounded t ∧ WaitersSound t

/-- Every step keeps the request queue within its 16 entries of distinct names, and every page with one owner. -/
def Obligations.EveryStepKeepsTheQueueSound : Prop :=
  ∀ s t : State, step s = .next t → QueueSound s → PagesSound s → QueueSound t ∧ PagesSound t

/-- Every step keeps each slot and outgoing list to its owner's kinds, and the line's message in its slot. -/
def Obligations.EveryStepKeepsTheSlotsSound : Prop :=
  ∀ s t : State, step s = .next t → LineFromSlot s → SlotsHoldOwnKinds s → LineFromSlot t ∧ SlotsHoldOwnKinds t

/-! ## Encodings -/

/-- What a station writes, a station reads: AWAKE, TABLE and the other payloads, and the mirror record's block. -/
def Obligations.PayloadsReadBackAsWritten : Prop :=
  (∀ x : Announcement, x.epoch ≤ 65535 → (x.epoch = 0 ↔ x.role = .notLoaded) → 1 ≤ x.budget → x.budget ≤ 255 →
      x.holding ≤ 255 → x.bytes.length = 13 ∧ parseAwake x.bytes = some x)
  ∧ (∀ (x : TableBody) (o : Station), x.querier ≠ o → 1 ≤ x.budget → x.budget ≤ 255 → sumOf x.holdings ≤ x.budget →
      (∀ w ∈ x.waiters, 1 ≤ w.units ∧ w.units ≤ 255 ∧ x.holdings[w.station] = 0) →
      (x.waiters.map (·.station)).Nodup → parseTable o x.bytes = some x)
  ∧ (∀ (ann : Announcement) (tab : Station → TableBody) (d : Station),
      (∀ n, 1 ≤ n → n ≤ 255 → parseClaim ((OutMsg.claim n).payload ann tab) = some n)
      ∧ (∀ n w why, n ≤ 255 → parseRelease ((OutMsg.release n w why).payload ann tab) = some (n, w))
      ∧ (∀ m why, m ≠ 0 → parseWake ((OutMsg.wake m why).payload ann tab) = some m)
      ∧ (∀ n o, n ≠ o → parseAbsent o ((OutMsg.absent n).payload ann tab) = some n)
      ∧ (∀ t st cl via ob,
        parseDone ((OutMsg.done d t st cl via ob).payload ann tab) = some ⟨t, st, cl, via, ob⟩)
      ∧ (∀ t i r bs, i ≤ 63 → bs.length = 512 →
        parseData ((OutMsg.data d t i r bs).payload ann tab) = some ⟨t, i, r, bs⟩)
      ∧ (∀ k st n e, parseMirrorAck ((OutMsg.mirrorAck d k st n e).payload ann tab) = some (k, st))
      ∧ (∀ k st c n e, 1 ≤ c → c ≤ 64 →
        parseMirrorMiss ((OutMsg.mirrorMiss d k st c n e).payload ann tab) = some (k, ⟨st, c⟩))
      ∧ (∀ t ep, 1 ≤ ep → ep ≤ 65535 →
        parseResyncBegin ((OutMsg.resyncBegin d t ep).payload ann tab) = some (t, ep))
      ∧ (∀ ep re, 1 ≤ ep → ep ≤ 65535 → parseResyncEnd ((OutMsg.resyncEnd d ep re).payload ann tab) = some ep)
      ∧ (∀ t st c, 1 ≤ c → c ≤ 64 →
        parseExtent ((OutMsg.resyncWrite d t st c).payload ann tab) = some (t, ⟨st, c⟩))
      ∧ (∀ k st c, k.origin ≠ d → 1 ≤ c → c ≤ 64 →
        parseForward d ((OutMsg.forward d k (.read st c)).payload ann tab) = some (k, .read st c))
      ∧ ∀ k i, k.origin ≠ d → i ≤ 4 →
        parseForward d ((OutMsg.forward d k (.probe i)).payload ann tab) = some (k, .probe i))
  ∧ ∀ f : RecordFields, f.role ≠ .notLoaded → 1 ≤ f.epoch → f.epoch ≤ 65535 → f.regionSize < 4294967296 →
      f.block.length = 512 ∧ parseRecord f.block = some f

/-- The line code: fill bits come out as they went in, no six equal levels stand in what is sent, and six equal levels
are refused. -/
def Obligations.LineCodeReadsBack : Prop :=
  (∀ bs, unfill (fill bs) = some bs)
  ∧ (∀ bs a b l, fill bs ≠ a ++ List.replicate 6 l ++ b)
  ∧ ∀ a b l, unfill (a ++ List.replicate 6 l ++ b) = none

end
end

