-- ==== Sys2Proof/Laws/State.lean ====
section
/-!
SUPPORT. One lemma for each field under each update of State: what the update changes and what it leaves.
-/

namespace Sys2Proof.Machine

variable (s : State)

/-! ### onBus -/

@[simp] theorem onBus_resetAsserted (f : BusPort → BusPort) : (s.onBus f).resetAsserted = s.resetAsserted := rfl
@[simp] theorem onBus_station (f : BusPort → BusPort) : (s.onBus f).station = s.station := rfl
@[simp] theorem onBus_power (f : BusPort → BusPort) : (s.onBus f).power = s.power := rfl
@[simp] theorem onBus_settingsResult (f : BusPort → BusPort) : (s.onBus f).settingsResult = s.settingsResult := rfl
@[simp] theorem onBus_settings (f : BusPort → BusPort) : (s.onBus f).settings = s.settings := rfl
@[simp] theorem onBus_tick (f : BusPort → BusPort) : (s.onBus f).tick = s.tick := rfl
@[simp] theorem onBus_seconds (f : BusPort → BusPort) : (s.onBus f).seconds = s.seconds := rfl
@[simp] theorem onBus_bus (f : BusPort → BusPort) : (s.onBus f).bus = f s.bus := rfl
@[simp] theorem onBus_peers (f : BusPort → BusPort) : (s.onBus f).peers = s.peers := rfl
@[simp] theorem onBus_announce (f : BusPort → BusPort) : (s.onBus f).announce = s.announce := rfl
@[simp] theorem onBus_shelf (f : BusPort → BusPort) : (s.onBus f).shelf = s.shelf := rfl
@[simp] theorem onBus_claim (f : BusPort → BusPort) : (s.onBus f).claim = s.claim := rfl
@[simp] theorem onBus_drive (f : BusPort → BusPort) : (s.onBus f).drive = s.drive := rfl
@[simp] theorem onBus_comp (f : BusPort → BusPort) : (s.onBus f).comp = s.comp := rfl
@[simp] theorem onBus_supply (f : BusPort → BusPort) : (s.onBus f).supply = s.supply := rfl
@[simp] theorem onBus_request (f : BusPort → BusPort) : (s.onBus f).request = s.request := rfl
@[simp] theorem onBus_mirror (f : BusPort → BusPort) : (s.onBus f).mirror = s.mirror := rfl
@[simp] theorem onBus_engine (f : BusPort → BusPort) : (s.onBus f).engine = s.engine := rfl
@[simp] theorem onBus_watch (f : BusPort → BusPort) : (s.onBus f).watch = s.watch := rfl
@[simp] theorem onBus_buffer (f : BusPort → BusPort) : (s.onBus f).buffer = s.buffer := rfl
@[simp] theorem onBus_pending (f : BusPort → BusPort) : (s.onBus f).pending = s.pending := rfl

/-! ### onPeers -/

@[simp] theorem onPeers_resetAsserted (f : Vector PresenceEntry 16 → Vector PresenceEntry 16) : (s.onPeers f).resetAsserted = s.resetAsserted := rfl
@[simp] theorem onPeers_station (f : Vector PresenceEntry 16 → Vector PresenceEntry 16) : (s.onPeers f).station = s.station := rfl
@[simp] theorem onPeers_power (f : Vector PresenceEntry 16 → Vector PresenceEntry 16) : (s.onPeers f).power = s.power := rfl
@[simp] theorem onPeers_settingsResult (f : Vector PresenceEntry 16 → Vector PresenceEntry 16) : (s.onPeers f).settingsResult = s.settingsResult := rfl
@[simp] theorem onPeers_settings (f : Vector PresenceEntry 16 → Vector PresenceEntry 16) : (s.onPeers f).settings = s.settings := rfl
@[simp] theorem onPeers_tick (f : Vector PresenceEntry 16 → Vector PresenceEntry 16) : (s.onPeers f).tick = s.tick := rfl
@[simp] theorem onPeers_seconds (f : Vector PresenceEntry 16 → Vector PresenceEntry 16) : (s.onPeers f).seconds = s.seconds := rfl
@[simp] theorem onPeers_bus (f : Vector PresenceEntry 16 → Vector PresenceEntry 16) : (s.onPeers f).bus = s.bus := rfl
@[simp] theorem onPeers_peers (f : Vector PresenceEntry 16 → Vector PresenceEntry 16) : (s.onPeers f).peers = f s.peers := rfl
@[simp] theorem onPeers_announce (f : Vector PresenceEntry 16 → Vector PresenceEntry 16) : (s.onPeers f).announce = s.announce := rfl
@[simp] theorem onPeers_shelf (f : Vector PresenceEntry 16 → Vector PresenceEntry 16) : (s.onPeers f).shelf = s.shelf := rfl
@[simp] theorem onPeers_claim (f : Vector PresenceEntry 16 → Vector PresenceEntry 16) : (s.onPeers f).claim = s.claim := rfl
@[simp] theorem onPeers_drive (f : Vector PresenceEntry 16 → Vector PresenceEntry 16) : (s.onPeers f).drive = s.drive := rfl
@[simp] theorem onPeers_comp (f : Vector PresenceEntry 16 → Vector PresenceEntry 16) : (s.onPeers f).comp = s.comp := rfl
@[simp] theorem onPeers_supply (f : Vector PresenceEntry 16 → Vector PresenceEntry 16) : (s.onPeers f).supply = s.supply := rfl
@[simp] theorem onPeers_request (f : Vector PresenceEntry 16 → Vector PresenceEntry 16) : (s.onPeers f).request = s.request := rfl
@[simp] theorem onPeers_mirror (f : Vector PresenceEntry 16 → Vector PresenceEntry 16) : (s.onPeers f).mirror = s.mirror := rfl
@[simp] theorem onPeers_engine (f : Vector PresenceEntry 16 → Vector PresenceEntry 16) : (s.onPeers f).engine = s.engine := rfl
@[simp] theorem onPeers_watch (f : Vector PresenceEntry 16 → Vector PresenceEntry 16) : (s.onPeers f).watch = s.watch := rfl
@[simp] theorem onPeers_buffer (f : Vector PresenceEntry 16 → Vector PresenceEntry 16) : (s.onPeers f).buffer = s.buffer := rfl
@[simp] theorem onPeers_pending (f : Vector PresenceEntry 16 → Vector PresenceEntry 16) : (s.onPeers f).pending = s.pending := rfl

/-! ### onAnnounce -/

@[simp] theorem onAnnounce_resetAsserted (f : Announcer → Announcer) : (s.onAnnounce f).resetAsserted = s.resetAsserted := rfl
@[simp] theorem onAnnounce_station (f : Announcer → Announcer) : (s.onAnnounce f).station = s.station := rfl
@[simp] theorem onAnnounce_power (f : Announcer → Announcer) : (s.onAnnounce f).power = s.power := rfl
@[simp] theorem onAnnounce_settingsResult (f : Announcer → Announcer) : (s.onAnnounce f).settingsResult = s.settingsResult := rfl
@[simp] theorem onAnnounce_settings (f : Announcer → Announcer) : (s.onAnnounce f).settings = s.settings := rfl
@[simp] theorem onAnnounce_tick (f : Announcer → Announcer) : (s.onAnnounce f).tick = s.tick := rfl
@[simp] theorem onAnnounce_seconds (f : Announcer → Announcer) : (s.onAnnounce f).seconds = s.seconds := rfl
@[simp] theorem onAnnounce_bus (f : Announcer → Announcer) : (s.onAnnounce f).bus = s.bus := rfl
@[simp] theorem onAnnounce_peers (f : Announcer → Announcer) : (s.onAnnounce f).peers = s.peers := rfl
@[simp] theorem onAnnounce_announce (f : Announcer → Announcer) : (s.onAnnounce f).announce = f s.announce := rfl
@[simp] theorem onAnnounce_shelf (f : Announcer → Announcer) : (s.onAnnounce f).shelf = s.shelf := rfl
@[simp] theorem onAnnounce_claim (f : Announcer → Announcer) : (s.onAnnounce f).claim = s.claim := rfl
@[simp] theorem onAnnounce_drive (f : Announcer → Announcer) : (s.onAnnounce f).drive = s.drive := rfl
@[simp] theorem onAnnounce_comp (f : Announcer → Announcer) : (s.onAnnounce f).comp = s.comp := rfl
@[simp] theorem onAnnounce_supply (f : Announcer → Announcer) : (s.onAnnounce f).supply = s.supply := rfl
@[simp] theorem onAnnounce_request (f : Announcer → Announcer) : (s.onAnnounce f).request = s.request := rfl
@[simp] theorem onAnnounce_mirror (f : Announcer → Announcer) : (s.onAnnounce f).mirror = s.mirror := rfl
@[simp] theorem onAnnounce_engine (f : Announcer → Announcer) : (s.onAnnounce f).engine = s.engine := rfl
@[simp] theorem onAnnounce_watch (f : Announcer → Announcer) : (s.onAnnounce f).watch = s.watch := rfl
@[simp] theorem onAnnounce_buffer (f : Announcer → Announcer) : (s.onAnnounce f).buffer = s.buffer := rfl
@[simp] theorem onAnnounce_pending (f : Announcer → Announcer) : (s.onAnnounce f).pending = s.pending := rfl

/-! ### onShelf -/

@[simp] theorem onShelf_resetAsserted (f : Shelf → Shelf) : (s.onShelf f).resetAsserted = s.resetAsserted := rfl
@[simp] theorem onShelf_station (f : Shelf → Shelf) : (s.onShelf f).station = s.station := rfl
@[simp] theorem onShelf_power (f : Shelf → Shelf) : (s.onShelf f).power = s.power := rfl
@[simp] theorem onShelf_settingsResult (f : Shelf → Shelf) : (s.onShelf f).settingsResult = s.settingsResult := rfl
@[simp] theorem onShelf_settings (f : Shelf → Shelf) : (s.onShelf f).settings = s.settings := rfl
@[simp] theorem onShelf_tick (f : Shelf → Shelf) : (s.onShelf f).tick = s.tick := rfl
@[simp] theorem onShelf_seconds (f : Shelf → Shelf) : (s.onShelf f).seconds = s.seconds := rfl
@[simp] theorem onShelf_bus (f : Shelf → Shelf) : (s.onShelf f).bus = s.bus := rfl
@[simp] theorem onShelf_peers (f : Shelf → Shelf) : (s.onShelf f).peers = s.peers := rfl
@[simp] theorem onShelf_announce (f : Shelf → Shelf) : (s.onShelf f).announce = s.announce := rfl
@[simp] theorem onShelf_shelf (f : Shelf → Shelf) : (s.onShelf f).shelf = f s.shelf := rfl
@[simp] theorem onShelf_claim (f : Shelf → Shelf) : (s.onShelf f).claim = s.claim := rfl
@[simp] theorem onShelf_drive (f : Shelf → Shelf) : (s.onShelf f).drive = s.drive := rfl
@[simp] theorem onShelf_comp (f : Shelf → Shelf) : (s.onShelf f).comp = s.comp := rfl
@[simp] theorem onShelf_supply (f : Shelf → Shelf) : (s.onShelf f).supply = s.supply := rfl
@[simp] theorem onShelf_request (f : Shelf → Shelf) : (s.onShelf f).request = s.request := rfl
@[simp] theorem onShelf_mirror (f : Shelf → Shelf) : (s.onShelf f).mirror = s.mirror := rfl
@[simp] theorem onShelf_engine (f : Shelf → Shelf) : (s.onShelf f).engine = s.engine := rfl
@[simp] theorem onShelf_watch (f : Shelf → Shelf) : (s.onShelf f).watch = s.watch := rfl
@[simp] theorem onShelf_buffer (f : Shelf → Shelf) : (s.onShelf f).buffer = s.buffer := rfl
@[simp] theorem onShelf_pending (f : Shelf → Shelf) : (s.onShelf f).pending = s.pending := rfl

/-! ### onClaim -/

@[simp] theorem onClaim_resetAsserted (f : ClaimUnit → ClaimUnit) : (s.onClaim f).resetAsserted = s.resetAsserted := rfl
@[simp] theorem onClaim_station (f : ClaimUnit → ClaimUnit) : (s.onClaim f).station = s.station := rfl
@[simp] theorem onClaim_power (f : ClaimUnit → ClaimUnit) : (s.onClaim f).power = s.power := rfl
@[simp] theorem onClaim_settingsResult (f : ClaimUnit → ClaimUnit) : (s.onClaim f).settingsResult = s.settingsResult := rfl
@[simp] theorem onClaim_settings (f : ClaimUnit → ClaimUnit) : (s.onClaim f).settings = s.settings := rfl
@[simp] theorem onClaim_tick (f : ClaimUnit → ClaimUnit) : (s.onClaim f).tick = s.tick := rfl
@[simp] theorem onClaim_seconds (f : ClaimUnit → ClaimUnit) : (s.onClaim f).seconds = s.seconds := rfl
@[simp] theorem onClaim_bus (f : ClaimUnit → ClaimUnit) : (s.onClaim f).bus = s.bus := rfl
@[simp] theorem onClaim_peers (f : ClaimUnit → ClaimUnit) : (s.onClaim f).peers = s.peers := rfl
@[simp] theorem onClaim_announce (f : ClaimUnit → ClaimUnit) : (s.onClaim f).announce = s.announce := rfl
@[simp] theorem onClaim_shelf (f : ClaimUnit → ClaimUnit) : (s.onClaim f).shelf = s.shelf := rfl
@[simp] theorem onClaim_claim (f : ClaimUnit → ClaimUnit) : (s.onClaim f).claim = f s.claim := rfl
@[simp] theorem onClaim_drive (f : ClaimUnit → ClaimUnit) : (s.onClaim f).drive = s.drive := rfl
@[simp] theorem onClaim_comp (f : ClaimUnit → ClaimUnit) : (s.onClaim f).comp = s.comp := rfl
@[simp] theorem onClaim_supply (f : ClaimUnit → ClaimUnit) : (s.onClaim f).supply = s.supply := rfl
@[simp] theorem onClaim_request (f : ClaimUnit → ClaimUnit) : (s.onClaim f).request = s.request := rfl
@[simp] theorem onClaim_mirror (f : ClaimUnit → ClaimUnit) : (s.onClaim f).mirror = s.mirror := rfl
@[simp] theorem onClaim_engine (f : ClaimUnit → ClaimUnit) : (s.onClaim f).engine = s.engine := rfl
@[simp] theorem onClaim_watch (f : ClaimUnit → ClaimUnit) : (s.onClaim f).watch = s.watch := rfl
@[simp] theorem onClaim_buffer (f : ClaimUnit → ClaimUnit) : (s.onClaim f).buffer = s.buffer := rfl
@[simp] theorem onClaim_pending (f : ClaimUnit → ClaimUnit) : (s.onClaim f).pending = s.pending := rfl

/-! ### onDrive -/

@[simp] theorem onDrive_resetAsserted (f : DrivePort → DrivePort) : (s.onDrive f).resetAsserted = s.resetAsserted := rfl
@[simp] theorem onDrive_station (f : DrivePort → DrivePort) : (s.onDrive f).station = s.station := rfl
@[simp] theorem onDrive_power (f : DrivePort → DrivePort) : (s.onDrive f).power = s.power := rfl
@[simp] theorem onDrive_settingsResult (f : DrivePort → DrivePort) : (s.onDrive f).settingsResult = s.settingsResult := rfl
@[simp] theorem onDrive_settings (f : DrivePort → DrivePort) : (s.onDrive f).settings = s.settings := rfl
@[simp] theorem onDrive_tick (f : DrivePort → DrivePort) : (s.onDrive f).tick = s.tick := rfl
@[simp] theorem onDrive_seconds (f : DrivePort → DrivePort) : (s.onDrive f).seconds = s.seconds := rfl
@[simp] theorem onDrive_bus (f : DrivePort → DrivePort) : (s.onDrive f).bus = s.bus := rfl
@[simp] theorem onDrive_peers (f : DrivePort → DrivePort) : (s.onDrive f).peers = s.peers := rfl
@[simp] theorem onDrive_announce (f : DrivePort → DrivePort) : (s.onDrive f).announce = s.announce := rfl
@[simp] theorem onDrive_shelf (f : DrivePort → DrivePort) : (s.onDrive f).shelf = s.shelf := rfl
@[simp] theorem onDrive_claim (f : DrivePort → DrivePort) : (s.onDrive f).claim = s.claim := rfl
@[simp] theorem onDrive_drive (f : DrivePort → DrivePort) : (s.onDrive f).drive = f s.drive := rfl
@[simp] theorem onDrive_comp (f : DrivePort → DrivePort) : (s.onDrive f).comp = s.comp := rfl
@[simp] theorem onDrive_supply (f : DrivePort → DrivePort) : (s.onDrive f).supply = s.supply := rfl
@[simp] theorem onDrive_request (f : DrivePort → DrivePort) : (s.onDrive f).request = s.request := rfl
@[simp] theorem onDrive_mirror (f : DrivePort → DrivePort) : (s.onDrive f).mirror = s.mirror := rfl
@[simp] theorem onDrive_engine (f : DrivePort → DrivePort) : (s.onDrive f).engine = s.engine := rfl
@[simp] theorem onDrive_watch (f : DrivePort → DrivePort) : (s.onDrive f).watch = s.watch := rfl
@[simp] theorem onDrive_buffer (f : DrivePort → DrivePort) : (s.onDrive f).buffer = s.buffer := rfl
@[simp] theorem onDrive_pending (f : DrivePort → DrivePort) : (s.onDrive f).pending = s.pending := rfl

/-! ### onComp -/

@[simp] theorem onComp_resetAsserted (f : Comparator → Comparator) : (s.onComp f).resetAsserted = s.resetAsserted := rfl
@[simp] theorem onComp_station (f : Comparator → Comparator) : (s.onComp f).station = s.station := rfl
@[simp] theorem onComp_power (f : Comparator → Comparator) : (s.onComp f).power = s.power := rfl
@[simp] theorem onComp_settingsResult (f : Comparator → Comparator) : (s.onComp f).settingsResult = s.settingsResult := rfl
@[simp] theorem onComp_settings (f : Comparator → Comparator) : (s.onComp f).settings = s.settings := rfl
@[simp] theorem onComp_tick (f : Comparator → Comparator) : (s.onComp f).tick = s.tick := rfl
@[simp] theorem onComp_seconds (f : Comparator → Comparator) : (s.onComp f).seconds = s.seconds := rfl
@[simp] theorem onComp_bus (f : Comparator → Comparator) : (s.onComp f).bus = s.bus := rfl
@[simp] theorem onComp_peers (f : Comparator → Comparator) : (s.onComp f).peers = s.peers := rfl
@[simp] theorem onComp_announce (f : Comparator → Comparator) : (s.onComp f).announce = s.announce := rfl
@[simp] theorem onComp_shelf (f : Comparator → Comparator) : (s.onComp f).shelf = s.shelf := rfl
@[simp] theorem onComp_claim (f : Comparator → Comparator) : (s.onComp f).claim = s.claim := rfl
@[simp] theorem onComp_drive (f : Comparator → Comparator) : (s.onComp f).drive = s.drive := rfl
@[simp] theorem onComp_comp (f : Comparator → Comparator) : (s.onComp f).comp = f s.comp := rfl
@[simp] theorem onComp_supply (f : Comparator → Comparator) : (s.onComp f).supply = s.supply := rfl
@[simp] theorem onComp_request (f : Comparator → Comparator) : (s.onComp f).request = s.request := rfl
@[simp] theorem onComp_mirror (f : Comparator → Comparator) : (s.onComp f).mirror = s.mirror := rfl
@[simp] theorem onComp_engine (f : Comparator → Comparator) : (s.onComp f).engine = s.engine := rfl
@[simp] theorem onComp_watch (f : Comparator → Comparator) : (s.onComp f).watch = s.watch := rfl
@[simp] theorem onComp_buffer (f : Comparator → Comparator) : (s.onComp f).buffer = s.buffer := rfl
@[simp] theorem onComp_pending (f : Comparator → Comparator) : (s.onComp f).pending = s.pending := rfl

/-! ### onSupply -/

@[simp] theorem onSupply_resetAsserted (f : Sampler → Sampler) : (s.onSupply f).resetAsserted = s.resetAsserted := rfl
@[simp] theorem onSupply_station (f : Sampler → Sampler) : (s.onSupply f).station = s.station := rfl
@[simp] theorem onSupply_power (f : Sampler → Sampler) : (s.onSupply f).power = s.power := rfl
@[simp] theorem onSupply_settingsResult (f : Sampler → Sampler) : (s.onSupply f).settingsResult = s.settingsResult := rfl
@[simp] theorem onSupply_settings (f : Sampler → Sampler) : (s.onSupply f).settings = s.settings := rfl
@[simp] theorem onSupply_tick (f : Sampler → Sampler) : (s.onSupply f).tick = s.tick := rfl
@[simp] theorem onSupply_seconds (f : Sampler → Sampler) : (s.onSupply f).seconds = s.seconds := rfl
@[simp] theorem onSupply_bus (f : Sampler → Sampler) : (s.onSupply f).bus = s.bus := rfl
@[simp] theorem onSupply_peers (f : Sampler → Sampler) : (s.onSupply f).peers = s.peers := rfl
@[simp] theorem onSupply_announce (f : Sampler → Sampler) : (s.onSupply f).announce = s.announce := rfl
@[simp] theorem onSupply_shelf (f : Sampler → Sampler) : (s.onSupply f).shelf = s.shelf := rfl
@[simp] theorem onSupply_claim (f : Sampler → Sampler) : (s.onSupply f).claim = s.claim := rfl
@[simp] theorem onSupply_drive (f : Sampler → Sampler) : (s.onSupply f).drive = s.drive := rfl
@[simp] theorem onSupply_comp (f : Sampler → Sampler) : (s.onSupply f).comp = s.comp := rfl
@[simp] theorem onSupply_supply (f : Sampler → Sampler) : (s.onSupply f).supply = f s.supply := rfl
@[simp] theorem onSupply_request (f : Sampler → Sampler) : (s.onSupply f).request = s.request := rfl
@[simp] theorem onSupply_mirror (f : Sampler → Sampler) : (s.onSupply f).mirror = s.mirror := rfl
@[simp] theorem onSupply_engine (f : Sampler → Sampler) : (s.onSupply f).engine = s.engine := rfl
@[simp] theorem onSupply_watch (f : Sampler → Sampler) : (s.onSupply f).watch = s.watch := rfl
@[simp] theorem onSupply_buffer (f : Sampler → Sampler) : (s.onSupply f).buffer = s.buffer := rfl
@[simp] theorem onSupply_pending (f : Sampler → Sampler) : (s.onSupply f).pending = s.pending := rfl

/-! ### onRequest -/

@[simp] theorem onRequest_resetAsserted (f : RequestUnit → RequestUnit) : (s.onRequest f).resetAsserted = s.resetAsserted := rfl
@[simp] theorem onRequest_station (f : RequestUnit → RequestUnit) : (s.onRequest f).station = s.station := rfl
@[simp] theorem onRequest_power (f : RequestUnit → RequestUnit) : (s.onRequest f).power = s.power := rfl
@[simp] theorem onRequest_settingsResult (f : RequestUnit → RequestUnit) : (s.onRequest f).settingsResult = s.settingsResult := rfl
@[simp] theorem onRequest_settings (f : RequestUnit → RequestUnit) : (s.onRequest f).settings = s.settings := rfl
@[simp] theorem onRequest_tick (f : RequestUnit → RequestUnit) : (s.onRequest f).tick = s.tick := rfl
@[simp] theorem onRequest_seconds (f : RequestUnit → RequestUnit) : (s.onRequest f).seconds = s.seconds := rfl
@[simp] theorem onRequest_bus (f : RequestUnit → RequestUnit) : (s.onRequest f).bus = s.bus := rfl
@[simp] theorem onRequest_peers (f : RequestUnit → RequestUnit) : (s.onRequest f).peers = s.peers := rfl
@[simp] theorem onRequest_announce (f : RequestUnit → RequestUnit) : (s.onRequest f).announce = s.announce := rfl
@[simp] theorem onRequest_shelf (f : RequestUnit → RequestUnit) : (s.onRequest f).shelf = s.shelf := rfl
@[simp] theorem onRequest_claim (f : RequestUnit → RequestUnit) : (s.onRequest f).claim = s.claim := rfl
@[simp] theorem onRequest_drive (f : RequestUnit → RequestUnit) : (s.onRequest f).drive = s.drive := rfl
@[simp] theorem onRequest_comp (f : RequestUnit → RequestUnit) : (s.onRequest f).comp = s.comp := rfl
@[simp] theorem onRequest_supply (f : RequestUnit → RequestUnit) : (s.onRequest f).supply = s.supply := rfl
@[simp] theorem onRequest_request (f : RequestUnit → RequestUnit) : (s.onRequest f).request = f s.request := rfl
@[simp] theorem onRequest_mirror (f : RequestUnit → RequestUnit) : (s.onRequest f).mirror = s.mirror := rfl
@[simp] theorem onRequest_engine (f : RequestUnit → RequestUnit) : (s.onRequest f).engine = s.engine := rfl
@[simp] theorem onRequest_watch (f : RequestUnit → RequestUnit) : (s.onRequest f).watch = s.watch := rfl
@[simp] theorem onRequest_buffer (f : RequestUnit → RequestUnit) : (s.onRequest f).buffer = s.buffer := rfl
@[simp] theorem onRequest_pending (f : RequestUnit → RequestUnit) : (s.onRequest f).pending = s.pending := rfl

/-! ### onMirror -/

@[simp] theorem onMirror_resetAsserted (f : MirrorUnit → MirrorUnit) : (s.onMirror f).resetAsserted = s.resetAsserted := rfl
@[simp] theorem onMirror_station (f : MirrorUnit → MirrorUnit) : (s.onMirror f).station = s.station := rfl
@[simp] theorem onMirror_power (f : MirrorUnit → MirrorUnit) : (s.onMirror f).power = s.power := rfl
@[simp] theorem onMirror_settingsResult (f : MirrorUnit → MirrorUnit) : (s.onMirror f).settingsResult = s.settingsResult := rfl
@[simp] theorem onMirror_settings (f : MirrorUnit → MirrorUnit) : (s.onMirror f).settings = s.settings := rfl
@[simp] theorem onMirror_tick (f : MirrorUnit → MirrorUnit) : (s.onMirror f).tick = s.tick := rfl
@[simp] theorem onMirror_seconds (f : MirrorUnit → MirrorUnit) : (s.onMirror f).seconds = s.seconds := rfl
@[simp] theorem onMirror_bus (f : MirrorUnit → MirrorUnit) : (s.onMirror f).bus = s.bus := rfl
@[simp] theorem onMirror_peers (f : MirrorUnit → MirrorUnit) : (s.onMirror f).peers = s.peers := rfl
@[simp] theorem onMirror_announce (f : MirrorUnit → MirrorUnit) : (s.onMirror f).announce = s.announce := rfl
@[simp] theorem onMirror_shelf (f : MirrorUnit → MirrorUnit) : (s.onMirror f).shelf = s.shelf := rfl
@[simp] theorem onMirror_claim (f : MirrorUnit → MirrorUnit) : (s.onMirror f).claim = s.claim := rfl
@[simp] theorem onMirror_drive (f : MirrorUnit → MirrorUnit) : (s.onMirror f).drive = s.drive := rfl
@[simp] theorem onMirror_comp (f : MirrorUnit → MirrorUnit) : (s.onMirror f).comp = s.comp := rfl
@[simp] theorem onMirror_supply (f : MirrorUnit → MirrorUnit) : (s.onMirror f).supply = s.supply := rfl
@[simp] theorem onMirror_request (f : MirrorUnit → MirrorUnit) : (s.onMirror f).request = s.request := rfl
@[simp] theorem onMirror_mirror (f : MirrorUnit → MirrorUnit) : (s.onMirror f).mirror = f s.mirror := rfl
@[simp] theorem onMirror_engine (f : MirrorUnit → MirrorUnit) : (s.onMirror f).engine = s.engine := rfl
@[simp] theorem onMirror_watch (f : MirrorUnit → MirrorUnit) : (s.onMirror f).watch = s.watch := rfl
@[simp] theorem onMirror_buffer (f : MirrorUnit → MirrorUnit) : (s.onMirror f).buffer = s.buffer := rfl
@[simp] theorem onMirror_pending (f : MirrorUnit → MirrorUnit) : (s.onMirror f).pending = s.pending := rfl

/-! ### onEngine -/

@[simp] theorem onEngine_resetAsserted (f : ResyncEngine → ResyncEngine) : (s.onEngine f).resetAsserted = s.resetAsserted := rfl
@[simp] theorem onEngine_station (f : ResyncEngine → ResyncEngine) : (s.onEngine f).station = s.station := rfl
@[simp] theorem onEngine_power (f : ResyncEngine → ResyncEngine) : (s.onEngine f).power = s.power := rfl
@[simp] theorem onEngine_settingsResult (f : ResyncEngine → ResyncEngine) : (s.onEngine f).settingsResult = s.settingsResult := rfl
@[simp] theorem onEngine_settings (f : ResyncEngine → ResyncEngine) : (s.onEngine f).settings = s.settings := rfl
@[simp] theorem onEngine_tick (f : ResyncEngine → ResyncEngine) : (s.onEngine f).tick = s.tick := rfl
@[simp] theorem onEngine_seconds (f : ResyncEngine → ResyncEngine) : (s.onEngine f).seconds = s.seconds := rfl
@[simp] theorem onEngine_bus (f : ResyncEngine → ResyncEngine) : (s.onEngine f).bus = s.bus := rfl
@[simp] theorem onEngine_peers (f : ResyncEngine → ResyncEngine) : (s.onEngine f).peers = s.peers := rfl
@[simp] theorem onEngine_announce (f : ResyncEngine → ResyncEngine) : (s.onEngine f).announce = s.announce := rfl
@[simp] theorem onEngine_shelf (f : ResyncEngine → ResyncEngine) : (s.onEngine f).shelf = s.shelf := rfl
@[simp] theorem onEngine_claim (f : ResyncEngine → ResyncEngine) : (s.onEngine f).claim = s.claim := rfl
@[simp] theorem onEngine_drive (f : ResyncEngine → ResyncEngine) : (s.onEngine f).drive = s.drive := rfl
@[simp] theorem onEngine_comp (f : ResyncEngine → ResyncEngine) : (s.onEngine f).comp = s.comp := rfl
@[simp] theorem onEngine_supply (f : ResyncEngine → ResyncEngine) : (s.onEngine f).supply = s.supply := rfl
@[simp] theorem onEngine_request (f : ResyncEngine → ResyncEngine) : (s.onEngine f).request = s.request := rfl
@[simp] theorem onEngine_mirror (f : ResyncEngine → ResyncEngine) : (s.onEngine f).mirror = s.mirror := rfl
@[simp] theorem onEngine_engine (f : ResyncEngine → ResyncEngine) : (s.onEngine f).engine = f s.engine := rfl
@[simp] theorem onEngine_watch (f : ResyncEngine → ResyncEngine) : (s.onEngine f).watch = s.watch := rfl
@[simp] theorem onEngine_buffer (f : ResyncEngine → ResyncEngine) : (s.onEngine f).buffer = s.buffer := rfl
@[simp] theorem onEngine_pending (f : ResyncEngine → ResyncEngine) : (s.onEngine f).pending = s.pending := rfl

/-! ### onWatch -/

@[simp] theorem onWatch_resetAsserted (f : WatchUnit → WatchUnit) : (s.onWatch f).resetAsserted = s.resetAsserted := rfl
@[simp] theorem onWatch_station (f : WatchUnit → WatchUnit) : (s.onWatch f).station = s.station := rfl
@[simp] theorem onWatch_power (f : WatchUnit → WatchUnit) : (s.onWatch f).power = s.power := rfl
@[simp] theorem onWatch_settingsResult (f : WatchUnit → WatchUnit) : (s.onWatch f).settingsResult = s.settingsResult := rfl
@[simp] theorem onWatch_settings (f : WatchUnit → WatchUnit) : (s.onWatch f).settings = s.settings := rfl
@[simp] theorem onWatch_tick (f : WatchUnit → WatchUnit) : (s.onWatch f).tick = s.tick := rfl
@[simp] theorem onWatch_seconds (f : WatchUnit → WatchUnit) : (s.onWatch f).seconds = s.seconds := rfl
@[simp] theorem onWatch_bus (f : WatchUnit → WatchUnit) : (s.onWatch f).bus = s.bus := rfl
@[simp] theorem onWatch_peers (f : WatchUnit → WatchUnit) : (s.onWatch f).peers = s.peers := rfl
@[simp] theorem onWatch_announce (f : WatchUnit → WatchUnit) : (s.onWatch f).announce = s.announce := rfl
@[simp] theorem onWatch_shelf (f : WatchUnit → WatchUnit) : (s.onWatch f).shelf = s.shelf := rfl
@[simp] theorem onWatch_claim (f : WatchUnit → WatchUnit) : (s.onWatch f).claim = s.claim := rfl
@[simp] theorem onWatch_drive (f : WatchUnit → WatchUnit) : (s.onWatch f).drive = s.drive := rfl
@[simp] theorem onWatch_comp (f : WatchUnit → WatchUnit) : (s.onWatch f).comp = s.comp := rfl
@[simp] theorem onWatch_supply (f : WatchUnit → WatchUnit) : (s.onWatch f).supply = s.supply := rfl
@[simp] theorem onWatch_request (f : WatchUnit → WatchUnit) : (s.onWatch f).request = s.request := rfl
@[simp] theorem onWatch_mirror (f : WatchUnit → WatchUnit) : (s.onWatch f).mirror = s.mirror := rfl
@[simp] theorem onWatch_engine (f : WatchUnit → WatchUnit) : (s.onWatch f).engine = s.engine := rfl
@[simp] theorem onWatch_watch (f : WatchUnit → WatchUnit) : (s.onWatch f).watch = f s.watch := rfl
@[simp] theorem onWatch_buffer (f : WatchUnit → WatchUnit) : (s.onWatch f).buffer = s.buffer := rfl
@[simp] theorem onWatch_pending (f : WatchUnit → WatchUnit) : (s.onWatch f).pending = s.pending := rfl

/-! ### onBuffer -/

@[simp] theorem onBuffer_resetAsserted (f : List Host.Cell → List Host.Cell) : (s.onBuffer f).resetAsserted = s.resetAsserted := rfl
@[simp] theorem onBuffer_station (f : List Host.Cell → List Host.Cell) : (s.onBuffer f).station = s.station := rfl
@[simp] theorem onBuffer_power (f : List Host.Cell → List Host.Cell) : (s.onBuffer f).power = s.power := rfl
@[simp] theorem onBuffer_settingsResult (f : List Host.Cell → List Host.Cell) : (s.onBuffer f).settingsResult = s.settingsResult := rfl
@[simp] theorem onBuffer_settings (f : List Host.Cell → List Host.Cell) : (s.onBuffer f).settings = s.settings := rfl
@[simp] theorem onBuffer_tick (f : List Host.Cell → List Host.Cell) : (s.onBuffer f).tick = s.tick := rfl
@[simp] theorem onBuffer_seconds (f : List Host.Cell → List Host.Cell) : (s.onBuffer f).seconds = s.seconds := rfl
@[simp] theorem onBuffer_bus (f : List Host.Cell → List Host.Cell) : (s.onBuffer f).bus = s.bus := rfl
@[simp] theorem onBuffer_peers (f : List Host.Cell → List Host.Cell) : (s.onBuffer f).peers = s.peers := rfl
@[simp] theorem onBuffer_announce (f : List Host.Cell → List Host.Cell) : (s.onBuffer f).announce = s.announce := rfl
@[simp] theorem onBuffer_shelf (f : List Host.Cell → List Host.Cell) : (s.onBuffer f).shelf = s.shelf := rfl
@[simp] theorem onBuffer_claim (f : List Host.Cell → List Host.Cell) : (s.onBuffer f).claim = s.claim := rfl
@[simp] theorem onBuffer_drive (f : List Host.Cell → List Host.Cell) : (s.onBuffer f).drive = s.drive := rfl
@[simp] theorem onBuffer_comp (f : List Host.Cell → List Host.Cell) : (s.onBuffer f).comp = s.comp := rfl
@[simp] theorem onBuffer_supply (f : List Host.Cell → List Host.Cell) : (s.onBuffer f).supply = s.supply := rfl
@[simp] theorem onBuffer_request (f : List Host.Cell → List Host.Cell) : (s.onBuffer f).request = s.request := rfl
@[simp] theorem onBuffer_mirror (f : List Host.Cell → List Host.Cell) : (s.onBuffer f).mirror = s.mirror := rfl
@[simp] theorem onBuffer_engine (f : List Host.Cell → List Host.Cell) : (s.onBuffer f).engine = s.engine := rfl
@[simp] theorem onBuffer_watch (f : List Host.Cell → List Host.Cell) : (s.onBuffer f).watch = s.watch := rfl
@[simp] theorem onBuffer_buffer (f : List Host.Cell → List Host.Cell) : (s.onBuffer f).buffer = f s.buffer := rfl
@[simp] theorem onBuffer_pending (f : List Host.Cell → List Host.Cell) : (s.onBuffer f).pending = s.pending := rfl

/-! ### setPower -/

@[simp] theorem setPower_resetAsserted (p : PowerState) : (s.setPower p).resetAsserted = s.resetAsserted := rfl
@[simp] theorem setPower_station (p : PowerState) : (s.setPower p).station = s.station := rfl
@[simp] theorem setPower_power (p : PowerState) : (s.setPower p).power = p := rfl
@[simp] theorem setPower_settingsResult (p : PowerState) : (s.setPower p).settingsResult = s.settingsResult := rfl
@[simp] theorem setPower_settings (p : PowerState) : (s.setPower p).settings = s.settings := rfl
@[simp] theorem setPower_tick (p : PowerState) : (s.setPower p).tick = s.tick := rfl
@[simp] theorem setPower_seconds (p : PowerState) : (s.setPower p).seconds = s.seconds := rfl
@[simp] theorem setPower_bus (p : PowerState) : (s.setPower p).bus = s.bus := rfl
@[simp] theorem setPower_peers (p : PowerState) : (s.setPower p).peers = s.peers := rfl
@[simp] theorem setPower_announce (p : PowerState) : (s.setPower p).announce = s.announce := rfl
@[simp] theorem setPower_shelf (p : PowerState) : (s.setPower p).shelf = s.shelf := rfl
@[simp] theorem setPower_claim (p : PowerState) : (s.setPower p).claim = s.claim := rfl
@[simp] theorem setPower_drive (p : PowerState) : (s.setPower p).drive = s.drive := rfl
@[simp] theorem setPower_comp (p : PowerState) : (s.setPower p).comp = s.comp := rfl
@[simp] theorem setPower_supply (p : PowerState) : (s.setPower p).supply = s.supply := rfl
@[simp] theorem setPower_request (p : PowerState) : (s.setPower p).request = s.request := rfl
@[simp] theorem setPower_mirror (p : PowerState) : (s.setPower p).mirror = s.mirror := rfl
@[simp] theorem setPower_engine (p : PowerState) : (s.setPower p).engine = s.engine := rfl
@[simp] theorem setPower_watch (p : PowerState) : (s.setPower p).watch = s.watch := rfl
@[simp] theorem setPower_buffer (p : PowerState) : (s.setPower p).buffer = s.buffer := rfl
@[simp] theorem setPower_pending (p : PowerState) : (s.setPower p).pending = s.pending := rfl

/-! ### setSettings -/

@[simp] theorem setSettings_resetAsserted (r : SettingsResult) (c : Option Settings) : (s.setSettings r c).resetAsserted = s.resetAsserted := rfl
@[simp] theorem setSettings_station (r : SettingsResult) (c : Option Settings) : (s.setSettings r c).station = s.station := rfl
@[simp] theorem setSettings_power (r : SettingsResult) (c : Option Settings) : (s.setSettings r c).power = s.power := rfl
@[simp] theorem setSettings_settingsResult (r : SettingsResult) (c : Option Settings) : (s.setSettings r c).settingsResult = some r := rfl
@[simp] theorem setSettings_settings (r : SettingsResult) (c : Option Settings) : (s.setSettings r c).settings = c := rfl
@[simp] theorem setSettings_tick (r : SettingsResult) (c : Option Settings) : (s.setSettings r c).tick = s.tick := rfl
@[simp] theorem setSettings_seconds (r : SettingsResult) (c : Option Settings) : (s.setSettings r c).seconds = s.seconds := rfl
@[simp] theorem setSettings_bus (r : SettingsResult) (c : Option Settings) : (s.setSettings r c).bus = s.bus := rfl
@[simp] theorem setSettings_peers (r : SettingsResult) (c : Option Settings) : (s.setSettings r c).peers = s.peers := rfl
@[simp] theorem setSettings_announce (r : SettingsResult) (c : Option Settings) : (s.setSettings r c).announce = s.announce := rfl
@[simp] theorem setSettings_shelf (r : SettingsResult) (c : Option Settings) : (s.setSettings r c).shelf = s.shelf := rfl
@[simp] theorem setSettings_claim (r : SettingsResult) (c : Option Settings) : (s.setSettings r c).claim = s.claim := rfl
@[simp] theorem setSettings_drive (r : SettingsResult) (c : Option Settings) : (s.setSettings r c).drive = s.drive := rfl
@[simp] theorem setSettings_comp (r : SettingsResult) (c : Option Settings) : (s.setSettings r c).comp = s.comp := rfl
@[simp] theorem setSettings_supply (r : SettingsResult) (c : Option Settings) : (s.setSettings r c).supply = s.supply := rfl
@[simp] theorem setSettings_request (r : SettingsResult) (c : Option Settings) : (s.setSettings r c).request = s.request := rfl
@[simp] theorem setSettings_mirror (r : SettingsResult) (c : Option Settings) : (s.setSettings r c).mirror = s.mirror := rfl
@[simp] theorem setSettings_engine (r : SettingsResult) (c : Option Settings) : (s.setSettings r c).engine = s.engine := rfl
@[simp] theorem setSettings_watch (r : SettingsResult) (c : Option Settings) : (s.setSettings r c).watch = s.watch := rfl
@[simp] theorem setSettings_buffer (r : SettingsResult) (c : Option Settings) : (s.setSettings r c).buffer = s.buffer := rfl
@[simp] theorem setSettings_pending (r : SettingsResult) (c : Option Settings) : (s.setSettings r c).pending = s.pending := rfl

/-! ### setTime -/

@[simp] theorem setTime_resetAsserted (t : Tick) (n : BitVec 32) : (s.setTime t n).resetAsserted = s.resetAsserted := rfl
@[simp] theorem setTime_station (t : Tick) (n : BitVec 32) : (s.setTime t n).station = s.station := rfl
@[simp] theorem setTime_power (t : Tick) (n : BitVec 32) : (s.setTime t n).power = s.power := rfl
@[simp] theorem setTime_settingsResult (t : Tick) (n : BitVec 32) : (s.setTime t n).settingsResult = s.settingsResult := rfl
@[simp] theorem setTime_settings (t : Tick) (n : BitVec 32) : (s.setTime t n).settings = s.settings := rfl
@[simp] theorem setTime_tick (t : Tick) (n : BitVec 32) : (s.setTime t n).tick = t := rfl
@[simp] theorem setTime_seconds (t : Tick) (n : BitVec 32) : (s.setTime t n).seconds = n := rfl
@[simp] theorem setTime_bus (t : Tick) (n : BitVec 32) : (s.setTime t n).bus = s.bus := rfl
@[simp] theorem setTime_peers (t : Tick) (n : BitVec 32) : (s.setTime t n).peers = s.peers := rfl
@[simp] theorem setTime_announce (t : Tick) (n : BitVec 32) : (s.setTime t n).announce = s.announce := rfl
@[simp] theorem setTime_shelf (t : Tick) (n : BitVec 32) : (s.setTime t n).shelf = s.shelf := rfl
@[simp] theorem setTime_claim (t : Tick) (n : BitVec 32) : (s.setTime t n).claim = s.claim := rfl
@[simp] theorem setTime_drive (t : Tick) (n : BitVec 32) : (s.setTime t n).drive = s.drive := rfl
@[simp] theorem setTime_comp (t : Tick) (n : BitVec 32) : (s.setTime t n).comp = s.comp := rfl
@[simp] theorem setTime_supply (t : Tick) (n : BitVec 32) : (s.setTime t n).supply = s.supply := rfl
@[simp] theorem setTime_request (t : Tick) (n : BitVec 32) : (s.setTime t n).request = s.request := rfl
@[simp] theorem setTime_mirror (t : Tick) (n : BitVec 32) : (s.setTime t n).mirror = s.mirror := rfl
@[simp] theorem setTime_engine (t : Tick) (n : BitVec 32) : (s.setTime t n).engine = s.engine := rfl
@[simp] theorem setTime_watch (t : Tick) (n : BitVec 32) : (s.setTime t n).watch = s.watch := rfl
@[simp] theorem setTime_buffer (t : Tick) (n : BitVec 32) : (s.setTime t n).buffer = s.buffer := rfl
@[simp] theorem setTime_pending (t : Tick) (n : BitVec 32) : (s.setTime t n).pending = s.pending := rfl

/-! ### setPending -/

@[simp] theorem setPending_resetAsserted (q : List Instr) : (s.setPending q).resetAsserted = s.resetAsserted := rfl
@[simp] theorem setPending_station (q : List Instr) : (s.setPending q).station = s.station := rfl
@[simp] theorem setPending_power (q : List Instr) : (s.setPending q).power = s.power := rfl
@[simp] theorem setPending_settingsResult (q : List Instr) : (s.setPending q).settingsResult = s.settingsResult := rfl
@[simp] theorem setPending_settings (q : List Instr) : (s.setPending q).settings = s.settings := rfl
@[simp] theorem setPending_tick (q : List Instr) : (s.setPending q).tick = s.tick := rfl
@[simp] theorem setPending_seconds (q : List Instr) : (s.setPending q).seconds = s.seconds := rfl
@[simp] theorem setPending_bus (q : List Instr) : (s.setPending q).bus = s.bus := rfl
@[simp] theorem setPending_peers (q : List Instr) : (s.setPending q).peers = s.peers := rfl
@[simp] theorem setPending_announce (q : List Instr) : (s.setPending q).announce = s.announce := rfl
@[simp] theorem setPending_shelf (q : List Instr) : (s.setPending q).shelf = s.shelf := rfl
@[simp] theorem setPending_claim (q : List Instr) : (s.setPending q).claim = s.claim := rfl
@[simp] theorem setPending_drive (q : List Instr) : (s.setPending q).drive = s.drive := rfl
@[simp] theorem setPending_comp (q : List Instr) : (s.setPending q).comp = s.comp := rfl
@[simp] theorem setPending_supply (q : List Instr) : (s.setPending q).supply = s.supply := rfl
@[simp] theorem setPending_request (q : List Instr) : (s.setPending q).request = s.request := rfl
@[simp] theorem setPending_mirror (q : List Instr) : (s.setPending q).mirror = s.mirror := rfl
@[simp] theorem setPending_engine (q : List Instr) : (s.setPending q).engine = s.engine := rfl
@[simp] theorem setPending_watch (q : List Instr) : (s.setPending q).watch = s.watch := rfl
@[simp] theorem setPending_buffer (q : List Instr) : (s.setPending q).buffer = s.buffer := rfl
@[simp] theorem setPending_pending (q : List Instr) : (s.setPending q).pending = q := rfl

/-! ### putSlot -/

@[simp] theorem putSlot_resetAsserted (i : SlotId) (m : Option OutMsg) : (s.putSlot i m).resetAsserted = s.resetAsserted := rfl
@[simp] theorem putSlot_station (i : SlotId) (m : Option OutMsg) : (s.putSlot i m).station = s.station := rfl
@[simp] theorem putSlot_power (i : SlotId) (m : Option OutMsg) : (s.putSlot i m).power = s.power := rfl
@[simp] theorem putSlot_settingsResult (i : SlotId) (m : Option OutMsg) : (s.putSlot i m).settingsResult = s.settingsResult := rfl
@[simp] theorem putSlot_settings (i : SlotId) (m : Option OutMsg) : (s.putSlot i m).settings = s.settings := rfl
@[simp] theorem putSlot_tick (i : SlotId) (m : Option OutMsg) : (s.putSlot i m).tick = s.tick := rfl
@[simp] theorem putSlot_seconds (i : SlotId) (m : Option OutMsg) : (s.putSlot i m).seconds = s.seconds := rfl
@[simp] theorem putSlot_peers (i : SlotId) (m : Option OutMsg) : (s.putSlot i m).peers = s.peers := rfl
@[simp] theorem putSlot_announce (i : SlotId) (m : Option OutMsg) : (s.putSlot i m).announce = s.announce := rfl
@[simp] theorem putSlot_shelf (i : SlotId) (m : Option OutMsg) : (s.putSlot i m).shelf = s.shelf := rfl
@[simp] theorem putSlot_claim (i : SlotId) (m : Option OutMsg) : (s.putSlot i m).claim = s.claim := rfl
@[simp] theorem putSlot_drive (i : SlotId) (m : Option OutMsg) : (s.putSlot i m).drive = s.drive := rfl
@[simp] theorem putSlot_comp (i : SlotId) (m : Option OutMsg) : (s.putSlot i m).comp = s.comp := rfl
@[simp] theorem putSlot_supply (i : SlotId) (m : Option OutMsg) : (s.putSlot i m).supply = s.supply := rfl
@[simp] theorem putSlot_request (i : SlotId) (m : Option OutMsg) : (s.putSlot i m).request = s.request := rfl
@[simp] theorem putSlot_mirror (i : SlotId) (m : Option OutMsg) : (s.putSlot i m).mirror = s.mirror := rfl
@[simp] theorem putSlot_engine (i : SlotId) (m : Option OutMsg) : (s.putSlot i m).engine = s.engine := rfl
@[simp] theorem putSlot_watch (i : SlotId) (m : Option OutMsg) : (s.putSlot i m).watch = s.watch := rfl
@[simp] theorem putSlot_buffer (i : SlotId) (m : Option OutMsg) : (s.putSlot i m).buffer = s.buffer := rfl
@[simp] theorem putSlot_pending (i : SlotId) (m : Option OutMsg) : (s.putSlot i m).pending = s.pending := rfl

/-! ### answers -/

@[simp] theorem answers_resetAsserted (d : Answer) : (s.answers d).resetAsserted = s.resetAsserted := rfl
@[simp] theorem answers_station (d : Answer) : (s.answers d).station = s.station := rfl
@[simp] theorem answers_power (d : Answer) : (s.answers d).power = s.power := rfl
@[simp] theorem answers_settingsResult (d : Answer) : (s.answers d).settingsResult = s.settingsResult := rfl
@[simp] theorem answers_settings (d : Answer) : (s.answers d).settings = s.settings := rfl
@[simp] theorem answers_tick (d : Answer) : (s.answers d).tick = s.tick := rfl
@[simp] theorem answers_seconds (d : Answer) : (s.answers d).seconds = s.seconds := rfl
@[simp] theorem answers_peers (d : Answer) : (s.answers d).peers = s.peers := rfl
@[simp] theorem answers_announce (d : Answer) : (s.answers d).announce = s.announce := rfl
@[simp] theorem answers_shelf (d : Answer) : (s.answers d).shelf = s.shelf := rfl
@[simp] theorem answers_claim (d : Answer) : (s.answers d).claim = s.claim := rfl
@[simp] theorem answers_drive (d : Answer) : (s.answers d).drive = s.drive := rfl
@[simp] theorem answers_comp (d : Answer) : (s.answers d).comp = s.comp := rfl
@[simp] theorem answers_supply (d : Answer) : (s.answers d).supply = s.supply := rfl
@[simp] theorem answers_request (d : Answer) : (s.answers d).request = s.request := rfl
@[simp] theorem answers_mirror (d : Answer) : (s.answers d).mirror = s.mirror := rfl
@[simp] theorem answers_engine (d : Answer) : (s.answers d).engine = s.engine := rfl
@[simp] theorem answers_watch (d : Answer) : (s.answers d).watch = s.watch := rfl
@[simp] theorem answers_buffer (d : Answer) : (s.answers d).buffer = s.buffer := rfl
@[simp] theorem answers_pending (d : Answer) : (s.answers d).pending = s.pending := rfl

/-! ### onEntry -/

@[simp] theorem onEntry_resetAsserted (k : Key) (f : Entry → Entry) : (s.onEntry k f).resetAsserted = s.resetAsserted := rfl
@[simp] theorem onEntry_station (k : Key) (f : Entry → Entry) : (s.onEntry k f).station = s.station := rfl
@[simp] theorem onEntry_power (k : Key) (f : Entry → Entry) : (s.onEntry k f).power = s.power := rfl
@[simp] theorem onEntry_settingsResult (k : Key) (f : Entry → Entry) : (s.onEntry k f).settingsResult = s.settingsResult := rfl
@[simp] theorem onEntry_settings (k : Key) (f : Entry → Entry) : (s.onEntry k f).settings = s.settings := rfl
@[simp] theorem onEntry_tick (k : Key) (f : Entry → Entry) : (s.onEntry k f).tick = s.tick := rfl
@[simp] theorem onEntry_seconds (k : Key) (f : Entry → Entry) : (s.onEntry k f).seconds = s.seconds := rfl
@[simp] theorem onEntry_bus (k : Key) (f : Entry → Entry) : (s.onEntry k f).bus = s.bus := rfl
@[simp] theorem onEntry_peers (k : Key) (f : Entry → Entry) : (s.onEntry k f).peers = s.peers := rfl
@[simp] theorem onEntry_announce (k : Key) (f : Entry → Entry) : (s.onEntry k f).announce = s.announce := rfl
@[simp] theorem onEntry_shelf (k : Key) (f : Entry → Entry) : (s.onEntry k f).shelf = s.shelf := rfl
@[simp] theorem onEntry_claim (k : Key) (f : Entry → Entry) : (s.onEntry k f).claim = s.claim := rfl
@[simp] theorem onEntry_drive (k : Key) (f : Entry → Entry) : (s.onEntry k f).drive = s.drive := rfl
@[simp] theorem onEntry_comp (k : Key) (f : Entry → Entry) : (s.onEntry k f).comp = s.comp := rfl
@[simp] theorem onEntry_supply (k : Key) (f : Entry → Entry) : (s.onEntry k f).supply = s.supply := rfl
@[simp] theorem onEntry_mirror (k : Key) (f : Entry → Entry) : (s.onEntry k f).mirror = s.mirror := rfl
@[simp] theorem onEntry_engine (k : Key) (f : Entry → Entry) : (s.onEntry k f).engine = s.engine := rfl
@[simp] theorem onEntry_watch (k : Key) (f : Entry → Entry) : (s.onEntry k f).watch = s.watch := rfl
@[simp] theorem onEntry_buffer (k : Key) (f : Entry → Entry) : (s.onEntry k f).buffer = s.buffer := rfl
@[simp] theorem onEntry_pending (k : Key) (f : Entry → Entry) : (s.onEntry k f).pending = s.pending := rfl

/-! ### Updates said as one of these -/

theorem putSlot_eq (i : SlotId) (m : Option OutMsg) :
    s.putSlot i m = s.onBus fun b => { b with slots := b.slots.set i m } := rfl

theorem onEntry_eq (k : Key) (f : Entry → Entry) :
    s.onEntry k f = s.onRequest fun r => { r with queue := r.queue.map fun e => if e.key = k then f e else e } := rfl

theorem answers_eq (d : Answer) :
    s.answers d = s.onBus fun b =>
      { b with answer := d, idle := false, busyGiven := if d = .busy then satInc b.busyGiven else b.busyGiven } := rfl

/-! ### Slots -/

@[simp] theorem slots_get_set (x : Slots) (i : SlotId) (m : Option OutMsg) : (x.set i m).get i = m := by
  cases i <;> rfl

theorem slots_get_set_other (x : Slots) {i j : SlotId} (m : Option OutMsg) (h : j ≠ i) :
    (x.set i m).get j = x.get j := by
  cases i <;> cases j <;> first | rfl | exact absurd rfl h

end Sys2Proof.Machine
end

