-- ==== Sys2Proof/Laws/Ends.lean ====
section
/-!
SUPPORT. What the end of queue entries brings: one specification, `Ended`, of the end of one entry and of each sweep over the
queue (the range test of READY, FAULT, the age limit).
-/

namespace Sys2Proof.Machine

variable {s u v : State} {st : Status} {l m : List Entry}

/-! ## One entry changed -/

theorem entry_onEntry (k j : Key) (f : Entry → Entry) (hf : ∀ e, (f e).key = e.key) :
    (s.onEntry k f).entry j = (s.entry j).map fun e => if e.key = k then f e else e := by
  simp only [State.entry, State.onEntry, State.onRequest, List.find?_map]
  congr 1
  refine congrArg (fun p => List.find? p s.request.queue) (funext fun e => ?_)
  simp only [Function.comp]
  split <;> simp [hf]

theorem entry_key {k : Key} {e : Entry} (h : s.entry k = some e) : e.key = k := by
  simpa using List.find?_some h

theorem entry_mem {k : Key} {e : Entry} (h : s.entry k = some e) : e ∈ s.request.queue := List.mem_of_find?_eq_some h

/-- In a queue of distinct names every entry is the one of its name. -/
theorem entry_of_mem (hq : QueueSound s) {e : Entry} (he : e ∈ s.request.queue) : s.entry e.key = some e := by
  have key : ∀ q : List Entry, (q.map (·.key)).Nodup → e ∈ q → q.find? (fun g => g.key == e.key) = some e := by
    intro q
    induction q with
    | nil => intro _ h; cases h
    | cons g q ih =>
      intro hn h
      rw [List.map_cons, List.nodup_cons] at hn
      rcases List.mem_cons.mp h with rfl | h
      · simp
      · have : g.key ≠ e.key := fun hk => hn.1 (hk ▸ List.mem_map_of_mem h)
        rw [List.find?_cons_of_neg (by simpa using this), ih hn.2 h]
  exact key _ hq.2 he

/-! ## Marks -/

/-- The regions that the extents of the WRITEs among some entries touch. -/
def State.writeRegions (s : State) (l : List Entry) : BitVec 256 :=
  ((l.filter (·.kind == .write)).filterMap (·.extent)).foldl (fun d x => d ||| s.regions x) 0

theorem foldl_or (f : Extent → BitVec 256) : ∀ (l : List Extent) (d : BitVec 256),
    l.foldl (fun d x => d ||| f x) d = d ||| l.foldl (fun d x => d ||| f x) 0
  | [], d => by simp
  | x :: l, d => by
    rw [List.foldl_cons, List.foldl_cons, foldl_or f l (d ||| f x), foldl_or f l (0 ||| f x)]
    simp [BitVec.or_assoc]

theorem writeRegions_append : s.writeRegions (l ++ m) = s.writeRegions l ||| s.writeRegions m := by
  simp only [State.writeRegions, List.filter_append, List.filterMap_append, List.foldl_append]
  exact foldl_or _ _ _

theorem mapAfter_eq : s.mapAfter l =
    if s.mirror.role = .primary then s.mirror.dirty ||| s.writeRegions l else s.mirror.dirty := by
  unfold State.mapAfter State.writeRegions
  split
  · exact foldl_or _ _ _
  · rfl

theorem or_left {a b c : BitVec 256} (h : a ||| b ||| c = a) : a ||| b = a := by
  refine BitVec.eq_of_getLsbD_eq fun i _ => ?_
  have hi := congrArg (fun x => x.getLsbD i) h
  simp only [BitVec.getLsbD_or] at hi ⊢
  revert hi
  generalize a.getLsbD i = x, b.getLsbD i = y, c.getLsbD i = z
  cases x <;> cases y <;> cases z <;> simp

theorem markRegions_eq (b : BitVec 256) : markRegions b s =
    { s with
      mirror := { s.mirror with
        dirty := if s.mirror.role = .primary then s.mirror.dirty ||| b else s.mirror.dirty
        calls := { s.mirror.calls with mark := s.mirror.calls.mark
          || (s.mirror.cond == .closed && (markRegions b s).mirror.dirty != s.mirror.dirty) } }
      engine := { s.engine with redo := (markRegions b s).engine.redo } } := by
  unfold markRegions
  split
  · rename_i h
    simp only [State.onEngine, State.onMirror, h.1, if_true]
    congr 2
    by_cases hc : s.mirror.dirty ||| b = s.mirror.dirty
    · simp [hc]
    · have hb : (s.mirror.dirty ||| b != s.mirror.dirty) = true := by simpa using hc
      by_cases hd : s.mirror.cond = .closed
      · simp [hb, hc, hd]
      · have hn : (s.mirror.cond == RecordCond.closed) = false := by simpa using hd
        simp [hd, hn]
  · rename_i h
    have : (if s.mirror.role = .primary then s.mirror.dirty ||| b else s.mirror.dirty) = s.mirror.dirty := by
      split
      · rename_i hp
        have hb : b = 0 := by
          by_contra hb
          exact h ⟨hp, hb⟩
        simp [hb]
      · rfl
    simp [this]

/-! ## The specification -/

/-- An entry once `endWork` has ended it with a status; a REPLICA takes none (log 35). -/
def Entry.endedBy (st : Status) (s : State) (e : Entry) : Entry :=
  if e.kind = .replica then (if s.partner.isSome then { e with state := .ending } else e)
  else { e with state := .ending, status := some st, send := none }

/-- The MIRROR-MISS of a REPLICA entry that ends. -/
def Entry.miss (n : Station) (e : Entry) : OutMsg :=
  .mirrorMiss n e.key (e.extent.getD ⟨0, 0⟩).start (e.extent.getD ⟨0, 0⟩).count 0 true

/-- State `u` is state `s` after the entries `l` have ended with a status, oldest first. -/
structure Ended (st : Status) (l : List Entry) (s u : State) : Prop where
  frame : u = { s with
    request := { s.request with queue := u.request.queue, out := u.request.out }
    mirror := { s.mirror with
      dirty := u.mirror.dirty, copies := u.mirror.copies, calls := u.mirror.calls, out := u.mirror.out
      behind := u.mirror.behind, behindAnnounced := u.mirror.behindAnnounced }
    engine := { s.engine with redo := u.engine.redo } }
  others : ∀ k, k ∉ l.map (·.key) → u.entry k = s.entry k
  entries : ∀ e ∈ l, u.entry e.key = some (e.endedBy st s)
  out : u.request.out = s.request.out ++ (l.filter (·.kind != .replica)).map fun e => .entryDone e.key
  misses : ∀ n, s.partner = some n → u.mirror.out = s.mirror.out ++ (l.filter (·.kind == .replica)).map (·.miss n)
  dirty : u.mirror.dirty = if marksAtEnd st then s.mapAfter l else s.mirror.dirty
  calls : u.mirror.calls =
    { s.mirror.calls with
      mark := s.mirror.calls.mark || (s.mirror.cond == .closed && u.mirror.dirty != s.mirror.dirty) }
  copies : ∀ k, u.copyState k = if l.any (fun e => e.kind == .write && e.key == k) then none else s.copyState k
  behind : u.mirror.behind =
    (s.mirror.behind || (s.mirror.role == .secondary && s.partner.isSome && l.any (·.kind == .replica)))

theorem Ended.nil : Ended st [] s s where
  frame := rfl
  others _ _ := rfl
  entries _ h := by cases h
  out := by simp
  misses _ _ := by simp
  dirty := by rw [mapAfter_eq]; split <;> simp [State.writeRegions]
  calls := by simp
  copies k := by simp
  behind := by simp

theorem Ended.trans (h₁ : Ended st l s v) (h₂ : Ended st m v u) (hd : ∀ e ∈ l, e.key ∉ m.map (·.key)) :
    Ended st (l ++ m) s u := by
  have hf := h₁.frame
  have hpart : v.partner = s.partner := by rw [hf]; rfl
  have hreg : ∀ x, v.regions x = s.regions x := fun x => by rw [hf]; rfl
  have hrole : v.mirror.role = s.mirror.role := by rw [hf]
  have hcond : v.mirror.cond = s.mirror.cond := by rw [hf]
  have hend : ∀ e : Entry, e.endedBy st v = e.endedBy st s := fun e => by unfold Entry.endedBy; rw [hpart]
  have hwr : v.writeRegions m = s.writeRegions m := by unfold State.writeRegions; simp only [hreg]
  have hdirty : u.mirror.dirty = if marksAtEnd st then s.mapAfter (l ++ m) else s.mirror.dirty := by
    rw [h₂.dirty]
    split
    · rename_i hm
      rw [mapAfter_eq, mapAfter_eq, hrole, hwr, writeRegions_append, h₁.dirty, if_pos hm, mapAfter_eq]
      split <;> simp [BitVec.or_assoc]
    · rename_i hm; rw [h₁.dirty, if_neg hm]
  refine ⟨?_, ?_, ?_, ?_, ?_, hdirty, ?_, ?_, ?_⟩
  · rw [h₂.frame, hf]
  · intro k hk
    rw [List.map_append, List.mem_append, not_or] at hk
    rw [h₂.others k hk.2, h₁.others k hk.1]
  · intro e he
    rcases List.mem_append.mp he with he | he
    · rw [h₂.others _ (hd e he), h₁.entries e he]
    · rw [h₂.entries e he, hend]
  · rw [h₂.out, h₁.out]; simp
  · intro n hn
    rw [h₂.misses n (hpart.trans hn), h₁.misses n hn]; simp
  · have mono : ∀ (a b c : BitVec 256), (a ||| b ||| c != a) = ((a ||| b != a) || (a ||| b ||| c != a ||| b)) := by
      intro a b c
      rw [Bool.eq_iff_iff]
      simp only [bne_iff_ne, Bool.or_eq_true]
      constructor
      · intro h
        by_contra hn
        push Not at hn
        exact h (hn.2.trans hn.1)
      · intro h he
        have hab := or_left he
        rcases h with h | h
        · exact h hab
        · rw [hab] at h; rw [hab] at he; exact h he
    rw [h₂.calls, h₁.calls, hcond, hdirty, h₁.dirty]
    split
    · rw [mapAfter_eq, mapAfter_eq, writeRegions_append]
      split
      · rw [← BitVec.or_assoc, mono]
        cases s.mirror.calls.mark <;> cases (s.mirror.cond == RecordCond.closed) <;> simp
      · simp
    · simp
  · intro k
    rw [h₂.copies, h₁.copies, List.any_append]
    cases l.any (fun e => e.kind == .write && e.key == k) <;> cases m.any (fun e => e.kind == .write && e.key == k) <;>
      simp
  · rw [h₂.behind, h₁.behind, hrole, hpart, List.any_append]
    cases s.mirror.behind <;> cases s.mirror.role == Role.secondary <;> cases s.partner.isSome <;> simp

/-! ## One entry, and the sweeps -/

theorem endedBy_key (e : Entry) : (e.endedBy st s).key = e.key := by
  unfold Entry.endedBy; (repeat' split) <;> rfl

theorem copyState_dropCopy (k j : Key) :
    (dropCopy k s).copyState j = if k = j then none else s.copyState j := by
  simp only [State.copyState, dropCopy, State.onMirror, List.find?_filter]
  split
  · rename_i h; subst h
    rw [List.find?_eq_none.mpr]
    · rfl
    · intro c _; simp
  · rename_i h
    congr 2
    funext c
    by_cases hc : c.key = j
    · simp [hc, Ne.symm h]
    · simp [hc]

theorem entries_of {e : Entry} (he : s.entry e.key = some e) (f : Entry → Entry) (hf : ∀ g, (f g).key = g.key)
    (hfe : f e = e.endedBy st s) (hq : u.request.queue = (s.onEntry e.key f).request.queue) :
    (∀ k, k ∉ [e].map (·.key) → u.entry k = s.entry k) ∧ ∀ g ∈ [e], u.entry g.key = some (g.endedBy st s) := by
  have hu : ∀ k, u.entry k = (s.entry k).map fun g => if g.key = e.key then f g else g := fun k => by
    rw [← entry_onEntry e.key k f hf]; simp only [State.entry, hq]
  constructor
  · intro k hk
    rw [hu k]
    cases hs : s.entry k with
    | none => rfl
    | some g =>
      have : g.key ≠ e.key := by
        rw [entry_key hs]; simpa using hk
      simp [this]
  · intro g hg
    rw [List.mem_singleton.mp hg, hu, he]
    simp [hfe]

/-- An entry's end: its DONE made ready, its copy item gone, its extent marked where R136 says so. -/
theorem endEntry_eq {e : Entry} (he : s.entry e.key = some e) (hs : st ≠ .stale) :
    let f : Entry → Entry := fun g => { g with state := .ending, status := some st, send := none }
    let t : State := (s.onEntry e.key f).onRequest fun r => { r with out := r.out ++ [.entryDone e.key] }
    endEntry e.key st s =
      markRegions (if marksAtEnd st then s.writeRegions [e] else 0) (if e.kind = .write then dropCopy e.key t else t) := by
  have hz : ∀ v : State, markRegions 0#256 v = v := fun v => by simp [markRegions]
  dsimp only
  unfold endEntry
  rw [he]
  by_cases hw : e.kind = .write
  · by_cases hm : marksAtEnd st = true
    · cases hx : e.extent with
      | none => simp [hw, hm, hs, hx, State.writeRegions, hz]
      | some x => simp [hw, hm, hs, hx, State.writeRegions, markExtent]; rfl
    · simp [hw, hm, hs, hz]
  · have hb : (e.kind == EntryKind.write) = false := by simpa using hw
    simp [hw, hs, hb, hz, State.writeRegions]

/-- An entry but a REPLICA ends with a status (R118, R131, R136). -/
theorem ended_endEntry {e : Entry} (he : s.entry e.key = some e) (hr : e.kind ≠ .replica) (hs : st ≠ .stale) :
    Ended st [e] s (endEntry e.key st s) := by
  have hrep : (e.kind == EntryKind.replica) = false := by simpa using hr
  have hu := endEntry_eq he hs
  dsimp only at hu
  generalize hf : (fun g : Entry => { g with state := .ending, status := some st, send := none }) = f at hu
  generalize hv : (if e.kind = .write then
    dropCopy e.key ((s.onEntry e.key f).onRequest fun r => { r with out := r.out ++ [.entryDone e.key] })
    else ((s.onEntry e.key f).onRequest fun r => { r with out := r.out ++ [.entryDone e.key] })) = v at hu
  obtain ⟨cs, hvf⟩ : ∃ cs, v = { s with
      request := { s.request with queue := (s.onEntry e.key f).request.queue, out := s.request.out ++ [.entryDone e.key] }
      mirror := { s.mirror with copies := cs } } := by
    rw [← hv]; split <;> exact ⟨_, rfl⟩
  have hcop : ∀ k, v.copyState k = if [e].any (fun g => g.kind == .write && g.key == k) then none else s.copyState k := by
    intro k
    rw [← hv]
    by_cases hw : e.kind = .write
    · rw [if_pos hw, copyState_dropCopy]
      by_cases hk : e.key = k
      · simp [hk, hw]
      · simp [hk, hw]; rfl
    · have hb : (e.kind == EntryKind.write) = false := by simpa using hw
      simp [hw, hb]; rfl
  subst hvf
  rw [markRegions_eq] at hu
  have hd : (endEntry e.key st s).mirror.dirty = if marksAtEnd st then s.mapAfter [e] else s.mirror.dirty := by
    rw [hu, mapAfter_eq]
    dsimp only
    (repeat' split) <;> simp
  have hreq := entries_of (u := endEntry e.key st s) (st := st) he f (by rw [← hf]; intro g; rfl)
    (by rw [← hf]; simp [Entry.endedBy, hr]) (by rw [hu])
  refine ⟨by rw [hu], hreq.1, hreq.2, by rw [hu]; simp [hr], fun n _ => by rw [hu]; simp [hr], hd, ?_, ?_,
    by rw [hu]; simp [hr]⟩
  · have hdd := congrArg (fun x => x.mirror.dirty) hu
    have hcc := congrArg (fun x => x.mirror.calls) hu
    dsimp only at hdd hcc
    rw [hcc, hdd]
    congr 3
    rw [markRegions_eq]
  · intro k
    rw [← hcop k]
    simp only [State.copyState]
    rw [hu]

/-- A REPLICA ends with a miss (R128). -/
theorem ended_endReplica {e : Entry} (he : s.entry e.key = some e) (hr : e.kind = .replica) :
    Ended st [e] s (endReplica e.key true s) := by
  cases hp : s.partner with
  | none =>
    have hu : endReplica e.key true s = s := by simp [endReplica, he, hp]
    rw [hu]
    refine ⟨rfl, fun _ _ => rfl, ?_, by simp [hr], ?_, ?_, by simp, ?_, by simp [hp]⟩
    · intro g hg; rw [List.mem_singleton.mp hg, he]; simp [Entry.endedBy, hr, hp]
    · intro n hn; cases hp.symm.trans hn
    · rw [mapAfter_eq]; simp [State.writeRegions, hr]
    · intro k; simp [hr]
  | some p =>
    let f : Entry → Entry := fun g => { g with state := .ending }
    have hu : endReplica e.key true s = setBehind (mirrorReady (e.miss p) (s.onEntry e.key f)) := by
      simp only [endReplica, he, hp, if_true]; rfl
    have hreq := entries_of (u := endReplica e.key true s) (st := st) he f (fun _ => rfl)
      (by simp [Entry.endedBy, hr, hp, f]) (by rw [hu]; unfold setBehind; split <;> rfl)
    refine ⟨?_, hreq.1, hreq.2, ?_, ?_, ?_, ?_, ?_, ?_⟩
    · rw [hu]; unfold setBehind; split <;> rfl
    · rw [hu]; unfold setBehind; split <;> simp [hr, mirrorReady, State.onMirror, State.onEntry, State.onRequest]
    · intro n hn
      cases hp.symm.trans hn
      rw [hu]; unfold setBehind; split <;> simp [hr, mirrorReady, State.onMirror, State.onEntry, State.onRequest]
    · rw [mapAfter_eq, hu]
      unfold setBehind
      split <;> simp [State.writeRegions, hr, mirrorReady, State.onMirror, State.onEntry, State.onRequest]
    · rw [hu]; unfold setBehind; split <;> simp [mirrorReady, State.onMirror, State.onEntry, State.onRequest]
    · intro k
      rw [hu]; unfold setBehind State.copyState
      split <;> simp [hr, mirrorReady, State.onMirror, State.onEntry, State.onRequest]
    · rw [hu]; unfold setBehind
      by_cases hrole : s.mirror.role = .secondary <;> cases hb : s.mirror.behind <;>
        simp [hr, hp, hrole, hb, mirrorReady, State.onMirror, State.onEntry, State.onRequest]

/-- An entry that needs the drive ends (R113, R114, R128). -/
theorem ended_endWork {e : Entry} (he : s.entry e.key = some e) (hs : st ≠ .stale) : Ended st [e] s (endWork st s e) := by
  unfold endWork
  split
  · rename_i hr; exact ended_endReplica he hr
  · rename_i hr; exact ended_endEntry he hr hs

/-- Entries of distinct names end one after the other. -/
theorem ended_foldl (hs : st ≠ .stale) : ∀ (l : List Entry) (s : State), (l.map (·.key)).Nodup →
    (∀ e ∈ l, s.entry e.key = some e) → Ended st l s (l.foldl (endWork st) s)
  | [], _, _, _ => .nil
  | e :: l, s, hn, he => by
    rw [List.map_cons, List.nodup_cons] at hn
    have h₁ := ended_endWork (st := st) (he e List.mem_cons_self) hs
    have h₂ := ended_foldl hs l (endWork st s e) hn.2 fun g hg => by
      rw [h₁.others]
      · exact he g (List.mem_cons_of_mem _ hg)
      · have : g.key ≠ e.key := fun hk => hn.1 (hk ▸ List.mem_map_of_mem hg)
        simpa using this
    exact h₁.trans h₂ fun g hg => by rw [List.mem_singleton.mp hg]; exact hn.1

/-- A sweep over the queue ends the entries that a test picks. -/
theorem ended_sweep (hs : st ≠ .stale) (hq : QueueSound s) (p : Entry → Bool) :
    Ended st (s.request.queue.filter p) s ((s.request.queue.filter p).foldl (endWork st) s) :=
  ended_foldl hs _ s (hq.2.sublist (List.filter_sublist.map _)) fun _ he => entry_of_mem hq (List.mem_of_mem_filter he)

/-- R73, R105: the range test of READY. -/
theorem ended_rangeSweep (hq : QueueSound s) : Ended .range
    (s.request.queue.filter fun e =>
      e.outstanding && (match e.extent with | some x => s.passesSize x | none => false)) s (rangeSweep s) :=
  ended_sweep (by decide) hq _

/-- R114: the entry into FAULT. -/
theorem ended_faultEntries (hq : QueueSound s) :
    Ended .driveFault (s.request.queue.filter (·.outstanding)) s (faultEntries s) :=
  ended_sweep (by decide) hq _

/-- R113: the age limit when the drive leaves READY. -/
theorem ended_ageSweep (hq : QueueSound s) :
    Ended .noPower (s.request.queue.filter fun e => s.aged e) s (ageSweep s) :=
  ended_sweep (by decide) hq _

/-! ## Record writes -/

/-- R138, R142: the values of a record write. -/
theorem recordValues_eq (clean : Bool) : s.recordValues clean = s.recordFor clean := by
  unfold State.recordValues State.recordFor
  split
  · rename_i f h₁ h₂; simp [h₁, h₂]
  · rename_i h
    by_cases ho : s.mirror.cond = .opening
    · cases hi : s.mirror.image with
      | none => cases s.settings <;> simp [ho]
      | some f => exact absurd hi (h f ho)
    · cases s.settings <;> simp [ho]

end Sys2Proof.Machine
end

