-- ==== Sys2Proof/Laws/Memory.lean ====
section
/-!
SUPPORT. The buffer's canonical form: every memory operation keeps it, and what a byte reads as after a write.
-/

namespace Sys2Proof.Machine

theorem memWf_cons (c : Host.Cell) (m : List Host.Cell) :
    memWf (c :: m) = true ↔ c.2 ≠ unlistedByte ∧ (∀ d ∈ m, c.1 < d.1) ∧ memWf m = true := by
  simp [memWf, and_assoc]

theorem memWf_filter (p : Host.Cell → Bool) : ∀ m, memWf m = true → memWf (m.filter p) = true
  | [], _ => rfl
  | c :: m, h => by
    rw [memWf_cons] at h
    obtain ⟨h1, h2, h3⟩ := h
    have ih := memWf_filter p m h3
    by_cases hc : p c
    · rw [List.filter_cons_of_pos hc, memWf_cons]
      exact ⟨h1, fun d hd => h2 d (List.mem_of_mem_filter hd), ih⟩
    · rw [List.filter_cons_of_neg hc]; exact ih

theorem memWf_append : ∀ m n : List Host.Cell, memWf m = true → memWf n = true →
    (∀ c ∈ m, ∀ d ∈ n, c.1 < d.1) → memWf (m ++ n) = true
  | [], _, _, hn, _ => hn
  | c :: m, n, hm, hn, h => by
    rw [memWf_cons] at hm
    rw [List.cons_append, memWf_cons]
    refine ⟨hm.1, ?_, memWf_append m n hm.2.2 hn fun a ha d hd => h a (List.mem_cons_of_mem _ ha) d hd⟩
    intro d hd
    rcases List.mem_append.mp hd with hd | hd
    · exact hm.2.1 d hd
    · exact h c List.mem_cons_self d hd

theorem mem_cellsFrom : ∀ (bs : List Byte) (a : Nat) (c : Host.Cell), c ∈ cellsFrom a bs →
    a ≤ c.1 ∧ c.1 < a + bs.length
  | [], _, _, h => by simp [cellsFrom] at h
  | b :: bs, a, c, h => by
    unfold cellsFrom at h
    split at h
    · have := mem_cellsFrom bs (a + 1) c h
      simp only [List.length_cons]; omega
    · rcases List.mem_cons.mp h with h | h
      · subst h; simp
      · have := mem_cellsFrom bs (a + 1) c h
        simp only [List.length_cons]; omega

theorem memWf_cellsFrom : ∀ (bs : List Byte) (a : Nat), memWf (cellsFrom a bs) = true
  | [], _ => rfl
  | b :: bs, a => by
    unfold cellsFrom
    split
    · exact memWf_cellsFrom bs (a + 1)
    · rename_i hb
      rw [memWf_cons]
      exact ⟨hb, fun d hd => (mem_cellsFrom bs (a + 1) d hd).1, memWf_cellsFrom bs (a + 1)⟩

/-- A run of bytes written keeps the canonical form. -/
theorem memWf_writeRun (m : List Host.Cell) (a : Nat) (bs : List Byte) (h : memWf m = true) :
    memWf (writeRun m a bs) = true := by
  unfold writeRun
  refine memWf_append _ _ (memWf_append _ _ (memWf_filter _ m h) (memWf_cellsFrom bs a) ?_) (memWf_filter _ m h) ?_
  · intro c hc d hd
    have h1 := (mem_cellsFrom bs a d hd).1
    have h2 := (List.mem_filter.mp hc).2
    simp only [decide_eq_true_eq] at h2
    omega
  · intro c hc d hd
    have h2 := (List.mem_filter.mp hd).2
    simp only [decide_eq_true_eq] at h2
    rcases List.mem_append.mp hc with hc | hc
    · have h1 := (List.mem_filter.mp hc).2
      simp only [decide_eq_true_eq] at h1
      omega
    · have h1 := (mem_cellsFrom bs a c hc).2
      omega

/-- A page written keeps the canonical form. -/
theorem memWf_writePage (m : List Host.Cell) (p : Page) (bs : List Byte) (h : memWf m = true) :
    memWf (writePage m p bs) = true := memWf_writeRun m _ _ h

/-- Pages written keep the canonical form. -/
theorem memWf_writePages : ∀ (ps : List Page) (bs : List (List Byte)) (m : List Host.Cell), memWf m = true →
    memWf (writePages m ps bs) = true
  | [], _, _, h => by simpa [writePages] using h
  | _ :: _, [], _, h => by simpa [writePages] using h
  | p :: ps, b :: bs, m, h => by
    rw [writePages]
    exact memWf_writePages ps bs _ (memWf_writePage m p b h)

/-- Reset leaves the canonical form: no byte is listed. -/
theorem memWf_reset : memWf State.reset.buffer = true := rfl

/-! ## What a byte reads as -/

theorem readByte_append (m n : List Host.Cell) (a : Nat) :
    readByte (m ++ n) a = if (∃ c ∈ m, c.1 = a) then readByte m a else readByte n a := by
  induction m with
  | nil => simp
  | cons c m ih =>
    by_cases h : c.1 = a
    · simp [readByte, h]
    · rw [List.cons_append, readByte, if_neg h, ih, readByte, if_neg h]
      simp [h]

theorem readByte_absent : ∀ (m : List Host.Cell) (a : Nat), (∀ c ∈ m, c.1 ≠ a) → readByte m a = unlistedByte
  | [], _, _ => rfl
  | c :: m, a, h => by
    rw [readByte, if_neg (h c List.mem_cons_self)]
    exact readByte_absent m a fun d hd => h d (List.mem_cons_of_mem _ hd)

theorem readByte_filter (p : Nat → Bool) (a : Nat) (hp : p a = true) : ∀ m : List Host.Cell,
    readByte (m.filter fun c => p c.1) a = readByte m a
  | [] => rfl
  | c :: m => by
    by_cases hc : p c.1
    · rw [List.filter_cons_of_pos (by simpa using hc), readByte, readByte, readByte_filter p a hp m]
    · rw [List.filter_cons_of_neg (by simpa using hc), readByte, readByte_filter p a hp m, if_neg]
      intro h; rw [h] at hc; exact hc hp

theorem readByte_cellsFrom : ∀ (bs : List Byte) (a i : Nat), i < bs.length →
    readByte (cellsFrom a bs) (a + i) = bs.getD i 0
  | [], _, _, h => by simp at h
  | b :: bs, a, 0, _ => by
    unfold cellsFrom
    split
    · rename_i hb
      rw [readByte_absent _ _ fun c hc => by have := (mem_cellsFrom bs (a + 1) c hc).1; omega]
      simp [hb]
    · simp [readByte]
  | b :: bs, a, i + 1, h => by
    have ih := readByte_cellsFrom bs (a + 1) i (by simpa using h)
    have e : a + (i + 1) = a + 1 + i := by omega
    unfold cellsFrom
    split
    · rw [e, ih]; simp
    · rw [readByte, if_neg (by simp), e, ih]; simp

/-- Inside a written run a byte reads as the byte written. -/
theorem readByte_writeRun_inside (m : List Host.Cell) (a : Nat) (bs : List Byte) (i : Nat) (h : i < bs.length) :
    readByte (writeRun m a bs) (a + i) = bs.getD i 0 := by
  unfold writeRun
  rw [List.append_assoc, readByte_append, if_neg, readByte_append]
  · split
    · exact readByte_cellsFrom bs a i h
    · rename_i hn
      rw [readByte_absent]
      · rw [← readByte_cellsFrom bs a i h, readByte_absent]
        intro c hc hce; exact hn ⟨c, hc, hce⟩
      · intro c hc hce
        have h2 := (List.mem_filter.mp hc).2
        simp only [decide_eq_true_eq] at h2
        omega
  · rintro ⟨c, hc, hce⟩
    have h2 := (List.mem_filter.mp hc).2
    simp only [decide_eq_true_eq] at h2
    omega

/-- Outside a written run a byte reads as before. -/
theorem readByte_writeRun_outside (m : List Host.Cell) (a : Nat) (bs : List Byte) (x : Nat)
    (h : x < a ∨ a + bs.length ≤ x) : readByte (writeRun m a bs) x = readByte m x := by
  unfold writeRun
  rcases h with h | h
  · rw [List.append_assoc, readByte_append]
    split
    · exact readByte_filter (fun y => decide (y < a)) x (by simpa using h) m
    · rename_i hn
      rw [readByte_absent]
      · symm
        rw [readByte_absent]
        intro c hc hce
        exact hn ⟨c, List.mem_filter.mpr ⟨hc, by simp only [decide_eq_true_eq]; omega⟩, hce⟩
      · intro c hc hce
        rcases List.mem_append.mp hc with hc | hc
        · have := (mem_cellsFrom bs a c hc).1; omega
        · have h2 := (List.mem_filter.mp hc).2
          simp only [decide_eq_true_eq] at h2
          omega
  · rw [readByte_append, if_neg]
    · exact readByte_filter (fun y => decide (a + bs.length ≤ y)) x (by simpa using h) m
    · rintro ⟨c, hc, hce⟩
      rcases List.mem_append.mp hc with hc | hc
      · have h2 := (List.mem_filter.mp hc).2
        simp only [decide_eq_true_eq] at h2
        omega
      · have := (mem_cellsFrom bs a c hc).2; omega

theorem fit_length (bs : List Byte) : (fit bs).length = 512 := by
  simp [fit, Config.pageBytes]; omega

theorem fit_of_length (bs : List Byte) (h : bs.length = 512) : fit bs = bs := by
  simp [fit, Config.pageBytes, h]

/-- A page reads as the 512 bytes written into it. -/
theorem readPage_writePage (m : List Host.Cell) (p : Page) (bs : List Byte) (h : bs.length = 512) :
    readPage (writePage m p bs) p = bs := by
  have hl : (fit bs).length = 512 := fit_length bs
  apply List.ext_getElem
  · simp [readPage, readRun, Config.pageBytes, h]
  · intro i h1 h2
    have hi : i < (fit bs).length := by rw [hl]; omega
    simp only [readPage, readRun, writePage, List.getElem_map, List.getElem_range]
    rw [readByte_writeRun_inside _ _ _ _ hi, fit_of_length bs h]
    simp [List.getD_eq_getElem?_getD, List.getElem?_eq_getElem h2]

/-- Another page reads as before. -/
theorem readPage_writePage_other (m : List Host.Cell) (p q : Page) (bs : List Byte) (h : p ≠ q) :
    readPage (writePage m p bs) q = readPage m q := by
  have hl : (fit bs).length = 512 := fit_length bs
  unfold readPage readRun
  apply List.map_congr_left
  intro i hi
  have hi' : i < 512 := by simpa [Config.pageBytes] using hi
  apply readByte_writeRun_outside
  rw [hl]
  simp only [pageBase, Config.pageBytes]
  rcases Nat.lt_or_gt_of_ne h with h | h
  · have : (p + 1) * 512 ≤ q * 512 := Nat.mul_le_mul_right _ h
    omega
  · have : (q + 1) * 512 ≤ p * 512 := Nat.mul_le_mul_right _ h
    omega

end Sys2Proof.Machine
end

