-- ==== Sys2Proof/Laws/Settle.lean ====
section
/-!
SUPPORT. The tests after an event leave the steady part of the state: one lemma for each operation they are made of.
-/

namespace Sys2Proof.Machine

variable (s : State)

theorem steady_foldl {α : Type} (f : State → α → State) (hf : ∀ s a, (f s a).steady = s.steady) :
    ∀ (l : List α) (s : State), (l.foldl f s).steady = s.steady
  | [], _ => rfl
  | a :: l, s => by rw [List.foldl_cons, steady_foldl f hf l, hf]

@[simp] theorem steady_putSlot (i m) : (s.putSlot i m).steady = s.steady := rfl
@[simp] theorem steady_onEntry (k f) : (s.onEntry k f).steady = s.steady := rfl

@[simp] theorem steady_withdraw (i p) : (withdraw i p s).2.steady = s.steady := by
  unfold withdraw
  split
  · split
    · rename_i t ht
      split
      · simp only [State.steady, State.counters, ht]; rfl
      · rfl
    · rfl
  · rfl

/-! ## Budget -/

@[simp] theorem steady_budgetReady (m) : (budgetReady m s).steady = s.steady := rfl
@[simp] theorem steady_setClaim (c) : (setClaim c s).steady = s.steady := rfl
@[simp] theorem steady_releaseAll : (releaseAll s).steady = s.steady := rfl
@[simp] theorem steady_releasePlace : (releasePlace s).steady = s.steady := rfl

@[simp] theorem steady_budgetRetract (p) : (budgetRetract p s).2.steady = s.steady := by
  unfold budgetRetract; split
  · rfl
  · simp

@[simp] theorem steady_placeBudget : (placeBudget s).steady = s.steady := by
  unfold placeBudget; split <;> rfl

@[simp] theorem steady_claimRemoved : (claimRemoved s).steady = s.steady := by
  unfold claimRemoved; split
  · dsimp only; split <;> rfl
  · rfl

@[simp] theorem steady_settleRemoved : (settleRemoved s).steady = s.steady := by
  unfold settleRemoved; split <;> rfl

theorem steady_giveUpFlag (b : Bool) : (s.onClaim fun c => { c with giveUp := b }).steady = s.steady := rfl
theorem steady_fullWanted (b : Bool) : (s.onClaim fun c => { c with fullWanted := b }).steady = s.steady := rfl

@[simp] theorem steady_giveUpClaim : (giveUpClaim s).steady = s.steady := by
  unfold giveUpClaim; split
  · dsimp only; split
    · rw [steady_claimRemoved, steady_budgetRetract, steady_giveUpFlag]
    · rw [steady_budgetRetract, steady_giveUpFlag]
  all_goals rfl

@[simp] theorem steady_powerRemoved : (powerRemoved s).steady = s.steady := by
  unfold powerRemoved; split
  · split
    · dsimp only; split
      · rw [steady_settleRemoved, steady_budgetRetract, steady_fullWanted]
      · rw [steady_budgetRetract, steady_fullWanted]
    · rfl
  · split
    · dsimp only; split
      · rw [steady_settleRemoved, steady_budgetRetract, steady_fullWanted]
      · rw [steady_budgetRetract, steady_fullWanted]
    · rfl
  all_goals rfl

@[simp] theorem steady_testClaim : (testClaim s).steady = s.steady := by
  unfold testClaim; split <;> rfl

@[simp] theorem steady_releaseStray : (releaseStray s).steady = s.steady := by
  unfold releaseStray; split
  · split
    · rfl
    · split <;> rfl
  · rfl

@[simp] theorem steady_settleBudget : (settleBudget s).steady = s.steady := by
  unfold settleBudget; dsimp only; split <;> simp

/-! ## Mirror unit and entries -/

@[simp] theorem steady_markRegions (m) : (markRegions m s).steady = s.steady := by
  unfold markRegions; split <;> rfl

@[simp] theorem steady_markExtent (x) : (markExtent x s).steady = s.steady := steady_markRegions s _

@[simp] theorem steady_setBehind : (setBehind s).steady = s.steady := by unfold setBehind; split <;> rfl

@[simp] theorem steady_mirrorReady (m) : (mirrorReady m s).steady = s.steady := rfl

@[simp] theorem steady_readWake : (readWake s).steady = s.steady := by
  unfold readWake; split
  · split <;> rfl
  · rfl

@[simp] theorem steady_dropCopy (k) : (dropCopy k s).steady = s.steady := rfl

theorem steady_requestOut (f : List ReqOut → List ReqOut) :
    (s.onRequest fun r => { r with out := f r.out }).steady = s.steady := rfl

@[simp] theorem steady_endEntry (k st) : (endEntry k st s).steady = s.steady := by
  unfold endEntry; split
  · rfl
  · dsimp only
    (repeat' split) <;> first
      | rfl
      | (simp only [steady_readWake, steady_markExtent, steady_dropCopy]; rfl)

@[simp] theorem steady_endReplica (k b) : (endReplica k b s).steady = s.steady := by
  unfold endReplica; split
  · dsimp only; split
    · rw [steady_setBehind]; rfl
    · rfl
  · rfl

@[simp] theorem steady_endWork (st e) : (endWork st s e).steady = s.steady := by
  unfold endWork; split <;> simp

@[simp] theorem steady_ageSweep : (ageSweep s).steady = s.steady :=
  steady_foldl _ (fun s e => steady_endWork s _ e) _ s

@[simp] theorem steady_endWaits (st b) : (endWaits st b s).steady = s.steady := by
  refine steady_foldl _ (fun s e => ?_) _ s
  dsimp only
  (repeat' split) <;> simp

@[simp] theorem steady_callForMissed (w) : (callForMissed w s).steady = s.steady := by
  unfold callForMissed; split <;> rfl

@[simp] theorem steady_callForQueued : (callForQueued s).steady = s.steady := by
  unfold callForQueued; split <;> rfl

@[simp] theorem steady_orderMirror (l) : (orderMirror l s).steady = s.steady := rfl

@[simp] theorem steady_placeMirror : (placeMirror s).steady = s.steady := by
  unfold placeMirror; split
  · dsimp only; split <;> rfl
  · rfl

/-! ## Resync engine and link -/

@[simp] theorem steady_withdrawEngine : (withdrawEngine s).steady = s.steady := by
  unfold withdrawEngine; rw [steady_withdraw, steady_withdraw]; rfl

theorem steady_halt (b : Bool) : (s.onEngine fun e => e.halt b e.holdOff).steady = s.steady := rfl

@[simp] theorem steady_orphanRead : (orphanRead s).steady = s.steady := rfl

@[simp] theorem steady_stopResync : (stopResync false s).steady = s.steady := by
  unfold stopResync; split
  · rfl
  · dsimp only
    split <;> simp only [steady_orphanRead, Bool.false_eq_true, if_false, steady_halt, steady_withdrawEngine]

@[simp] theorem steady_startResync : (startResync s).steady = s.steady := by
  unfold startResync; split
  · split <;> rfl
  · rfl

@[simp] theorem steady_takePages : (takePages s).steady = s.steady := by
  unfold takePages; split
  · split
    · dsimp only; split <;> rfl
    · rfl
  · rfl

@[simp] theorem steady_placeResync : (placeResync s).steady = s.steady := by
  unfold placeResync; split
  · split
    · dsimp only; split <;> rfl
    · rfl
  · rfl

@[simp] theorem steady_resyncWakeTest : (resyncWakeTest s).steady = s.steady := by
  unfold resyncWakeTest; split
  · split <;> rfl
  · rfl

@[simp] theorem steady_linkLeft (a b) : (linkLeft a b s).steady = s.steady := by
  have h : ∀ (l : List Entry) (t : State),
      (l.foldl (fun s e => endReplica e.key true s) t).steady = t.steady :=
    steady_foldl _ fun s e => steady_endReplica s _ _
  unfold linkLeft; dsimp only
  (repeat' split) <;> simp only [steady_stopResync, steady_endWaits, h, steady_setBehind]

@[simp] theorem steady_judgeLink : (judgeLink s).steady = s.steady := by
  unfold judgeLink; dsimp only; split
  · rfl
  · rw [steady_linkLeft]; rfl

/-! ## Drive port and request unit -/

theorem steady_giveUpDeferral (h : s.supply.hot = true) : (giveUpDeferral false s).steady = s.steady := by
  unfold giveUpDeferral; dsimp only
  rw [if_neg Bool.false_ne_true, steady_powerRemoved]
  simp [State.steady, State.counters, State.onDrive, h]; rfl

@[simp] theorem steady_sendLane (c r) : (sendLane c r s).steady = s.steady := rfl
@[simp] theorem steady_sendRecordWrite (b) : (sendRecordWrite b s).steady = s.steady := rfl
@[simp] theorem steady_sendSpinDownSync : (sendSpinDownSync s).steady = s.steady := rfl

theorem steady_enterSpinDown (h : s.supply.hot = true ∨ s.drive.hotStop = true) (hd : s.drive.state = .ready) :
    (enterSpinDown s).steady = s.steady := by
  unfold enterSpinDown; dsimp only
  split <;> simp only [steady_sendRecordWrite, steady_sendSpinDownSync, steady_ageSweep, steady_stopResync] <;>
    simp [State.steady, State.counters, h, hd]

@[simp] theorem steady_hotAction : (hotAction s).steady = s.steady := by
  unfold hotAction; split
  · rename_i h; exact steady_giveUpDeferral s h.1
  · split
    · rename_i h; exact steady_enterSpinDown s h.1 h.2.1
    · split
      · rename_i h; simp [State.steady, State.counters, h.1]; rfl
      · rfl

@[simp] theorem steady_sendRecordWork : (sendRecordWork s).steady = s.steady := by
  unfold sendRecordWork; split
  · rfl
  · split <;> rfl

@[simp] theorem steady_sendChunkRead : (sendChunkRead s).steady = s.steady := by
  unfold sendChunkRead; split <;> rfl

@[simp] theorem steady_runChecks : (runChecks s).steady = s.steady := by
  refine steady_foldl _ (fun s k => ?_) _ s
  (repeat' split) <;> simp

@[simp] theorem steady_runEntry (e) : (runEntry e s).steady = s.steady := rfl

@[simp] theorem steady_chooseCommand : (chooseCommand s).steady = s.steady := by
  unfold chooseCommand
  split
  · split
    · simp
    · split
      · simp
      · dsimp only
        split
        · simp
        · split <;> simp
  · rfl

@[simp] theorem steady_reportNeed : (reportNeed s).steady = s.steady := rfl
@[simp] theorem steady_stopIdle : (stopIdle s).steady = s.steady := by unfold stopIdle; split <;> rfl
@[simp] theorem steady_updateIdle : (updateIdle s).steady = s.steady := rfl
@[simp] theorem steady_orderFresh (n) : (orderFresh n s).steady = s.steady := rfl

@[simp] theorem steady_placeRequest : (placeRequest s).steady = s.steady := by
  unfold placeRequest; split
  · dsimp only; split <;> rfl
  · rfl

@[simp] theorem steady_checkResyncBegin (e n) : (checkResyncBegin e n s).steady = s.steady := by
  unfold checkResyncBegin; split <;> simp

@[simp] theorem steady_checkPromote (e) : (checkPromote e s).steady = s.steady := by
  unfold checkPromote; (repeat' split) <;> first | rfl | simp

@[simp] theorem steady_handSpecials : (handSpecials s).steady = s.steady := by
  refine steady_foldl _ (fun s k => ?_) _ s
  (repeat' split) <;> simp

@[simp] theorem steady_dropPromotion : (dropPromotion s).steady = s.steady := by
  unfold dropPromotion; split
  · split
    · dsimp only; split
      · rw [steady_endEntry]; rfl
      · rfl
    · rfl
  · rfl

/-! ## Watch unit and announcements -/

@[simp] theorem steady_placeAwake : (placeAwake s).steady = s.steady := by
  unfold placeAwake; split
  · split
    · rfl
    · split <;> rfl
  · rfl

@[simp] theorem steady_announceChange (b) : (announceChange b s).steady = s.steady := by
  unfold announceChange; split <;> simp

@[simp] theorem steady_watchReady (m) : (watchReady m s).steady = s.steady := rfl

@[simp] theorem steady_watchRetract (p) : (watchRetract p s).2.steady = s.steady := by
  unfold watchRetract; split
  · rfl
  · simp

@[simp] theorem steady_orderWatch (l) : (orderWatch l s).steady = s.steady := rfl
@[simp] theorem steady_placeWatch : (placeWatch s).steady = s.steady := by unfold placeWatch; split <;> rfl
@[simp] theorem steady_leaveProxy (n k) : (leaveProxy n k s).steady = s.steady := rfl
@[simp] theorem steady_endProxy (st e) : (endProxy st e s).steady = s.steady := rfl

@[simp] theorem steady_endProxies (p) : (endProxies p s).steady = s.steady :=
  steady_foldl _ (fun s e => steady_endProxy s _ e) _ s

@[simp] theorem steady_gainDuty : (gainDuty s).steady = s.steady := rfl

@[simp] theorem steady_loseDuty : (loseDuty s).steady = s.steady := by
  have h : (loseDuty s).steady =
      ((withdraw .watch isDutyWork (watchRetract isDutyWork (endProxies (fun _ => true) s)).2).2).steady := rfl
  rw [h, steady_withdraw, steady_watchRetract, steady_endProxies]

@[simp] theorem steady_dutyEdge (b) : (dutyEdge b s).steady = s.steady := by
  unfold dutyEdge; split
  · simp
  · split <;> simp

@[simp] theorem steady_followTakeTest : (followTakeTest s).steady = s.steady := by
  unfold followTakeTest; (repeat' split) <;> simp

@[simp] theorem steady_followPass : (followPass s).steady = s.steady := by
  unfold followPass; split <;> simp

@[simp] theorem steady_makeWakes : (makeWakes s).steady = s.steady := by
  refine steady_foldl _ (fun s n => ?_) _ s
  split <;> simp

@[simp] theorem steady_followSleep : (followSleep s).steady = s.steady := by
  unfold followSleep; (repeat' split) <;> simp

/-! ## The whole -/

@[simp] theorem steady_settleActive (b) : (settleActive b s).steady = s.steady := by
  simp [settleActive, settleWatch, settlePower, settlePages, settleSlots, settleLane, settleMirror]

/-- The tests after an event leave the steady part of the state. -/
@[simp] theorem steady_settle (b) : (settle b s).steady = s.steady := by
  unfold settle; split
  · simp
  · split <;> simp

/-- A step gives a next state whose steady part is that of the event's own effect. -/
theorem takeEvent_steady (f : State → State) (h : s.resetAsserted = false) :
    ∃ t, takeEvent f s = .next t ∧ t.steady = (f s).steady :=
  ⟨settle s (f s), by simp [takeEvent, event, h], steady_settle _ _⟩

end Sys2Proof.Machine
end

