-- ==== Sys2Proof/Laws/Events.lean ====
section
/-!
SUPPORT. How a command is run: from its own effect to the step, and the reception of a message by cases.
-/

namespace Sys2Proof.Machine

variable {s : State}

/-! ## From the effect to the step -/

theorem event_eq (f : State → State) (h : s.resetAsserted = false) : event f s = settle s (f s) := by simp [event, h]

theorem event_reset (f : State → State) (h : s.resetAsserted = true) : event f s = s := by simp [event, h]

theorem takeEvent_eq (f : State → State) (h : s.resetAsserted = false) : takeEvent f s = .next (settle s (f s)) := by
  rw [takeEvent, event_eq f h]

/-- A command whose meaning is an event leaves the steady part of its own effect. -/
theorem leaves_of {c : Instr} {k : Steady} (f : State → State) (h : s.resetAsserted = false)
    (hc : exec c s = takeEvent f s) (hk : (f s).steady = k) : Leaves c s k :=
  ⟨_, by rw [hc, takeEvent_eq f h], by rw [steady_settle, hk]⟩

/-- A command whose meaning is an event does what its own effect does. -/
theorem does_of {c : Instr} {k : Steady} {P : State → Prop} (f : State → State) (h : s.resetAsserted = false)
    (hc : exec c s = takeEvent f s) (hk : (f s).steady = k) (hp : P (f s)) : Does c s k P :=
  ⟨f s, by rw [hc, takeEvent_eq f h], hk, hp⟩

/-- What a command does, it leaves. -/
theorem leaves_of_does {c : Instr} {k : Steady} {P : State → Prop} (h : Does c s k P) : Leaves c s k := by
  obtain ⟨u, hu, hk, _⟩ := h
  exact ⟨settle s u, hu, by rw [steady_settle, hk]⟩

/-- A command whose event changes nothing idles. -/
theorem idles_of {c : Instr} (f : State → State) (h : s.resetAsserted = false) (hc : exec c s = takeEvent f s)
    (hf : f s = s) : Idles c s := by rw [Idles, hc, takeEvent_eq f h, hf]

theorem notReset_of_takesPart (h : s.takesPart = true) : s.resetAsserted = false := by
  simp only [State.takesPart, Bool.and_eq_true, Bool.not_eq_true'] at h
  exact h.1

theorem step_front (c : Instr) (rest : List Instr) (h : s.pending = c :: rest) :
    step s = exec c (s.setPending rest) := by simp only [step, h]

theorem step_idle (h : s.pending = []) (hn : s.startsAtOnce = false) : step s = .next s := by simp [step, h, hn]

theorem step_starts (h : s.pending = []) (hn : s.startsAtOnce = true) : step s = exec .lineIdle s := by
  simp [step, h, hn]

/-! ## Own messages in force -/

/-- An own DATA piece in force does to the mirror unit what a DATA of another station does (R22, R127), where no entry holds
the own number as its origin. -/
theorem ownData_snooped (d : Station) (tag : Tag) (i : Nat) (bytes : List Byte) (o : SendOutcome) (ho : o.came = true)
    (h : s.entry ⟨s.station, tag⟩ = none) : ownData d o s = snoopData s.station d ⟨tag, i, false, bytes⟩ s := by
  simp only [ownData, snoopData, ho, State.pieceFits, h]
  simp

@[simp] theorem steady_ownData (d : Station) (o : SendOutcome) : (ownData d o s).steady = s.steady := by
  unfold ownData; split <;> simp

@[simp] theorem request_ownData (d : Station) (o : SendOutcome) : (ownData d o s).request = s.request := by
  unfold ownData setBehind; (repeat' split) <;> rfl

/-! ## Reception by cases -/

section
variable {α : Type} {inForce : Answer → Bool} {o : Station} {body : Option α} {judge : α → State → Answer × State}
  {effect : α → Answer → State → State}

theorem hear_deaf (h : s.takesPart = false ∨ o = s.station) : hear inForce o body judge effect s = s.answers .nothing := by
  simp [hear, h]

theorem hear_malformed (h : body = none) : hear inForce o body judge effect s = s.answers .nothing := by
  subst h; unfold hear; split <;> rfl

theorem hear_some {x : α} (ht : s.takesPart = true) (ho : o ≠ s.station) (h : body = some x) :
    hear inForce o body judge effect s =
      if inForce (judge x s).1 then effect x (judge x s).1 (heard o ((judge x s).2.answers (judge x s).1))
      else (judge x s).2.answers (judge x s).1 := by
  subst h; simp [hear, ht, ho]

end

@[simp] theorem steady_answers (d : Answer) : (s.answers d).steady =
    { s.steady with answer := d, counters := if d = .busy then s.counted 1 else s.counters } := by
  unfold State.answers State.counted
  by_cases h : d = .busy <;> simp [State.steady, State.counters, h]

@[simp] theorem idle_answers (d : Answer) : (s.answers d).bus.idle = false := rfl

@[simp] theorem steady_onMarks (n : Station) (f) : (onMarks n f s).steady = s.steady := rfl

@[simp] theorem steady_heard (o : Station) : (heard o s).steady = { s.steady with peers := s.heardFrom o } := by
  unfold heard
  dsimp only
  split <;> simp <;> rfl

end Sys2Proof.Machine
end

