-- ==== Sys2Proof/Laws/Order.lean ====
section
/-!
SUPPORT. The order of an outgoing list after an event (R115, R130, R161), said once: ordering loses and adds no message. And
the bound of a counter.
-/

namespace Sys2Proof.Machine

/-! ## Counters -/

theorem satInc_le {n : Nat} (h : n ≤ 65535) : satInc n ≤ 65535 := by
  unfold satInc
  split
  · rename_i h; exact h
  · exact h

theorem sendCount_le (s : State) {n : Nat} (h : n ≤ 65535) : s.sendCount n ≤ 65535 := by
  unfold State.sendCount
  split
  · exact h
  · exact satInc_le h

/-! ## Lists in order -/

theorem splitFresh_append {α : Type} [DecidableEq α] : ∀ before l : List α,
    (splitFresh before l).1 ++ (splitFresh before l).2 = l
  | [], _ => rfl
  | _ :: _, [] => rfl
  | b :: bs, m :: ms => by
    unfold splitFresh
    split
    · exact congrArg (m :: ·) (splitFresh_append bs ms)
    · exact splitFresh_append bs (m :: ms)

theorem mem_inOrder {α : Type} {n : Nat} {place : α → Nat} {l : List α} {x : α} :
    x ∈ inOrder n place l ↔ x ∈ l ∧ place x < n := by
  simp only [inOrder, List.mem_flatMap, List.mem_range, List.mem_filter, beq_iff_eq]
  constructor
  · rintro ⟨i, hi, hx, rfl⟩; exact ⟨hx, hi⟩
  · rintro ⟨hx, hi⟩; exact ⟨_, hi, hx, rfl⟩

theorem placeIn_le (q : List Entry) (k : Option Key) : placeIn q k ≤ q.length := List.findIdx_le_length

theorem rank_lt (self : Station) (m : OutMsg) : m.rank self < 32 := by
  unfold OutMsg.rank
  split <;> try omega
  split <;> omega

/-- R115: what the request unit holds, in order. -/
theorem mem_orderFresh (n : Nat) (s : State) (m : ReqOut) :
    m ∈ (orderFresh n s).request.out ↔ m ∈ s.request.out := by
  have h := List.take_append_drop n s.request.out
  simp only [orderFresh, State.onRequest, List.mem_append, mem_inOrder, Nat.lt_succ_iff, placeIn_le, and_true]
  rw [← List.mem_append, h]

/-- R130: what the mirror unit holds, in order. -/
theorem mem_orderMirror (before : List OutMsg) (s : State) (m : OutMsg) :
    m ∈ (orderMirror before s).mirror.out ↔ m ∈ s.mirror.out := by
  have h := splitFresh_append before (s.mirror.out.dropWhile (·.again))
  have g := List.takeWhile_append_dropWhile (p := (·.again)) (l := s.mirror.out)
  simp only [orderMirror, State.onMirror, List.mem_append, mem_inOrder, Nat.lt_succ_iff, placeIn_le, and_true, or_assoc]
  rw [← List.mem_append (s := (splitFresh _ _).1), h, ← List.mem_append, g]

/-- R161: what the watch unit holds, in order. -/
theorem mem_orderWatch (before : List OutMsg) (s : State) (m : OutMsg) :
    m ∈ (orderWatch before s).watch.out ↔ m ∈ s.watch.out := by
  simp only [orderWatch, State.onWatch, List.mem_append, mem_inOrder, rank_lt, and_true]
  rw [← List.mem_append, splitFresh_append]

/-! ## The lane -/

theorem laneBlocks_entry (s : State) {f : Flight} {b : BlockNo} {n : Nat} {k : Key} {e : Entry} (hf : s.drive.flight = some f)
    (hc : f.cmd = .write b n) (hr : f.requester = .entry k) (he : s.entry k = some e) :
    s.laneBlocks = e.pages.map (readPage s.buffer) := by
  simp only [State.laneBlocks, hf, hc, hr, he]

end Sys2Proof.Machine
end

