-- ==== Sys2Proof/Laws/PerInstr.lean ====
section
/-!
SUPPORT. The family Payload: what holds of the payload of every well-formed command, one lemma for each constructor.
-/

namespace Sys2Proof.Laws.Payload

/-- A well-formed command brings at most 520 payload bytes (section 1.2, length field). -/
def Statement (i : Instr) : Prop := i.wellFormed = true → i.payload.length ≤ 520

theorem of_none {i : Instr} (h : i.payload = []) : Statement i := fun _ => by rw [h]; exact Nat.zero_le _

theorem of_ok {i : Instr} {p : List Byte} (hp : i.payload = p) (h : i.wellFormed = true → payloadOk p = true) :
    Statement i := fun hw => by rw [hp]; exact of_decide_eq_true (h hw)

theorem of_both {a b : Bool} (h : (a && b) = true) : a = true := by cases a <;> trivial

theorem resetAssert : Statement .resetAssert := of_none rfl
theorem resetRelease (straps : BitVec 4) : Statement (.resetRelease straps) := of_none rfl
theorem settingsReadDone (r : SettingsRead) : Statement (.settingsReadDone r) := of_none rfl
theorem lineIdle : Statement .lineIdle := of_none rfl
theorem arbitrationLost : Statement .arbitrationLost := of_none rfl
theorem sendSpoiled : Statement .sendSpoiled := of_none rfl
theorem sendOutcome (ack obj : Bool) : Statement (.sendOutcome ack obj) := of_none rfl
theorem checkError (f : Frame) : Statement (.checkError f) := of_ok rfl of_both
theorem fillErrorDrop : Statement .fillErrorDrop := of_none rfl
theorem malformedDrop (h : Header) : Statement (.malformedDrop h) := of_none rfl
theorem claimReceived (o : Station) (p : List Byte) (a : AnswerSlot) : Statement (.claimReceived o p a) := of_ok rfl id
theorem releaseReceived (o : Station) (p : List Byte) (a : AnswerSlot) :
    Statement (.releaseReceived o p a) := of_ok rfl id
theorem queryReceived (o : Station) (p : List Byte) (a : AnswerSlot) : Statement (.queryReceived o p a) := of_ok rfl id
theorem tableTimerExpiry : Statement .tableTimerExpiry := of_none rfl
theorem tableReceived (o : Station) (p : List Byte) (a : AnswerSlot) : Statement (.tableReceived o p a) := of_ok rfl id
theorem awakeReceived (o : Station) (p : List Byte) (a : AnswerSlot) : Statement (.awakeReceived o p a) := of_ok rfl id
theorem asleepReceived (o : Station) (p : List Byte) (a : AnswerSlot) :
    Statement (.asleepReceived o p a) := of_ok rfl id
theorem wakeReceived (o : Station) (p : List Byte) (a : AnswerSlot) : Statement (.wakeReceived o p a) := of_ok rfl id
theorem absentReceived (o : Station) (p : List Byte) (a : AnswerSlot) :
    Statement (.absentReceived o p a) := of_ok rfl id
theorem watchTakeReceived (o : Station) (p : List Byte) (a : AnswerSlot) :
    Statement (.watchTakeReceived o p a) := of_ok rfl id
theorem watchPassReceived (o t : Station) (p : List Byte) (a : AnswerSlot) :
    Statement (.watchPassReceived o t p a) := of_ok rfl of_both
theorem doneReceived (o t : Station) (p : List Byte) (a : AnswerSlot) :
    Statement (.doneReceived o t p a) := of_ok rfl of_both
theorem mirrorAckReceived (o t : Station) (p : List Byte) (a : AnswerSlot) :
    Statement (.mirrorAckReceived o t p a) := of_ok rfl of_both
theorem mirrorMissReceived (o t : Station) (p : List Byte) (a : AnswerSlot) :
    Statement (.mirrorMissReceived o t p a) := of_ok rfl of_both
theorem resyncBeginReceived (o t : Station) (p : List Byte) (a : AnswerSlot) :
    Statement (.resyncBeginReceived o t p a) := of_ok rfl of_both
theorem resyncEndReceived (o t : Station) (p : List Byte) (a : AnswerSlot) :
    Statement (.resyncEndReceived o t p a) := of_ok rfl of_both
theorem promoteReceived (o t : Station) (p : List Byte) (a : AnswerSlot) :
    Statement (.promoteReceived o t p a) := of_ok rfl of_both
theorem readReceived (o t : Station) (p : List Byte) (a : AnswerSlot) :
    Statement (.readReceived o t p a) := of_ok rfl of_both
theorem writeReceived (o t : Station) (p : List Byte) (a : AnswerSlot) :
    Statement (.writeReceived o t p a) := of_ok rfl of_both
theorem syncReceived (o t : Station) (p : List Byte) (a : AnswerSlot) :
    Statement (.syncReceived o t p a) := of_ok rfl of_both
theorem resyncWriteReceived (o t : Station) (p : List Byte) (a : AnswerSlot) :
    Statement (.resyncWriteReceived o t p a) := of_ok rfl of_both
theorem cancelReceived (o t : Station) (p : List Byte) (a : AnswerSlot) :
    Statement (.cancelReceived o t p a) := of_ok rfl of_both
theorem clearFaultReceived (o t : Station) (p : List Byte) (a : AnswerSlot) :
    Statement (.clearFaultReceived o t p a) := of_ok rfl of_both
theorem probeReceived (o t : Station) (p : List Byte) (a : AnswerSlot) :
    Statement (.probeReceived o t p a) := of_ok rfl of_both
theorem forwardReceived (o t : Station) (p : List Byte) (a : AnswerSlot) :
    Statement (.forwardReceived o t p a) := of_ok rfl of_both
theorem dataReceived (o t : Station) (p : List Byte) (a : AnswerSlot) :
    Statement (.dataReceived o t p a) := of_ok rfl of_both
theorem reportReceived (o t : Station) (p : List Byte) (a : AnswerSlot) :
    Statement (.reportReceived o t p a) := of_ok rfl of_both
theorem announcementTimerExpiry : Statement .announcementTimerExpiry := of_none rfl
theorem claimHoldOffExpiry : Statement .claimHoldOffExpiry := of_none rfl
theorem deferralEnd : Statement .deferralEnd := of_none rfl
theorem deferralGiveUp : Statement .deferralGiveUp := of_none rfl
theorem readyLineHigh : Statement .readyLineHigh := of_none rfl
theorem readyWaitExpiry : Statement .readyWaitExpiry := of_none rfl
theorem identifyReply (r : IdentifyReply) : Statement (.identifyReply r) := of_none rfl
theorem driveReply (r : LaneReply) : Statement (.driveReply r) := of_none rfl
theorem commandTimeout : Statement .commandTimeout := of_none rfl
theorem idleLimit : Statement .idleLimit := of_none rfl
theorem spinDownSyncReply (r : SyncEnd) : Statement (.spinDownSyncReply r) := of_none rfl
theorem recordLoadReply (r : LaneReply) : Statement (.recordLoadReply r) := of_none rfl
theorem recordWriteReply (r : LaneReply) : Statement (.recordWriteReply r) := of_none rfl
theorem promotionWriteReply (r : LaneReply) : Statement (.promotionWriteReply r) := of_none rfl
theorem chunkPagesTaken : Statement .chunkPagesTaken := of_none rfl
theorem chunkReadReply (r : LaneReply) : Statement (.chunkReadReply r) := of_none rfl
theorem resyncRetryWaitEnd : Statement .resyncRetryWaitEnd := of_none rfl
theorem replyWaitExpiry : Statement .replyWaitExpiry := of_none rfl
theorem resyncHoldOffExpiry : Statement .resyncHoldOffExpiry := of_none rfl
theorem resyncWakeIntervalExpiry : Statement .resyncWakeIntervalExpiry := of_none rfl
theorem conversionDone (result : BitVec 10) : Statement (.conversionDone result) := of_none rfl
theorem comparatorOver : Statement .comparatorOver := of_none rfl
theorem excursionFiltered : Statement .excursionFiltered := of_none rfl
theorem switchHoldEnd (current : Nat) : Statement (.switchHoldEnd current) := of_none rfl
theorem trip : Statement .trip := of_none rfl
theorem dataTimeout (k : Key) : Statement (.dataTimeout k) := of_none rfl
theorem ageLimit (k : Key) : Statement (.ageLimit k) := of_none rfl
theorem dataRetryWaitEnd (k : Key) : Statement (.dataRetryWaitEnd k) := of_none rfl
theorem mirrorWaitTimeout (k : Key) : Statement (.mirrorWaitTimeout k) := of_none rfl
theorem asleepPlaced : Statement .asleepPlaced := of_none rfl
theorem sleepRetryHoldExpiry : Statement .sleepRetryHoldExpiry := of_none rfl
theorem watchTakeTest : Statement .watchTakeTest := of_none rfl
theorem takeHoldOffExpiry : Statement .takeHoldOffExpiry := of_none rfl
theorem termTimerExpiry : Statement .termTimerExpiry := of_none rfl
theorem passCheck : Statement .passCheck := of_none rfl
theorem absenceTest : Statement .absenceTest := of_none rfl
theorem absenceHoldExpiry (who : Station) : Statement (.absenceHoldExpiry who) := of_none rfl
theorem wakingMarkExpiry (who : Station) : Statement (.wakingMarkExpiry who) := of_none rfl
theorem wakeRepeat (who : Station) : Statement (.wakeRepeat who) := of_none rfl
theorem proxyTimeout (target : Station) (k : Key) : Statement (.proxyTimeout target k) := of_none rfl
theorem forwardRetry (target : Station) (k : Key) : Statement (.forwardRetry target k) := of_none rfl
theorem tickAdvance : Statement .tickAdvance := of_none rfl
theorem arbitrationWon : Statement .arbitrationWon := of_none rfl

end Sys2Proof.Laws.Payload
end

