-- ==== Sys2Proof/Laws/Regions.lean ====
section
/-!
SUPPORT. The region that the resync engine chooses (R148): the lowest marked one at or above the cursor, else the lowest marked
one, and none when no mark is left.
-/

namespace Sys2Proof.Machine

theorem findRegion {g : Fin 256 → Bool} {r : Fin 256} (hr : g r = true) (hq : ∀ q, q < r → g q = false) :
    (List.finRange 256).find? g = some r := by
  rw [List.find?_eq_some_iff_getElem]
  refine ⟨hr, r.val, by simp, by simp, fun j hj => ?_⟩
  simp only [List.getElem_finRange]
  rw [hq _ (by simpa [Fin.lt_def] using hj)]
  rfl

theorem findNoRegion {g : Fin 256 → Bool} (hq : ∀ q, g q = false) : (List.finRange 256).find? g = none := by
  rw [List.find?_eq_none]
  intro q _
  simp [hq q]

theorem chooseRegion_some {d : BitVec 256} {cursor r : Fin 256} (hr : d.getLsbD r.val = true)
    (h : (cursor ≤ r ∧ ∀ q : Fin 256, cursor ≤ q → q < r → d.getLsbD q.val = false)
      ∨ ((∀ q : Fin 256, cursor ≤ q → d.getLsbD q.val = false) ∧ ∀ q : Fin 256, q < r → d.getLsbD q.val = false)) :
    chooseRegion d cursor = some r := by
  unfold chooseRegion
  dsimp only
  rcases h with ⟨h₁, h₂⟩ | ⟨h₁, h₂⟩
  · rw [findRegion (r := r) (by simp only [h₁, hr, decide_true, Bool.and_true]) fun q hq => ?_]
    by_cases hc : cursor ≤ q
    · simp only [h₂ q hc hq, Bool.and_false]
    · simp only [hc, decide_false, Bool.false_and]
  · rw [findNoRegion fun q => ?_]
    · exact findRegion hr h₂
    · by_cases hc : cursor ≤ q
      · simp only [h₁ q hc, Bool.and_false]
      · simp only [hc, decide_false, Bool.false_and]

theorem chooseRegion_none (cursor : Fin 256) : chooseRegion 0 cursor = none := by
  unfold chooseRegion
  dsimp only
  rw [findNoRegion fun q => by simp, findNoRegion fun q => by simp]

end Sys2Proof.Machine
end

