-- ==== Sys2Proof/Laws/Retract.lean ====
section
/-!
SUPPORT. Messages taken back: a withdrawal from a slot (R19), and a message taken out of an outgoing list or else withdrawn from
its owner's slot (R44, R161); and a resync stopped.
-/

namespace Sys2Proof.Machine

variable {p : OutMsg → Bool}

@[simp] theorem set_get (x : Slots) (i : SlotId) : x.set i (x.get i) = x := by cases i <;> rfl

@[simp] theorem get_set (x : Slots) (i : SlotId) (m : Option OutMsg) : (x.set i m).get i = m := by cases i <;> rfl

/-- State `u` is state `s` after the withdrawal of a message of form `p` from slot `i`: at once, or, on the line, held until
arbitration ends or refused after the win. -/
structure TakenBack (i : SlotId) (p : OutMsg → Bool) (s u : State) : Prop where
  frame : u = { s with bus := { s.bus with slots := s.bus.slots.set i (u.slot i), sending := u.bus.sending } }
  slot : u.slot i = if s.slotHolds i p ∧ s.onLine i = false then none else s.slot i
  sending : u.bus.sending = if s.slotHolds i p then
      s.bus.sending.map fun y => if y.slot = i then { y with withdrawal := if y.won then .refused else .held } else y
    else s.bus.sending

/-- R19: what a withdrawal does, and when it is taken at once. -/
theorem withdraw_spec (i : SlotId) (p : OutMsg → Bool) (s : State) :
    TakenBack i p s (withdraw i p s).2 ∧ (withdraw i p s).1 = (s.slotHolds i p && !s.onLine i) := by
  unfold withdraw
  by_cases h : s.slotHolds i p = true
  · simp only [h, if_true]
    cases hs : s.bus.sending with
    | none => refine ⟨⟨?_, ?_, ?_⟩, ?_⟩ <;> simp [State.putSlot, State.onBus, State.slot, h, hs, State.onLine]
    | some t =>
      by_cases ht : t.slot = i
      · simp only [ht, if_true]
        refine ⟨⟨?_, ?_, ?_⟩, ?_⟩ <;> simp [State.onBus, State.slot, h, hs, State.onLine, ht]
      · simp only [ht, if_false]
        refine ⟨⟨?_, ?_, ?_⟩, ?_⟩ <;> simp [State.putSlot, State.onBus, State.slot, h, hs, State.onLine, ht]
  · simp only [h]
    refine ⟨⟨?_, ?_, ?_⟩, ?_⟩ <;> simp [State.slot, h]

theorem filter_of_none {l : List OutMsg} (h : l.any p = false) : l.filter (fun m => !p m) = l := by
  rw [List.filter_eq_self]
  intro m hm
  have := (List.any_eq_false.mp h) m hm
  simpa using this

/-- R44: a message taken out of the budget unit's list, or else out of the BUDGET slot. -/
theorem budgetRetract_spec (p : OutMsg → Bool) (s : State) :
    let u := (budgetRetract p s).2
    u = { s with bus := u.bus, claim := { s.claim with out := u.claim.out } }
    ∧ u.claim.out = s.claim.out.filter (fun m => !p m)
    ∧ (s.claim.out.any p = true → u.bus = s.bus)
    ∧ (s.claim.out.any p = false → TakenBack .budget p s u) := by
  unfold budgetRetract
  by_cases h : s.claim.out.any p = true
  · rw [if_pos h]; exact ⟨rfl, rfl, fun _ => rfl, fun h' => absurd h (by rw [h']; decide)⟩
  · have h' : s.claim.out.any p = false := by simpa using h
    have hw := (withdraw_spec .budget p s).1
    rw [if_neg h]
    exact ⟨by rw [hw.frame], by rw [filter_of_none h', hw.frame], fun h2 => absurd h2 h, fun _ => hw⟩

/-- R161: a message taken out of the watch unit's list, or else out of the WATCH slot. -/
theorem watchRetract_spec (p : OutMsg → Bool) (s : State) :
    let u := (watchRetract p s).2
    u = { s with bus := u.bus, watch := { s.watch with out := u.watch.out } }
    ∧ u.watch.out = s.watch.out.filter (fun m => !p m)
    ∧ (s.watch.out.any p = true → u.bus = s.bus)
    ∧ (s.watch.out.any p = false → TakenBack .watch p s u)
    ∧ (watchRetract p s).1 = (s.watch.out.any p || (s.slotHolds .watch p && !s.onLine .watch)) := by
  unfold watchRetract
  by_cases h : s.watch.out.any p = true
  · rw [if_pos h]; exact ⟨rfl, rfl, fun _ => rfl, fun h' => absurd h (by rw [h']; decide), by simp [h]⟩
  · have h' : s.watch.out.any p = false := by simpa using h
    have hw := (withdraw_spec .watch p s).1
    rw [if_neg h]
    exact ⟨by rw [hw.frame], by rw [filter_of_none h', hw.frame], fun h2 => absurd h2 h, fun _ => hw,
      by rw [(withdraw_spec .watch p s).2, h']; rfl⟩

/-! ## The resync stops -/

/-- R153: a stop of the resync without hold-off touches the engine, the slots, the lane's requester and the engine's own
messages. -/
theorem stopResync_spec (s : State) :
    let u := stopResync false s
    u = { s with
      bus := u.bus, engine := u.engine, mirror := { s.mirror with out := u.mirror.out }
      drive := { s.drive with flight := u.drive.flight } }
    ∧ u.engine.state = .idle ∧ ∀ m ∈ s.mirror.out, isEngineMirror m = false → m ∈ u.mirror.out := by
  dsimp only
  unfold stopResync
  split
  · rename_i h; exact ⟨rfl, h, fun m hm _ => hm⟩
  · dsimp only
    unfold withdrawEngine
    dsimp only
    have h₁ := (withdraw_spec .mirror isEngineMirror
      (s.onMirror fun x => { x with out := x.out.filter fun m => !isEngineMirror m })).1.frame
    generalize (withdraw .mirror isEngineMirror
      (s.onMirror fun x => { x with out := x.out.filter fun m => !isEngineMirror m })).2 = v at h₁ ⊢
    have h₂ := (withdraw_spec .resync isEngineResync v).1.frame
    generalize (withdraw .resync isEngineResync v).2 = w at h₂ ⊢
    rw [h₁] at h₂
    split
    all_goals rw [h₂]
    all_goals refine ⟨rfl, rfl, fun m hm he => ?_⟩
    all_goals simp [State.onMirror, orphanRead, hm, he]

end Sys2Proof.Machine
end

