-- ==== Sys2Proof/Tests/Slice0.lean ====
section
/-!
SUPPORT. Tests: ill-formed commands that the check refuses, worked values of the manual, and for each obligation with
hypotheses a state and operands that meet them, clause by clause.
-/

namespace Sys2Proof.Tests
open Sys2Proof Sys2Proof.Machine
set_option Elab.async false

/-! ## The check of a command's operands -/

def long : List Byte := List.replicate 521 0
def quiet : AnswerSlot := ⟨false, false, false⟩
def acked : AnswerSlot := ⟨true, false, false⟩
def objected : AnswerSlot := ⟨false, true, false⟩
def cut : AnswerSlot := ⟨false, false, true⟩
def block : List Byte := List.replicate 512 7

theorem test_payload_over_520_is_refused : (Instr.claimReceived 1 long quiet).wellFormed = false := by decide +kernel
theorem test_targeted_payload_over_520_is_refused : (Instr.dataReceived 1 2 long quiet).wellFormed = false := by
  decide +kernel
theorem test_message_to_its_sender_is_refused : (Instr.readReceived 4 4 [] quiet).wellFormed = false := by decide +kernel
theorem test_short_settings_block_is_refused :
    (Instr.settingsReadDone (.bytes (List.replicate 15 0))).wellFormed = false := by decide +kernel
theorem test_frame_of_wrong_length_is_refused :
    (Instr.checkError ⟨⟨0, 1, 31, 0, 2⟩, [1], 0⟩).wellFormed = false := by decide +kernel
theorem test_reply_of_65_blocks_is_refused :
    (Instr.driveReply (.ok (List.replicate 65 block))).wellFormed = false := by decide +kernel
theorem test_media_error_with_64_blocks_is_refused :
    (Instr.chunkReadReply (.mediaError 9 (List.replicate 64 block))).wellFormed = false := by decide +kernel
theorem test_short_block_is_refused : (Instr.recordLoadReply (.ok [List.replicate 511 0])).wellFormed = false := by
  decide +kernel
theorem test_full_payload_is_accepted : (Instr.dataReceived 1 2 (List.replicate 520 0) quiet).wellFormed = true := by
  decide +kernel

/-! ## States to start from -/

def conf (mode : Role) : Settings :=
  { budget := 20, spinCost := 5, runCost := 2, mode := mode, partner := 5, freshPair := false, idleLimit := 1
    sleepDelay := 1, watchTerm := 1, runTrip := 10, spinTrip := 20, filterWidth := 2, tempLimit := 50
    wakeThreshold := 1 }

/-- Station 3, LISTENING, its census COMPLETE, partner 5, drive OFF. -/
def live (mode : Role) : State :=
  { State.reset with
    station := 3, power := .listening, settingsResult := some .good, settings := some (conf mode), tick := 20000
    shelf := { Shelf.reset with budget := 20, census := .complete }
    mirror := { MirrorUnit.reset [] with role := mode, epoch := 2, regionSize := 8, cond := .opened } }

def one : State := live .single
def prim : State := live .primary
def secd : State := live .secondary

def sends (i : SlotId) (m : OutMsg) (s : State) : State :=
  { s with bus := { s.bus with
      slots := s.bus.slots.set i (some m)
      sending := some ⟨i, m, s.frameFor m, true, .notAsked⟩ } }

/-- The transmission that `sends` puts on the line. -/
def sent (i : SlotId) (m : OutMsg) (s : State) : Sending := ⟨i, m, s.frameFor m, true, .notAsked⟩

def entryOf (kind : EntryKind) (st : EntryState) : Entry :=
  { key := ⟨1, 7⟩, kind := kind, extent := some ⟨16, 2⟩, state := st, pages := [0, 1], pieces := [], lastPiece := some 19800
    queued := some 14000, forwardedBy := none, cancelLate := false, ackEarly := false, send := some ⟨0, 0, none⟩
    status := none }

def withEntry (e : Entry) (s : State) : State := { s with request := { s.request with queue := [e] } }
def inDrive (d : DriveState) (s : State) : State := { s with drive := { s.drive with state := d } }
def withFlight (c : LaneCmd) (r : Requester) (t : Tick) (s : State) : State :=
  { s with drive := { s.drive with flight := some ⟨c, r, t⟩ } }
def withPeer (n : Station) (p : PresenceState) (s : State) : State :=
  { s with peers := s.peers.set n { s.peers[n] with state := p } }
def withShelf (f : Shelf → Shelf) (s : State) : State := { s with shelf := f s.shelf }
def withRecord (c : Fin 6) (r : SampleRecord) (s : State) : State :=
  { s with supply := { s.supply with records := s.supply.records.set c r } }
def withMirror (g : MirrorUnit → MirrorUnit) (s : State) : State := { s with mirror := g s.mirror }
def withEngine (g : ResyncEngine → ResyncEngine) (s : State) : State := { s with engine := g s.engine }
def holder (s : State) : State := withShelf (fun x => { x with watch := some 3 }) s
/-- A full request queue. -/
def full (s : State) : State :=
  { s with request := { s.request with
      queue := (List.range 16).map fun i => { entryOf .sync .queued with key := ⟨9, BitVec.ofNat 8 i⟩, pages := [] } } }

/-- The size of the drive known. -/
def sized (s : State) : State := { s with drive := { s.drive with usable := 1016 } }

def extentBytes : List Byte := [7, 0, 0, 0, 16, 2]
def good : List Byte := [0xE5, 20, 5, 2, 1, 5, 0, 1, 1, 1, 10, 20, 2, 50, 1, 73]

/-! ## Worked values -/

/-- R4: the check value of nine bytes, a value known for this polynomial and start value. -/
theorem test_check_value : checkOfBits (bitsOfBytes [49, 50, 51, 52, 53, 54, 55, 56, 57]) = 0x29B1 := by decide +kernel

/-- R122: the regions of a drive of 976,773,160 usable blocks. -/
theorem test_regions_of_the_manual :
    regionSizeOf 976773160 = 3815521 ∧ regionsOf 3815521 976773160 ⟨3815520, 2⟩ = 3
    ∧ regionsOf 3815521 976773160 ⟨972957855, 1⟩ = 1#256 <<< 255 := by decide +kernel

/-- Section 3.8, steps 1, 2 and 4: bay 5 is admitted, bay 8 joins the empty list, bay 12 waits behind it. -/
theorem test_claims_of_section_3_8 :
    let h : Nat → Nat → Vector Nat 16 := fun five nine =>
      ((((Vector.replicate 16 0).set 5 five).set 9 nine).set 11 2)
    let x : Shelf := { Shelf.reset with budget := 10, census := .complete, holdings := h 0 4 }
    x.decide 5 4 = (.admitted, { x with holdings := h 4 4 })
    ∧ ({ x with holdings := h 4 4 }.decide 8 4 = (.refused, { x with holdings := h 4 4, waiters := [⟨8, 4⟩] }))
    ∧ ({ x with holdings := h 4 2, waiters := [⟨8, 4⟩] }.decide 12 2 =
      (.refused, { x with holdings := h 4 2, waiters := [⟨8, 4⟩, ⟨12, 2⟩] })) := by decide +kernel

/-- Section 5.2.1: a result of 1023 at ×4 is converted again at ×1, where 325 is recorded. -/
theorem test_conversions_of_section_5_2_1 :
    Sampler.reset.convert 1023 = { Sampler.reset with gain := .x1 }
    ∧ ({ Sampler.reset with gain := .x1 }.convert 325).records[0] = ⟨325, .x1, false, 1, true⟩ := by decide +kernel

/-- R1: five equal levels bring a fill bit of the other level, and six are refused. -/
theorem test_fill_bits :
    fill [false, false, false, false, false, false] = [false, false, false, false, false, true, false]
    ∧ unfill [false, false, false, false, false, false] = none := by decide +kernel

/-- R74: of two blocks read from block 16, a failure at block 17 leaves the second page as it was. -/
theorem test_failing_block : readBlocks 16 (.mediaError 17 [[1], [2]]) = [[1]] ∧ readBlocks 16 (.ok [[1], [2]]) = [[1], [2]] :=
  ⟨rfl, rfl⟩

/-- R88: level 10 trips at 352 mA. -/
theorem test_threshold_of_a_level :
    let s : State := { one with comp := ⟨some .run, false, false⟩ }
    s.threshold = some 352 ∧ s.isOver 352 = true ∧ s.isOver 351 = false := by decide +kernel

/-- R79: a READY drive whose command has ended spins down although HOT has cleared meanwhile. -/
theorem test_hot_stop_outlasts_hot :
    let s := withFlight .sync (.entry ⟨1, 7⟩) 19990 (inDrive .ready { one with supply := { one.supply with hot := true } })
    let t := hotAction s
    t.drive.hotStop = true
    ∧ (hotAction (freeLane { t with supply := { t.supply with hot := false } })).drive.state = .spinDown := by decide +kernel

/-- R161: a message like one that waits already is still one of this event. -/
theorem test_fresh_message_like_a_waiting_one :
    splitFresh [OutMsg.watchTake, .absent 1] [.absent 1, .absent 1] = ([OutMsg.absent 1], [.absent 1]) := by decide +kernel

/-- A PRIMARY with a QUERY pending. -/
def asking : State := { prim with bus := { prim.bus with slots := { Slots.empty with budget := some .query } } }

/-- R2: a line counted idle with nothing pending stays idle, and a message that becomes pending then starts at once. -/
theorem test_line_idle_for_longer :
    (startSend prim).bus.idle = true ∧ prim.startsAtOnce = false
    ∧ (let s : State := { asking with bus := { asking.bus with idle := true } }
       s.startsAtOnce = true ∧ (startSend s).bus.idle = false
       ∧ (startSend s).bus.sending.map (·.msg) = some OutMsg.query) := by decide +kernel

/-- R171, R155: a WAKE that waits in the MIRROR slot is pending for the station it marks. -/
theorem test_mirror_wake_is_pending :
    let s : State := withMirror (fun m => { m with out := [.wake 32 .read] }) (holder one)
    s.wakePending 5 = true ∧ s.wakePending 6 = false := by decide +kernel

/-! ## Every hypothesis is met -/

theorem test_meets_StepRunsFrontCommand :
    State.reset.pending = [] ∧ State.reset.bus.idle = false
    ∧ (let s : State := { asking with bus := { asking.bus with idle := true } }
       s.pending = [] ∧ s.bus.idle = true ∧ s.bus.sending = none ∧ s.nextToSend ≠ none)
    ∧ (sends .budget .query prim).bus.sending ≠ none ∧ prim.nextToSend = none := by decide +kernel

theorem test_meets_EveryCommandAnswersANextState :
    one.assertReset.resetAsserted = true ∧ Instr.trip ≠ .resetAssert ∧ ∀ p, Instr.trip ≠ .resetRelease p := by decide +kernel

theorem test_meets_ResetLeavesItsValues :
    one.assertReset.resetAsserted = true := rfl

theorem test_meets_SettingsReadDecidesThePart :
    good.length = 16 ∧ good.getD 0 0 = 0xE5 ∧ (good.map (·.toNat)).sum % 256 = 0xA5
    ∧ (List.replicate 16 (0 : Byte)).length = 16 ∧ (List.replicate 16 (0 : Byte)).getD 0 0 ≠ 0xE5
    ∧ ((0xE5 :: List.replicate 15 (0 : Byte)).map (·.toNat)).sum % 256 ≠ 0xA5
    ∧ [true, false, true] ≠ [true, true, true] ∧ ([] : List Byte).length ≠ 16
    ∧ State.reset.resetAsserted = false ∧ State.reset.power = .starting ∧ State.reset.settingsResult = none
    ∧ (testSettings State.reset.station .notAcknowledged).1 ≠ .good
    ∧ testSettings State.reset.station (.bytes good) = (.good, some (conf .primary)) := by decide +kernel

theorem test_meets_IdleLineTakesTheLowestMessage :
    let s : State := { prim with bus := { prim.bus with
      slots := { Slots.empty with presence := some .awake, budget := some .query } } }
    (s.takesPart = true ∧ s.bus.sending = none ∧ s.slot .budget = some .query ∧ ∀ j n, s.slot j = some n →
      classOfKind OutMsg.query.kind < classOfKind n.kind
        ∨ classOfKind OutMsg.query.kind = classOfKind n.kind ∧ SlotId.budget.number ≤ j.number)
    ∧ (prim.takesPart = true ∧ ∀ i, prim.slot i = none)
    ∧ (let u : State := { one with power := .unset, bus := { one.bus with
        slots := { Slots.empty with request := some (.report 0 1 0 []) } } }
       u.resetAsserted = false ∧ u.power = .unset ∧ u.bus.sending = none ∧ u.slot .request = some (.report 0 1 0 []))
    ∧ (let u : State := { prim with power := PowerState.sleeping }
       u.resetAsserted = false ∧ u.power = .sleeping ∧ u.bus.sending = none)
    ∧ (carriesMessage .fillErrorDrop = true ∧ carriesMessage .trip = false ∧ Instr.trip ≠ .lineIdle
      ∧ Instr.trip ≠ .resetAssert ∧ (sends .budget .query prim).bus.sending ≠ none) := by
  refine ⟨⟨rfl, rfl, rfl, ?_⟩, ⟨rfl, by intro i; cases i <;> rfl⟩, by decide +kernel, by decide +kernel, by decide +kernel⟩
  intro j n h
  cases j <;> cases h <;> decide

theorem test_meets_ArbitrationLostOrWon :
    let x := { sent .budget (.claim 5) prim with won := false }
    let s := sends .budget (.claim 5) prim
    let t : Sending → State := fun y => { s with bus := { s.bus with sending := some y } }
    ((t x).resetAsserted = false ∧ (t x).bus.sending = some x ∧ x.won = false ∧ x.withdrawal ≠ .held)
    ∧ (let y := { x with withdrawal := .held }; (t y).bus.sending = some y ∧ y.won = false ∧ y.withdrawal = .held) := by decide +kernel

theorem test_meets_OutcomeIsReportedToTheOwner :
    (OutMsg.watchPass 4).dest = some 4 ∧ OutMsg.awake.dest = none
    ∧ (∀ p ∈ [(SlotId.presence, OutMsg.awake), (.budget, .table 2), (.watch, .wake 32 .proxy), (.mirror, .wake 32 .resync),
        (.mirror, .wake 32 .read), (.watch, .absent 5), (.watch, .watchTake), (.watch, .watchPass 5),
        (.mirror, .mirrorAck 5 ⟨1, 7⟩ 16 3 true), (.mirror, .mirrorMiss 5 ⟨1, 7⟩ 16 2 2 true)],
      (sends p.1 p.2 (holder prim)).resetAsserted = false
      ∧ (sends p.1 p.2 (holder prim)).bus.sending = some (sent p.1 p.2 (holder prim))
      ∧ (sent p.1 p.2 (holder prim)).won = true ∧ (sent p.1 p.2 (holder prim)).msg = p.2)
    ∧ (holder prim).claim.out.any (isTableFor 2) = false ∧ [OutMsg.table 2].any (isTableFor 2) = true
    ∧ (holder prim).duty = true ∧ (5 : Station) ≠ prim.station ∧ 2 + 1 < 4 ∧ 4 ≤ 3 + 1 := by decide +kernel

theorem test_meets_OutcomeIsReportedToTheOwner_wakes :
    let s : State := withMirror (fun m => { m with dirty := 1 }) (withPeer 5 .sleeping prim)
    let r := withEntry (entryOf .read .queued) (withPeer 5 .sleeping secd)
    (s.takesPart = true ∧ s.partner = some 5 ∧ s.settings = some (conf .primary) ∧ s.mirror.role = .primary
      ∧ (conf .primary).wakeThreshold ≠ 0 ∧ (conf .primary).wakeThreshold ≤ s.dirtyCount
      ∧ (s.presence 5).state = .sleeping ∧ s.mirror.wakeInterval = none ∧ s.mirror.out.any isResyncWake = false
      ∧ s.slotHolds .mirror isResyncWake = false)
    ∧ (let t := settle s s
       t.mirror.role = .primary ∧ (conf .primary).wakeThreshold ≤ t.dirtyCount ∧ (t.presence 5).state = .sleeping
       ∧ t.mirror.wakeInterval = none)
    ∧ ¬ (conf .primary).wakeThreshold ≤ prim.dirtyCount
    ∧ (r.entry ⟨1, 7⟩ = some (entryOf .read .queued) ∧ r.partner = some 5 ∧ r.mirror.role = .secondary
      ∧ (r.presence 5).state ≠ .listening ∧ r.mirror.readWake = false)
    ∧ ((withPeer 5 .listening secd).presence 5).state = .listening := by decide +kernel

theorem test_meets_OwnClaimIsDecidedInOwnTables :
    let s := sends .budget (.claim 5) one
    let x := sent .budget (.claim 5) one
    let up := withRecord 4 { SampleRecord.reset with value := 675, valid := true } s
    let w := withEntry (entryOf .read .queued) one
    let t := settle w w
    (w.takesPart = true ∧ w.settings = some (conf .single) ∧ t.shelf.census = .complete ∧ t.drive.need = true
      ∧ t.drive.state = .off ∧ t.supply.hot = false ∧ t.ownHolding = 0 ∧ t.claim.holdOff = none
      ∧ (conf .single).spinCost ≤ t.shelf.budget ∧ w.claim.state = .none ∧ t.claim.state = .asking)
    ∧ (s.resetAsserted = false ∧ s.bus.sending = some x ∧ x.won = true ∧ x.msg = .claim 5 ∧ s.ownHolding = 0
      ∧ 5 ≤ s.shelf.budget)
    ∧ (up.shelf.admits up.station 5 = true ∧ up.drive.state = .off ∧ up.drive.deferral = none ∧ up.adequate = true)
    ∧ (s.shelf.admits s.station 5 = true ∧ s.drive.state = .off ∧ s.drive.deferral = none ∧ s.adequate = false)
    ∧ ((inDrive .fault s).shelf.admits s.station 5 = true ∧ (inDrive .fault s).drive.state = .fault)
    ∧ (let t := withShelf (fun y => { y with waiters := [⟨8, 16⟩] }) s
       t.shelf.admits t.station 5 = false ∧ t.claim.giveUp = false ∧ t.ownHolding = 0 ∧ 5 ≤ t.shelf.budget)
    ∧ (let t := { s with claim := { s.claim with state := .asking } }
       t.claim.state = .asking ∧ t.claim.giveUp = false) := by decide +kernel

theorem test_meets_OwnClaimIsDecidedInOwnTables_givenUp :
    let s := sends .budget (.claim 5) { one with claim := { one.claim with state := .asking, giveUp := true } }
    let w := withShelf (fun y => { y with waiters := [⟨3, 5⟩] }) s
    let f := withShelf (fun y => { y with waiters := [⟨8, 16⟩] }) s
    (s.resetAsserted = false ∧ s.bus.sending = some (sent .budget (.claim 5) s) ∧ s.ownHolding = 0 ∧ 5 ≤ s.shelf.budget
      ∧ s.claim.state = .asking ∧ s.claim.giveUp = true ∧ s.shelf.waits s.station = false)
    ∧ w.shelf.waits w.station = true ∧ f.shelf.admits f.station 5 = false := by decide +kernel

theorem test_meets_OwnReleaseLowersAndIsRepeated :
    let s := sends .budget (.release 3 false .settle) one
    (s.resetAsserted = false ∧ s.bus.sending = some (sent .budget (.release 3 false .settle) one))
    ∧ (let t := { s with claim := { s.claim with state := .spinUnits } }
       t.claim.state = .spinUnits ∧ t.claim.fullWanted = false)
    ∧ (let t := { s with claim := { s.claim with state := .releasing } }
       t.claim.state = .releasing ∧ ReleaseWhy.full ≠ .settle)
    ∧ { s.claim with fullWanted := true }.fullWanted = true := by decide +kernel

theorem test_meets_QueryAndItsOutcome :
    let i := withShelf (fun y => { y with census := .incomplete }) prim
    (prim.takesPart = true ∧ (1 : Station) ≠ prim.station ∧ prim.shelf.census = .complete ∧ quiet.obj = false
      ∧ objected.obj = true)
    ∧ (i.takesPart = true ∧ i.shelf.census = .incomplete)
    ∧ (sends .budget .query i).bus.sending = some (sent .budget .query i) ∧ (sent .budget .query i).won = true := by decide +kernel

theorem test_meets_AsleepInForcePutsTheStationToSleep :
    let s := sends .watch .asleep one
    s.resetAsserted = false ∧ s.bus.sending = some (sent .watch .asleep one) ∧ (sent .watch .asleep one).won = true := by decide +kernel

theorem test_meets_AnnouncementsFollowTheTimer :
    let s := { one with announce := { one.announce with timer := some 19600 } }
    (one.resetAsserted = false ∧ one.power = .listening ∧ (inDrive .fault one).slot .presence = none
      ∧ one.drive.state ≠ (settle one (inDrive .fault one)).drive.state)
    ∧ (s.resetAsserted = false ∧ s.power = .listening ∧ s.announce.timer = some 19600 ∧ 400 ≤ elapsed s.tick 19600
      ∧ s.slot .presence = none)
    ∧ elapsed s.tick 19601 < 400
    ∧ (let t := sends .presence .awake s
       t.bus.sending = some (sent .presence .awake s) ∧ (sent .presence .awake s).won = true
       ∧ t.announce.again = false ∧ { t.announce with again := true }.again = true) := by decide +kernel

theorem test_meets_DataPiecesAreDelivered :
    let e := entryOf .read .sending
    let m : OutMsg := .data 1 7 0 false [9]
    let d := { entryOf .read .ending with status := some .ok }
    let q : State := { withEntry d one with request := { queue := [d], out := [.piece ⟨1, 7⟩, .entryDone ⟨1, 7⟩], undelivered := 0 } }
    let s := sends .request m (withEntry e one)
    (q.takesPart = true ∧ (q.request.queue.length ≤ 16 ∧ (q.request.queue.map (·.key)).Nodup) ∧ q.slot .request = none
      ∧ q.request.out = [.piece ⟨1, 7⟩] ++ .entryDone ⟨1, 7⟩ :: [] ∧ (∀ m ∈ [ReqOut.piece ⟨1, 7⟩], m.isDone = false)
      ∧ 1 < q.request.out.length ∧ q.entry ⟨1, 7⟩ = some d ∧ d.state = .ending)
    ∧ (s.resetAsserted = false ∧ s.bus.sending = some (sent .request m (withEntry e one)) ∧ s.entry ⟨1, 7⟩ = some e
      ∧ e.send = some ⟨0, 0, none⟩ ∧ e.extent = some ⟨16, 2⟩ ∧ 0 + 1 < 2 ∧ 2 ≤ 1 + 1 ∧ 6 + 1 < 8 ∧ 8 ≤ 7 + 1)
    ∧ (let f := { e with send := some ⟨0, 1, some 19995⟩ }
       (withEntry f one).entry ⟨1, 7⟩ = some f ∧ f.state = .sending ∧ 5 ≤ elapsed (withEntry f one).tick 19995
       ∧ elapsed (withEntry f one).tick 19996 < 5)
    ∧ (let f := { e with key := ⟨5, 7⟩ }
       let w : OutMsg := .data 5 7 0 false [9]
       let x := withMirror (fun y => { y with link := .following }) (withEntry f secd)
       let t := sends .request w x
       t.bus.sending = some (sent .request w x) ∧ t.entry ⟨5, 7⟩ = some f ∧ t.mirror.role = .secondary
       ∧ t.mirror.link = .following ∧ t.partner = some 5 ∧ s.mirror.link ≠ .following) := by decide +kernel

/-- R22, R127: a FOLLOWING secondary that has sent a piece to its partner is behind. -/
theorem test_own_piece_for_the_partner_sets_behind :
    let f := { entryOf .read .sending with key := ⟨5, 7⟩ }
    let x := withMirror (fun y => { y with link := .following }) (withEntry f secd)
    let t := sends .request (.data 5 7 0 false [9]) x
    t.mirror.behind = false ∧ (finishSend (fun m => outcomeOf m true false) false t).mirror.behind = true
    ∧ (finishSend (fun m => outcomeOf m false true) false t).mirror.behind = false := by decide +kernel

theorem test_meets_DamagedMessages :
    let f : Frame := ⟨⟨0, 1, 31, 0, 1⟩, [5], 0⟩
    prim.takesPart = true ∧ headerMalformed f.header = false ∧ f.check ≠ frameCheck f.header f.payload
    ∧ { prim with power := PowerState.unset }.takesPart = false ∧ prim.resetAsserted = false := by decide +kernel

theorem test_meets_UnheardMessagesChangeNothing :
    { prim with power := PowerState.sleeping }.takesPart = false ∧ prim.resetAsserted = false
    ∧ (Instr.readReceived 3 4 [] quiet = .wakeReceived 3 [] quiet → prim.power ≠ .sleeping)
    ∧ (Instr.readReceived 3 4 [] quiet = .probeReceived 3 4 [] quiet → prim.power ≠ .unset) := by decide +kernel

theorem test_meets_PayloadsOfWrongLengthApplyNothing :
    prim.takesPart = true ∧ ([1] : List Byte).length ≠ 0 ∧ ([] : List Byte).length ≠ 1 ∧ ([1] : List Byte).length ≠ 2
    ∧ ([1] : List Byte).length ≠ 3 ∧ ([1] : List Byte).length ≠ 6 ∧ ([1] : List Byte).length ≠ 7
    ∧ ([1] : List Byte).length ≠ 13 ∧ ([1] : List Byte).length ≠ 515
    ∧ ([1, 2, 3, 4, 5, 6] : List Byte).length ≠ 4 ∧ ([1, 2, 3, 4, 5, 6] : List Byte).length ≠ 5
    ∧ ([1] : List Byte).length ≠ 8 ∧ ([1] : List Byte).length ≠ 20 + 2 * (([1] : List Byte).getD 19 0).toNat := by decide +kernel

theorem test_meets_ClaimIsDecidedAgainstFreeUnits :
    prim.takesPart = true ∧ (1 : Station) ≠ prim.station ∧ (5 : Byte) ≠ 0 ∧ quiet.obj = false ∧ objected.obj = true := by decide +kernel

theorem test_meets_ReleaseLowersTheEntry :
    prim.takesPart = true ∧ (([1] : List Byte).length ≠ 2 ∨ 1 < (([1] : List Byte).getD 1 0).toNat)
    ∧ 1 < (([1, 2] : List Byte).getD 1 0).toNat ∧ (1 : Byte).toNat ≤ 1 ∧ quiet.obj = false ∧ objected.obj = true
    ∧ (sends .budget (.release 3 false .full) one).bus.sending = some (sent .budget (.release 3 false .full) one) := by decide +kernel

theorem test_meets_TableIsAdoptedOnce :
    let x : TableBody := ⟨2, 9, some 4, Vector.replicate 16 0, [⟨6, 3⟩]⟩
    let i := withShelf (fun y => { y with census := .incomplete }) prim
    (prim.takesPart = true ∧ (1 : Station) ≠ prim.station ∧ prim.settings = some (conf .primary)
      ∧ parseTable 1 x.bytes = some x ∧ quiet.obj = false ∧ prim.shelf.census = .complete
      ∧ prim.bus.sending = none ∧ prim.claim.out.countP (isTableFor 2) = 0)
    ∧ (i.takesPart = true ∧ i.shelf.census = .incomplete) := by decide +kernel

theorem test_meets_TableIsAdoptedOnce_takenBack :
    let i := withShelf (fun y => { y with census := .incomplete }) prim
    let list : OutMsg → State → State := fun m s => { s with claim := { s.claim with out := [m] } }
    let slot : OutMsg → State → State := fun m s =>
      { s with bus := { s.bus with slots := { Slots.empty with budget := some m } } }
    (∀ c ∈ [(OutMsg.query, isQuery, i), (.table 2, isTableFor 2, prim)],
      ((list c.1 c.2.2).takesPart = true ∧ (list c.1 c.2.2).claim.out.any c.2.1 = true)
      ∧ ((slot c.1 c.2.2).claim.out.any c.2.1 = false ∧ (slot c.1 c.2.2).slotHolds .budget c.2.1 = true
        ∧ (slot c.1 c.2.2).onLine .budget = false)
      ∧ ((sends .budget c.1 c.2.2).claim.out.any c.2.1 = false ∧ (sends .budget c.1 c.2.2).slotHolds .budget c.2.1 = true
        ∧ (sends .budget c.1 c.2.2).bus.sending = some (sent .budget c.1 c.2.2)
        ∧ (sent .budget c.1 c.2.2).slot = .budget ∧ c.2.2.slotHolds .budget c.2.1 = false))
    ∧ (i.shelf.census = .incomplete ∧ i.slot .presence = none ∧ prim.shelf.census = .complete) := by decide +kernel

/-- R57: stray units and a stray place in the list are given back in the event that shows them. -/
theorem test_meets_TableIsAdoptedOnce_stray :
    let h := withShelf (fun y => { y with holdings := y.holdings.set 3 5 }) prim
    let w := withShelf (fun y => { y with waiters := [⟨3, 5⟩] }) prim
    (h.takesPart = true ∧ h.shelf.census = .complete ∧ h.claim.state = .none ∧ h.ownHolding = 5
      ∧ w.takesPart = true ∧ w.shelf.census = .complete ∧ w.claim.state = .none ∧ w.ownHolding = 0
      ∧ w.shelf.waits w.station = true)
    ∧ ((settle h h).claim.state = .releasing ∧ (settle h h).slot .budget = some (.release 5 false .full)
      ∧ (settle w w).claim.state = .releasing ∧ (settle w w).slot .budget = some (.release 0 true .giveUp)) := by decide +kernel

theorem test_meets_WatchNumberFollowsTheDuty :
    (prim.takesPart = true ∧ (1 : Station) ≠ prim.station ∧ quiet.obj = false ∧ prim.duty = false
      ∧ (holder prim).duty = true ∧ cut.ownFails = true)
    ∧ (acked.ack = true ∧ prim.power = .listening ∧ quiet.ownFails = false)
    ∧ (sends .watch .watchTake one).bus.sending = some (sent .watch .watchTake one)
    ∧ (sends .watch (.watchPass 4) one).bus.sending = some (sent .watch (.watchPass 4) one)
    ∧ (let i := withShelf (fun y => { y with census := .incomplete }) prim
       let x : TableBody := ⟨2, 9, some 3, Vector.replicate 16 0, []⟩
       i.takesPart = true ∧ parseTable 1 x.bytes = some x ∧ i.shelf.census = .incomplete) := by decide +kernel

theorem test_meets_DutyIsGainedAndLost :
    (prim.resetAsserted = false ∧ prim.power = .listening ∧ (sends .watch .watchTake prim).duty = false
      ∧ (sends .watch .watchTake prim).bus.sending = some (sent .watch .watchTake prim))
    ∧ ((holder prim).resetAsserted = false ∧ (holder prim).duty = true ∧ (1 : Station) ≠ (holder prim).station
      ∧ cut.obj = false ∧ cut.ownFails = true)
    ∧ (quiet.ownFails = false ∧ acked.ack = true ∧ (4 : Station) ≠ (holder prim).station)
    ∧ (sends .watch (.watchPass 4) (holder prim)).duty = true
    ∧ (sends .watch (.watchPass 4) (holder prim)).bus.sending = some (sent .watch (.watchPass 4) (holder prim)) := by decide +kernel

theorem test_meets_AwakeSetsTheEntry :
    let x : Announcement := ⟨true, .ready, .secondary, 2, true, 1016, false, 20, 5⟩
    prim.takesPart = true ∧ (1 : Station) ≠ prim.station ∧ parseAwake x.bytes = some x ∧ prim.partner ≠ some 1
    ∧ quiet.obj = false ∧ objected.obj = true := by decide +kernel

theorem test_meets_AwakeSetsTheEntry_forward :
    let x : Announcement := ⟨true, .ready, .secondary, 2, true, 1016, false, 20, 5⟩
    let e : ProxyState → ProxyEntry := fun st => ⟨1, ⟨2, 7⟩, .probe 0, 0, st, false, false⟩
    let s : ProxyState → State := fun st => { holder prim with watch := { prim.watch with proxy := [e st] } }
    ((s .held).takesPart = true ∧ (1 : Station) ≠ (s .held).station ∧ parseAwake x.bytes = some x ∧ (s .held).duty = true
      ∧ (s .held).watch.proxy.find? (fun g => g.target == 1) = some (e .held)
      ∧ (∀ g ∈ (s .held).watch.proxy, g.target = 1 → g.state = .held)
      ∧ (s .held).watchPending (isForwardTo 1) = false)
    ∧ (∀ g ∈ (s .held).watch.proxy, g.target ≠ 2)
    ∧ (∃ g ∈ (s .sending).watch.proxy, g.target = 1 ∧ g.state ≠ .held)
    ∧ (sends .watch (.forward 1 ⟨2, 6⟩ (.probe 0)) (s .held)).watchPending (isForwardTo 1) = true := by decide +kernel

theorem test_meets_PartnerAwakeSettlesRoles :
    let x : Announcement := ⟨true, .ready, .secondary, 2, true, 1016, false, 20, 5⟩
    (prim.takesPart = true ∧ (5 : Station) ≠ prim.station ∧ parseAwake x.bytes = some x ∧ quiet.obj = false
      ∧ prim.partner = some 5 ∧ prim.recordInUse = true ∧ prim.mirror.role = .primary ∧ x.role = .secondary
      ∧ x.behind = true ∧ prim.mirror.partnerBehind = false)
    ∧ (hearAwake 5 x.bytes quiet prim).mirror.dirty = 0 ∧ (x.role, x.epoch) = (Role.secondary, prim.mirror.epoch)
    ∧ prim.mirror.out.any isResyncEnd = false ∧ prim.slotHolds .mirror isResyncEnd = false := by decide +kernel

theorem test_meets_AsleepClearsTheSender :
    prim.takesPart = true ∧ (5 : Station) ≠ prim.station ∧ quiet.obj = false ∧ objected.obj = true := by decide +kernel

theorem test_meets_AsleepClearsTheSender_watch :
    let e : Station → ProxyState → ProxyEntry := fun n st => ⟨n, ⟨1, 7⟩, .probe 0, 0, st, false, false⟩
    let h : State := withMirror (fun m => { m with partnerBehind := true }) (holder prim)
    let s : State := { h with watch := { h.watch with
      proxy := [e 5 .sending, e 6 .sending, { e 5 (.retry 19990) with key := ⟨1, 8⟩ }, { e 5 .held with key := ⟨1, 9⟩ }] } }
    let off : OutMsg → State := fun m => { s with bus := { s.bus with slots := { Slots.empty with watch := some m } } }
    let list : State := { s with watch := { s.watch with out := [.forward 5 ⟨1, 7⟩ (.probe 0), .absent 5, .absent 6] } }
    let recalled : Byte → State → Option Bool := fun g u => (u.proxyEntry 5 ⟨1, g⟩).map (·.recalled)
    let states : State → List ProxyState := fun u => u.watch.proxy.map (·.state)
    let hear : State → State := fun x => hearAsleep 5 [] quiet x
    (list.takesPart = true ∧ list.partner = some 5 ∧ list.watch.out.any (isForwardTo 5) = true
      ∧ list.watch.out.any (isAbsentFor 5) = true)
    ∧ (∀ c ∈ [(isForwardTo 5, OutMsg.forward 5 ⟨1, 7⟩ (.probe 0)), (isAbsentFor 5, .absent 5)],
        ((off c.2).watch.out.any c.1 = false ∧ (off c.2).slotHolds .watch c.1 = true ∧ (off c.2).onLine .watch = false)
        ∧ ((sends .watch c.2 s).slotHolds .watch c.1 = true ∧ (sends .watch c.2 s).bus.sending = some (sent .watch c.2 s)
          ∧ (sent .watch c.2 s).slot = .watch))
    ∧ (states (hear list) = [.held, .sending, .held, .held] ∧ (hear list).watch.out = [.absent 6]
      ∧ states (hear (off (.forward 5 ⟨1, 7⟩ (.probe 0)))) = [.held, .sending, .held, .held]
      ∧ (let u := hear (sends .watch (.forward 5 ⟨1, 7⟩ (.probe 0)) s)
         states u = [.sending, .sending, .held, .held] ∧ recalled 7 u = some true)) := by decide +kernel

theorem test_meets_AbsentClearsOrExpels :
    (prim.takesPart = true ∧ (1 : Station) ≠ prim.station ∧ (4 : Station) ≠ 1 ∧ (4 : Station) ≠ prim.station)
    ∧ ((3 : Station) = prim.station ∧ quiet.ownFails = false ∧ objected.obj = true ∧ cut.ownFails = true
      ∧ cut.obj = false ∧ prim.drive.state ≠ .fault ∧ (inDrive .fault prim).drive.state = .fault) := by decide +kernel

theorem test_meets_WakeResumesTheMarkedStation :
    let s := { prim with power := PowerState.sleeping }
    s.resetAsserted = false ∧ (1 : Station) ≠ s.station ∧ parseWake [0, 8] = some 8 ∧ s.power = .sleeping
    ∧ (8 : BitVec 16).getLsbD s.station.val = true ∧ parseWake [128, 0] = some 0x8000
    ∧ (0x8000 : BitVec 16).getLsbD s.station.val = false ∧ prim.takesPart = true
    ∧ (let b := { secd with power := PowerState.sleeping }
       b.mirror.role = .secondary ∧ b.mirror.behind = false ∧ (8 : BitVec 16).getLsbD b.station.val = true) := by decide +kernel

theorem test_meets_RequestsWithoutRoomAreBusy :
    prim.takesPart = true ∧ (1 : Station) ≠ prim.station ∧ parseExtent extentBytes = some (7, ⟨16, 2⟩)
    ∧ 16 ≤ (full prim).request.queue.length
    ∧ (∃ e ∈ (withEntry (entryOf .read .queued) prim).request.queue, e.key = ⟨1, 7⟩)
    ∧ (withEntry { entryOf .read .queued with pages := List.range 255 } prim).freePages.length < 2 := by decide +kernel

theorem test_meets_TakenRequestsJoinTheQueue :
    prim.takesPart = true ∧ (1 : Station) ≠ prim.station ∧ parseExtent extentBytes = some (7, ⟨16, 2⟩)
    ∧ prim.request.queue.length < 16 ∧ (∀ e ∈ prim.request.queue, e.key ≠ ⟨1, 7⟩) ∧ 2 ≤ prim.freePages.length
    ∧ quiet.ownFails = false ∧ prim.drive.state ≠ .fault ∧ prim.drive.usable = 0
    ∧ (16 : BlockNo).toNat + 2 ≤ (18 : BlockNo).toNat ∧ prim.mirror.role ≠ .secondary
    ∧ (secd.mirror.role = .secondary ∧ secd.mirror.behind = false ∧ secd.partner = some 5 ∧ (5 : Station) ≠ secd.station)
    ∧ { one.mirror with role := Role.notLoaded }.role = .notLoaded := by decide +kernel

theorem test_meets_TakenRequestsJoinTheQueue_copies :
    let i := withMirror (fun m => { m with link := .inStep }) prim
    let r := sized (withEngine (fun g => { g with region := some 2 }) prim)
    prim.takesPart = true ∧ prim.mirror.role = .primary ∧ prim.mirror.link ≠ .inStep ∧ prim.mirror.link ≠ .resyncing
    ∧ i.mirror.link = .inStep ∧ (r.engine.region = some 2 ∧ (r.regions ⟨16, 2⟩).getLsbD 2 = true)
    ∧ (r.regions ⟨24, 2⟩).getLsbD 2 = false ∧ prim.engine.redo = false := by decide +kernel

theorem test_meets_TakeChecksEndTheEntry :
    let small : State := { prim with drive := { prim.drive with usable := 17 } }
    let b : State := { secd with mirror := { secd.mirror with behind := true } }
    (small.takesPart = true ∧ (1 : Station) ≠ small.station ∧ parseExtent extentBytes = some (7, ⟨16, 2⟩)
      ∧ small.request.queue.length < 16 ∧ (∀ e ∈ small.request.queue, e.key ≠ ⟨1, 7⟩) ∧ 2 ≤ small.freePages.length
      ∧ small.drive.usable ≠ 0 ∧ small.drive.usable.toNat < (16 : BlockNo).toNat + 2)
    ∧ (secd.takesPart = true ∧ secd.drive.usable = 0 ∧ secd.mirror.role = .secondary ∧ secd.partner ≠ some 1)
    ∧ (b.takesPart = true ∧ b.mirror.role = .secondary ∧ b.mirror.behind = true ∧ b.partner = some 5
      ∧ (b.presence 5).state ≠ .listening ∧ b.mirror.readWake = false)
    ∧ (inDrive .fault one).drive.state = .fault := by decide +kernel

theorem test_meets_TakeChecksEndTheEntry_fault :
    let n := withMirror (fun m => { m with role := .notLoaded }) prim
    ∀ s ∈ [one, prim, secd, n], (inDrive .fault s).takesPart = true ∧ (inDrive .fault s).drive.state = .fault
      ∧ (inDrive .fault s).drive.usable = 0 ∧ (inDrive .fault s).mirror.behind = false
      ∧ (inDrive .fault s).partner ≠ some 3 ∧ (inDrive .fault secd).partner = some 5
      ∧ (inDrive .fault n).mirror.role = .notLoaded ∧ (inDrive .fault prim).mirror.role = .primary := by decide +kernel

theorem test_meets_ProbesAndForwardsAreTaken :
    let busy : State := { prim with request := { prim.request with out := List.replicate 4 (.report ⟨0, 0⟩ 1) } }
    let u : State := { busy with power := PowerState.unset }
    (u.resetAsserted = false ∧ u.power = .unset ∧ u.slot .request = none
      ∧ nextRequestOut u.request.out = some (.report ⟨0, 0⟩ 1) ∧ prim.power ≠ .unset ∧ (16 : BlockNo).toNat + 2 ≤ 1016)
    ∧ (prim.takesPart = true ∧ (1 : Station) ≠ prim.station ∧ (4 : Byte).toNat ≤ 4 ∧ prim.reports < 4)
    ∧ (busy.takesPart = true ∧ 4 ≤ busy.reports ∧ quiet.ack = false ∧ quiet.ownFails = false)
    ∧ { prim with power := PowerState.unset }.power = .unset ∧ { busy with power := PowerState.unset }.reports = 4
    ∧ parseForward prim.station [1, 21, 7, 4] = some (⟨1, 7⟩, .probe 4)
    ∧ parseForward prim.station [1, 16, 7, 0, 0, 0, 16, 2] = some (⟨1, 7⟩, .read 16 2)
    ∧ prim.request.queue.length < 16 ∧ 2 ≤ prim.freePages.length ∧ prim.drive.state ≠ .fault ∧ prim.drive.usable = 0
    ∧ 16 ≤ (full prim).request.queue.length
    ∧ (∃ e ∈ (withEntry (entryOf .read .queued) prim).request.queue, e.key = ⟨1, 7⟩)
    ∧ (cut.ownFails = true ∧ acked.ack = true) := by decide +kernel

theorem test_meets_DataFillsItsPage :
    let e := entryOf .write .dataIn
    let s := withEntry e prim
    let p : List Byte := [7, 1, 0] ++ block
    (s.takesPart = true ∧ (1 : Station) ≠ s.station ∧ parseData p = some ⟨7, 1, false, block⟩ ∧ quiet.ownFails = false
      ∧ s.entry ⟨1, 7⟩ = some e ∧ e.state = .dataIn ∧ e.kind = .write ∧ e.extent = some ⟨16, 2⟩ ∧ 1 < 2 ∧ 1 ∉ e.pieces)
    ∧ 1 ∈ { e with pieces := [1] }.pieces
    ∧ ((∀ f ∈ prim.request.queue, f.key ≠ ⟨1, 7⟩ ∨ f.state ≠ .dataIn) ∧ quiet.ack = false) := by decide +kernel

theorem test_meets_FollowingSecondarySnoops :
    let s : State := { secd with mirror := { secd.mirror with link := .following } }
    let e := entryOf .replica .dataIn
    let i := withMirror (fun m => { m with link := .inStep }) (withEntry (entryOf .write .waitMirror) prim)
    (s.mirror.link = .following ∧ s.mirror.role = .secondary ∧ (settle s s).mirror.link ≠ .following)
    ∧ (i.takesPart = true ∧ i.mirror.link = .inStep ∧ i.mirror.role = .primary ∧ (settle i i).mirror.link = .apart)
    ∧ (s.takesPart = true ∧ (1 : Station) ≠ s.station ∧ (5 : Station) ≠ s.station ∧ s.partner = some 5
      ∧ s.mirror.link = .following ∧ s.answersFor 5 = false ∧ acked.ack = true
      ∧ parseExtent extentBytes = some (7, ⟨16, 2⟩) ∧ s.drive.usable = 0 ∧ s.request.queue.length < 16
      ∧ 2 ≤ s.freePages.length ∧ s.mirror.role = .secondary ∧ s.mirror.out = [])
    ∧ (16 ≤ (full s).request.queue.length ∧ (17 : BlockNo) ≠ 0 ∧ (17 : BlockNo).toNat < (16 : BlockNo).toNat + 2)
    ∧ parseData ([7, 1, 0] ++ block) = some ⟨7, 1, false, block⟩
    ∧ ((withEntry e s).entry ⟨1, 7⟩ = some e ∧ e.state = .dataIn ∧ e.kind = .replica ∧ 1 ∉ e.pieces) := by decide +kernel

theorem test_meets_CancelEndsOrMarks :
    let e := entryOf .write .queued
    let r := entryOf .write .running
    let s := withEntry e prim
    (s.takesPart = true ∧ (1 : Station) ≠ s.station ∧ quiet.ownFails = false ∧ s.entry ⟨1, 7⟩ = some e
      ∧ e.kind ≠ .replica ∧ e.state = .queued ∧ s.mirror.promotion = none)
    ∧ ((withEntry r prim).entry ⟨1, 7⟩ = some r ∧ r.state ≠ .dataIn ∧ r.state ≠ .queued)
    ∧ (let t : State := { s with mirror := { s.mirror with promotion := some ⟨⟨1, 7⟩, false⟩ } }
       ∃ p, t.mirror.promotion = some p ∧ p.key = ⟨1, 7⟩)
    ∧ (withEntry (entryOf .replica .dataIn) secd).entry ⟨1, 7⟩ = some (entryOf .replica .dataIn)
    ∧ prim.entry ⟨1, 7⟩ = none := by decide +kernel

theorem test_meets_ClearFaultTestsTheCurrent :
    let f : State := { inDrive .fault prim with drive := { (inDrive .fault prim).drive with cause := some .overcurrent } }
    let b := withRecord 0 ⟨175, .x4, false, 1, true⟩ f
    let a := withRecord 0 ⟨176, .x4, false, 1, true⟩ f
    (b.takesPart = true ∧ (1 : Station) ≠ b.station ∧ quiet.ownFails = false ∧ b.settings = some (conf .primary)
      ∧ b.clearDones < 4 ∧ b.drive.state = .fault ∧ b.drive.cause = some .overcurrent)
    ∧ (b.supply.records[0].valid = true ∧ b.supply.records[0].overFlag = false
      ∧ b.supply.records[0].value * 2 < ((conf .primary).runTrip + 1) * 32)
    ∧ (a.drive.state = .fault ∧ ¬ a.supply.records[0].value * 2 < ((conf .primary).runTrip + 1) * 32)
    ∧ (inDrive .fault prim).drive.cause ≠ some .overcurrent ∧ prim.drive.state ≠ .fault
    ∧ (let w : State := { prim with request := { prim.request with out := List.replicate 4 (.clearDone ⟨0, 0⟩ .ok) } }
       w.takesPart = true ∧ 4 ≤ w.clearDones) := by decide +kernel

theorem test_meets_WatchStationAnswersForSleepers :
    let s := withPeer 5 .sleeping (holder one)
    let k : Key := ⟨1, 7⟩
    let e : ProxyEntry := ⟨5, k, .probe 0, 0, .held, false, false⟩
    let h : State := { s with watch := { s.watch with proxy := [e] } }
    let f : State := { s with watch := { s.watch with proxy := List.replicate 8 { e with target := 6 } } }
    (s.takesPart = true ∧ (1 : Station) ≠ s.station ∧ (5 : Station) ≠ s.station ∧ s.answersFor 5 = true)
    ∧ (parseExtent extentBytes = some (7, ⟨16, 2⟩) ∧ parseProbe [7, 4] = some (7, 4) ∧ s.proxyEntry 5 k = none
      ∧ s.proxyLoad < 8 ∧ quiet.ownFails = false)
    ∧ (h.answersFor 5 = true ∧ h.proxyEntry 5 k = some e ∧ e.state = .held)
    ∧ (f.answersFor 5 = true ∧ f.proxyEntry 5 k = none ∧ 8 ≤ f.proxyLoad ∧ quiet.ack = false)
    ∧ s.answersFor 6 = false := by decide +kernel

theorem test_meets_MirrorAnswersEndTheWait :
    let e := entryOf .write .waitMirror
    let s := withEntry e prim
    let q := entryOf .write .queued
    (s.takesPart = true ∧ (5 : Station) ≠ s.station ∧ parseMirrorAck [1, 7, 0, 0, 0, 16] = some (⟨1, 7⟩, 16)
      ∧ parseMirrorMiss [1, 7, 0, 0, 0, 16, 2] = some (⟨1, 7⟩, ⟨16, 2⟩) ∧ s.mirror.role = .primary
      ∧ s.partner = some 5 ∧ quiet.ownFails = false ∧ s.entry ⟨1, 7⟩ = some e ∧ e.kind = .write
      ∧ e.extent = some ⟨16, 2⟩ ∧ e.state = .waitMirror)
    ∧ ((withEntry q prim).entry ⟨1, 7⟩ = some q ∧ q.state = .queued)
    ∧ (let c := sized (withEngine (fun g => { g with region := some 2 }) (withMirror (fun m => { m with cond := .closed }) s))
       c.mirror.cond = .closed ∧ c.mirror.calls.mark = false ∧ c.mirror.dirty ||| c.regions ⟨16, 2⟩ ≠ c.mirror.dirty
       ∧ c.engine.redo = false ∧ c.engine.region = some 2 ∧ (c.regions ⟨16, 2⟩).getLsbD 2 = true)
    ∧ ((∀ e, prim.entry ⟨1, 7⟩ = some e → e.kind ≠ .write) ∧ secd.mirror.role ≠ .primary ∧ quiet.ack = false) := by
  refine ⟨by decide +kernel, by decide +kernel, by decide +kernel, ?_, by decide, rfl⟩
  intro e h
  cases h

theorem test_meets_ResyncMessages :
    let c : Chunk := ⟨8, 4, .reply, [0, 1, 2, 3], some 3⟩
    let w : State := { prim with engine := { prim.engine with state := .beginWait, outstanding := some 7 } }
    let g : State := { prim with
      engine := { prim.engine with state := .copying, outstanding := some 7, region := some 1, chunk := some c }
      drive := { prim.drive with usable := 1016 } }
    (secd.takesPart = true ∧ (5 : Station) ≠ secd.station ∧ parseResyncEnd [0, 2] = some 2
      ∧ secd.mirror.role = .secondary ∧ secd.partner = some 5 ∧ quiet.ownFails = false)
    ∧ (prim.mirror.role ≠ .secondary ∧ quiet.ack = false)
    ∧ (w.takesPart = true ∧ (5 : Station) ≠ w.station ∧ parseDone [7, 0, 0, 255] = some ⟨7, .ok, false, none, none⟩
      ∧ parseDone [7, 11, 0, 255] = some ⟨7, .denied, false, none, none⟩ ∧ w.partner = some 5
      ∧ w.engine.outstanding = some 7 ∧ w.engine.state = .beginWait)
    ∧ (g.takesPart = true ∧ g.partner = some 5 ∧ g.engine.outstanding = some 7 ∧ g.engine.state = .copying
      ∧ g.engine.region = some 1 ∧ g.engine.chunk = some c ∧ c.step = .reply ∧ g.engine.redo = false
      ∧ (1 : Fin 256).val * g.mirror.regionSize < g.drive.usable.toNat
      ∧ c.start + c.count < min ((1 + 1) * g.mirror.regionSize) g.drive.usable.toNat
      ∧ min ((1 + 1) * g.mirror.regionSize) g.drive.usable.toNat ≤ { c with count := 8 }.start + 8)
    ∧ prim.engine.outstanding ≠ some 7 := by decide +kernel

theorem test_meets_ResyncMessages_regions :
    (1#256 <<< 126 ||| 1#256 <<< 127) &&& ~~~ (emptyRegions 8 1016) = 1#256 <<< 126
    ∧ (1#256 <<< 127) &&& ~~~ (emptyRegions 8 1016) = 0#256
    ∧ ((1#256 <<< 126).getLsbD 126 = true
      ∧ ∀ q : Fin 256, 5 ≤ q → q < 126 → (1#256 <<< 126).getLsbD q.val = false)
    ∧ (33#256).getLsbD 5 = true
    ∧ ((18#256).getLsbD 1 = true ∧ (∀ q : Fin 256, 5 ≤ q → (18#256).getLsbD q.val = false)
      ∧ ∀ q : Fin 256, q < 1 → (18#256).getLsbD q.val = false) := by decide +kernel

theorem test_meets_ResyncMessages_seen :
    let e : ProxyState → ProxyEntry := fun st => ⟨5, ⟨1, 8⟩, .probe 0, 0, st, false, false⟩
    let s : ProxyState → State := fun st => { holder one with watch := { one.watch with proxy := [e st] } }
    ∀ st ∈ [ProxyState.held, .sending, .retry 5],
      (s st).takesPart = true ∧ (5 : Station) ≠ (s st).station ∧ (s st).duty = true ∧ acked.ack = true
      ∧ parseDone [7, 0, 0, 255] = some ⟨7, .ok, false, none, none⟩ ∧ (⟨1, 8⟩ : Key) ≠ ⟨1, 7⟩
      ∧ (s st).proxyEntry 5 ⟨1, 8⟩ = some (e st) ∧ ((s st).watch.proxy.map fun e => (e.target, e.key)).Nodup := by
  decide +kernel

theorem test_meets_TicksCount :
    let s : State := { one with tick := 98 }
    let t : State := { one with tick := 4294967295 }
    s.resetAsserted = false ∧ (s.tick + 1#32).toNat % 100 ≠ 0 ∧ { one with tick := (99 : Tick) }.tick + 1#32 = 100#32
    ∧ (t.tick + 1#32).toNat % 100 = 0 ∧ one.assertReset.resetAsserted = true := by decide +kernel

theorem test_meets_HoldsEnd :
    let s : State := { one with
      claim := { one.claim with holdOff := some 20000, tableTimer := some 19900 }
      engine := { one.engine with holdOff := some 20000 }
      mirror := { one.mirror with wakeInterval := some 14000 }
      watch := { one.watch with sleepRetry := some 20000, takeHold := some 19999
                                marks := Vector.replicate 16 ⟨some 19700, false, none, some 20000⟩ } }
    (s.resetAsserted = false ∧ s.claim.holdOff = some 20000 ∧ (s.tick - 20000).toNat < 2147483648
      ∧ s.watch.sleepRetry = some 20000 ∧ s.watch.takeHold = some 19999 ∧ (s.tick - 19999).toNat < 2147483648
      ∧ s.engine.holdOff = some 20000 ∧ s.watch.marks[4].absenceHold = some 20000)
    ∧ (s.mirror.wakeInterval = some 14000 ∧ 6000 ≤ (s.tick - 14000).toNat ∧ s.claim.tableTimer = some 19900
      ∧ 100 ≤ (s.tick - 19900).toNat ∧ s.watch.marks[4].waking = some 19700 ∧ 300 ≤ (s.tick - 19700).toNat)
    ∧ (¬ (s.tick - 20001).toNat < 2147483648 ∧ ¬ 300 ≤ (s.tick - 19701).toNat ∧ one.claim.holdOff = none) := by decide +kernel

theorem test_meets_SpinUpProceeds :
    let d : State := { one with drive := { one.drive with deferral := some 19500 } }
    let u := withRecord 4 { SampleRecord.reset with value := 675, valid := true } d
    let r : State := { inDrive .spinUp one with drive := { (inDrive .spinUp one).drive with readyWait := some 18500 } }
    (u.takesPart = true ∧ u.resetAsserted = false ∧ u.drive.deferral ≠ none ∧ u.adequate = true)
    ∧ (d.drive.deferral = some 19500 ∧ 500 ≤ (d.tick - 19500).toNat ∧ d.adequate = false ∧ (d.tick - 19501).toNat < 500)
    ∧ (let c : State := { d with claim := { d.claim with state := .spinUnits } }
       c.claim.state = .spinUnits ∧ c.budgetPending isSettle = false)
    ∧ (r.drive.state = .spinUp ∧ r.drive.readyWait = some 18500 ∧ 1500 ≤ (r.tick - 18500).toNat
      ∧ r.drive.state ≠ .fault ∧ (r.tick - 18501).toNat < 1500)
    ∧ one.drive.state ≠ .spinUp := by decide +kernel

theorem test_meets_IdentifyDecidesReady :
    let s := withFlight .identify .port 19999 (inDrive .spinUp one)
    (s.resetAsserted = false ∧ s.drive.state = .spinUp ∧ s.drive.flight = some ⟨.identify, .port, 19999⟩)
    ∧ (1023 : BlockNo).toNat < 1024 ∧ (1024 ≤ (1024 : BlockNo).toNat ∧ s.drive.usable = 0)
    ∧ ((2000 : BlockNo) ≠ 0 ∧ (2000 : BlockNo) ≠ (1024 : BlockNo) - 8#32)
    ∧ (let c : State := { s with claim := { s.claim with state := .spinUnits } }
       c.claim.state = .spinUnits ∧ c.runCost < c.spinCost) := by decide +kernel

theorem test_meets_IdentifyDecidesReady_ranges :
    let e : EntryKind → Byte → Extent → Entry := fun k g x => { entryOf k .queued with key := ⟨1, g⟩, extent := some x }
    let s : State := withFlight .identify .port 19999 (inDrive .spinUp { secd with
      request := { secd.request with
        queue := [e .replica 7 ⟨1015, 2⟩, e .write 8 ⟨1014, 2⟩, e .read 9 ⟨2000, 1⟩, e .write 10 ⟨1016, 1⟩] } })
    let u := identifyReply (.ok 1024) s
    (s.resetAsserted = false ∧ s.drive.state = .spinUp ∧ s.drive.usable = 0 ∧ s.partner = some 5
      ∧ s.mirror.role = .secondary ∧ (s.request.queue.length ≤ 16 ∧ (s.request.queue.map (·.key)).Nodup)
      ∧ ∀ f ∈ s.request.queue, f.outstanding = true)
    ∧ (u.request.queue.map fun f => (f.state, f.status)) =
        [(.ending, none), (.queued, none), (.ending, some .range), (.ending, some .range)]
    ∧ u.mirror.out = [.mirrorMiss 5 ⟨1, 7⟩ 1015 2 0 true] := by decide +kernel

theorem test_meets_StopsRemovePower :
    let i : State := { inDrive .ready one with drive := { (inDrive .ready one).drive with idle := some 60 } }
    let y := withFlight .sync .port 19500 (inDrive .spinDown one)
    let r := withFlight (.read 0 1) (.entry ⟨1, 7⟩) 19800 (inDrive .ready one)
    (i.takesPart = true ∧ i.idleRuns = true ∧ (settle i i).drive.idle = some 60 ∧ (settle one one).drive.idle = none)
    ∧ (i.resetAsserted = false ∧ i.drive.idle = some 60 ∧ i.settings = some (conf .single)
      ∧ (conf .single).idleLimit * 60 ≤ 60 ∧ i.idleRuns = true ∧ i.mirror.cond = .opened
      ∧ 59 < (conf .single).idleLimit * 60)
    ∧ (let c : State := { i with mirror := { i.mirror with cond := .closed } }; c.idleRuns = true ∧ c.mirror.cond ≠ .opened)
    ∧ (y.drive.flight = some ⟨.sync, .port, 19500⟩ ∧ 500 ≤ (y.tick - 19500).toNat ∧ (y.tick - 19501).toNat < 500)
    ∧ (r.drive.flight = some ⟨.read 0 1, .entry ⟨1, 7⟩, 19800⟩ ∧ LaneCmd.read 0 1 ≠ .sync ∧ 200 ≤ (r.tick - 19800).toNat
      ∧ r.drive.state ≠ .fault ∧ (r.tick - 19801).toNat < 200) := by decide +kernel

/-- R77: a READ that one event takes and ends RANGE, its DONE placed at once, stops the idle timer, which starts from 0. -/
theorem test_meets_StopsRemovePower_taken :
    let i : State := { inDrive .ready one with drive := { (inDrive .ready one).drive with idle := some 30, usable := 17 } }
    let f := hearRead 1 3 extentBytes quiet i
    i.idleRuns = true ∧ f.takesPart = true ∧ f.idleRuns = false ∧ f.drive.idle = some 30
    ∧ (settle i f).idleRuns = true ∧ (settle i f).drive.idle = some 0 := by decide +kernel

theorem test_meets_StopsRemovePower_spinDown :
    let old : EntryKind → Entry := fun k => entryOf k .queued
    let fresh : Entry := { entryOf .read .queued with key := ⟨1, 8⟩, queued := some 14001 }
    let q : Entry → State → State := fun e s =>
      inDrive .ready { s with request := { s.request with queue := [e, fresh] } }
    let f : RecordFields := ⟨.primary, 1, 5, 8, false, 4⟩
    let closed := withMirror (fun m => { m with cond := .closed }) (q (old .write) prim)
    let opening := withMirror (fun m => { m with cond := .opening, image := some f, calls := { m.calls with opening := true } })
      (q (old .write) prim)
    (∀ s ∈ [q (old .write) prim, q (old .replica) secd, closed, opening],
      (s.request.queue.length ≤ 16 ∧ (s.request.queue.map (·.key)).Nodup) ∧ s.partner = some 5
      ∧ (∃ e ∈ s.request.queue, e.state = .queued ∧ e.queued = some 14000 ∧ 6000 ≤ (s.tick - 14000).toNat)
      ∧ fresh ∈ s.request.queue ∧ (s.tick - 14001).toNat < 6000)
    ∧ ((q (old .write) prim).mirror.cond = .opened ∧ closed.mirror.cond = .closed
      ∧ (sized closed).mapAfter [old .write] ≠ closed.mirror.dirty ∧ opening.mirror.calls.any = true
      ∧ opening.mirror.image = some f)
    ∧ (let t := withMirror (fun m => { m with cond := .closed }) (q (old .read) prim)
       t.mirror.cond ≠ .opened ∧ t.mirror.calls.any = false ∧ t.mapAfter [old .read] = t.mirror.dirty) := by decide +kernel

theorem test_meets_DriveRepliesMoveEntries :
    let s : EntryKind → State → State := fun k x => withFlight (.read 0 1) (.entry ⟨1, 7⟩) 19990 (withEntry (entryOf k .running) x)
    let e : EntryKind → Entry := fun k => entryOf k .running
    let r : State → State := inDrive .ready
    let ch : State → State := withEngine fun g => { g with chunk := some ⟨8, 4, .read, [], none⟩ }
    ((r one).takesPart = true ∧ (settle (r one) (r one)).drive.state = .ready ∧ (settle (r one) (r one)).drive.flight = none)
    ∧ ((r one).drive.state = .ready ∧ (r one).drive.flight = none ∧ (r one).mirror.cond ≠ .notLoaded
      ∧ (withMirror (fun m => { m with cond := .notLoaded }) (r one)).mirror.cond = .notLoaded
      ∧ (withMirror (fun m => { m with calls := { m.calls with mark := true } }) (r one)).mirror.calls.any = true
      ∧ (r one).mirror.calls.any = false ∧ Promotion.sent ⟨⟨1, 7⟩, false⟩ = false)
    ∧ ((ch (r prim)).engine.chunk = some ⟨8, 4, .read, [], none⟩ ∧ 100 ≤ ((ch (r prim)).tick - 0).toNat
      ∧ (ch (r prim)).drive.resyncWait = 0 ∧ (∀ e ∈ (ch (r prim)).request.queue, (ch (r prim)).runnable e = false))
    ∧ (∀ p ∈ [(EntryKind.write, secd), (.resyncIn, prim), (.read, withMirror (fun m => { m with behind := true }) secd)],
        let t := withEntry (entryOf p.1 .queued) (r p.2)
        t.entry ⟨1, 7⟩ = some (entryOf p.1 .queued) ∧ t.runnable (entryOf p.1 .queued) = true
        ∧ t.engine.chunk = none ∧ t.runFailure (entryOf p.1 .queued) ≠ none)
    ∧ (let t := withEntry (entryOf .write .queued) (r prim)
       (∀ g ∈ t.request.queue, t.runnable g = true → t.runFailure g = none)
       ∧ t.request.queue.find? (fun g => t.runnable g && g.kind.usesLane) = some (entryOf .write .queued)
       ∧ t.entry ⟨1, 7⟩ = some (entryOf .write .queued) ∧ (entryOf .write .queued).extent = some ⟨16, 2⟩)
    ∧ (let t := withFlight (.write 16 2) (.entry ⟨1, 7⟩) 19990 (withEntry (entryOf .write .running) prim)
       t.drive.flight = some ⟨.write 16 2, .entry ⟨1, 7⟩, 19990⟩ ∧ t.entry ⟨1, 7⟩ = some (entryOf .write .running)
       ∧ 1 < (entryOf .write .running).pages.length)
    ∧ one.drive.flight = none
    ∧ ((s .read one).resetAsserted = false ∧ (s .read one).drive.flight = some ⟨.read 0 1, .entry ⟨1, 7⟩, 19990⟩
      ∧ (s .read one).entry ⟨1, 7⟩ = some (e .read))
    ∧ (s .sync one).entry ⟨1, 7⟩ = some (e .sync) ∧ (s .resyncIn one).entry ⟨1, 7⟩ = some (e .resyncIn)
    ∧ ((s .write one).entry ⟨1, 7⟩ = some (e .write) ∧ (s .write one).mirror.role = .single)
    ∧ ((s .write secd).mirror.role = .secondary ∧ (s .write prim).mirror.role = .primary
      ∧ (e .write).extent = some ⟨16, 2⟩ ∧ (e .write).ackEarly = false ∧ (s .write prim).mirror.link.together = false)
    ∧ (let t : State := { s .write prim with mirror := { (s .write prim).mirror with
          copies := [⟨⟨1, 7⟩, ⟨16, 2⟩, .missHeard⟩] } }
       t.copyState ⟨1, 7⟩ = some .missHeard)
    ∧ ((s .write prim).copyState ⟨1, 7⟩ ≠ some .missHeard ∧ { e .write with ackEarly := true }.ackEarly = true)
    ∧ (let t : State := { s .write prim with mirror := { (s .write prim).mirror with link := .inStep } }
       t.copyState ⟨1, 7⟩ ≠ some .missHeard ∧ t.copyState ⟨1, 7⟩ ≠ some .notExpected ∧ t.mirror.link.together = true)
    ∧ (let t : State := { s .replica secd with mirror := { (s .replica secd).mirror with link := .following } }
       t.entry ⟨1, 7⟩ = some (e .replica) ∧ t.partner = some 5 ∧ t.mirror.link = .following)
    ∧ ((s .replica secd).mirror.link ≠ .following ∧ (e .read).extent = some ⟨16, 2⟩) := by decide +kernel

theorem test_meets_DriveRepliesMoveEntries_records :
    let c : RecordCalls → State → State := fun k s => inDrive .ready (withMirror (fun m => { m with calls := k }) s)
    let i : State := c { RecordCalls.quiet with clean := true } prim
    let w : State := withEntry (entryOf .write .queued) i
    let p : State := inDrive .ready (withMirror (fun m => { m with promotion := some ⟨⟨1, 7⟩, false⟩ }) secd)
    (i.drive.flight = none ∧ i.mirror.cond ≠ .notLoaded ∧ i.mirror.calls.any = true
      ∧ i.mirror.calls.opening = false ∧ i.mirror.calls.roleChange = false ∧ i.mirror.calls.mark = false
      ∧ i.mirror.calls.writeQueued = false ∧ i.request.queue = [])
    ∧ ((c { RecordCalls.quiet with clean := true, mark := true } prim).mirror.calls.mark = true
      ∧ ∃ e ∈ w.request.queue, e.kind.writeLike = true ∧ e.outstanding = true)
    ∧ ((chooseCommand i).laneBlocks = [(i.recordFor true).block] ∧ (chooseCommand w).laneBlocks = [(w.recordFor false).block])
    ∧ (p.mirror.calls.any = false ∧ p.mirror.cond ≠ .notLoaded ∧ p.mirror.promotion = some ⟨⟨1, 7⟩, false⟩
      ∧ p.mirror.epoch < 65535) := by decide +kernel

theorem test_meets_DriveRepliesMoveEntries_specials :
    let q : EntryKind → Entry := fun k => { entryOf k .queued with extent := none, send := none, queued := some 19000 }
    let s : EntryKind → State → State := fun k x => inDrive .ready (withEntry (q k) x)
    let up : State → State := withMirror fun m => { m with promotion := some ⟨⟨1, 7⟩, false⟩ }
    let sent : State → State := withMirror fun m => { m with promotion := some ⟨⟨1, 7⟩, true⟩ }
    (∀ k ∈ [EntryKind.promote, .resyncBegin 2], (s k secd).takesPart = true
      ∧ (s k secd).request.queue.length ≤ 16 ∧ ((s k secd).request.queue.map (·.key)).Nodup
      ∧ (s k secd).entry ⟨1, 7⟩ = some (q k) ∧ (s k secd).runnable (q k) = true
      ∧ (∀ g ∈ (s k secd).request.queue, (s k secd).runnable g = true → g.kind.usesLane = false → g = q k))
    ∧ (let t : State := { secd with settings := some { conf .secondary with partner := 1 } }
       t.mirror.role = .secondary ∧ t.partner = some 1 ∧ 2 = t.mirror.epoch)
    ∧ secd.partner ≠ some 1
    ∧ (secd.mirror.promotion = none ∧ secd.mirror.behind = false ∧ secd.mirror.epoch < 65535
      ∧ secd.partner = some 5 ∧ (secd.presence 5).state ≠ .listening)
    ∧ (prim.mirror.role ≠ .secondary ∧ (up secd).mirror.promotion ≠ none)
    ∧ (let t := withPeer 5 .listening (up (s .promote secd))
       t.mirror.promotion = some ⟨⟨1, 7⟩, false⟩ ∧ t.partner = some 5 ∧ (t.presence 5).state = .listening
       ∧ (t.presence 5).drive ≠ .fault ∧ t.takesPart = true ∧ t.entry ⟨1, 7⟩ = some (q .promote)
       ∧ (q .promote).state = .queued ∧ t.aged (q .promote) = false)
    ∧ (sent secd).mirror.promotion = some ⟨⟨1, 7⟩, true⟩
    ∧ (let n : Entry := { q .promote with key := ⟨1, 8⟩ }
       let t : State := sent (s .promote secd)
       let u : State := { t with request := { t.request with queue := [q .promote, n] } }
       (u.request.queue.length ≤ 16 ∧ (u.request.queue.map (·.key)).Nodup) ∧ u.entry ⟨1, 8⟩ = some n
       ∧ u.runnable n = true ∧ n.kind = .promote ∧ u.mirror.promotion = some ⟨⟨1, 7⟩, true⟩
       ∧ (∀ g ∈ u.request.queue, u.runnable g = true → g.kind.usesLane = false →
            g = n ∨ g.kind = .promote ∧ g.key = ⟨1, 7⟩)
       ∧ u.mayPromote = true ∧ (withPeer 5 .listening u).mayPromote = false)
    ∧ (let t := settle (s .promote secd) (s .promote secd)
       ∃ e ∈ t.request.queue, t.runnable e = true ∧ e.kind = .promote) := by decide +kernel

theorem test_meets_RecordRepliesSetTheImage :
    let f : RecordFields := ⟨.primary, 2, 5, 4, true, 1⟩
    let u : State := { prim with drive := { prim.drive with usable := 1016 } }
    let l := withFlight (.read 1016 1) .recordLoad 19990 u
    let g := withFlight (.write 1016 1) (.recordWrite f .quiet) 19990 u
    let o : State := { g with mirror := { g.mirror with cond := .opening, image := some f, link := .unloaded } }
    let m : State := { withFlight (.write 1016 1) (.promotionWrite f) 19990 (withEntry (entryOf .promote .queued) secd) with
      mirror := { secd.mirror with promotion := some ⟨⟨1, 7⟩, true⟩ } }
    (l.resetAsserted = false ∧ l.drive.flight = some ⟨.read 1016 1, .recordLoad, 19990⟩ ∧ l.settings = some (conf .primary)
      ∧ f.block.length = 512 ∧ parseRecord f.block = some f
      ∧ f.partner = (conf .primary).partner ∧ f.regionSize = (l.drive.usable.toNat + 255) / 256
      ∧ (f.role = .single ↔ (conf .primary).mode = .single))
    ∧ (block.length = 512 ∧ parseRecord block = none)
    ∧ (g.drive.flight = some ⟨.write 1016 1, .recordWrite f .quiet, 19990⟩ ∧ g.mirror.cond ≠ .opening)
    ∧ (f.clean = true ∧ (withMirror (fun m => { m with dirty := 2 }) g).mirror.dirty.getLsbD 1 = true
      ∧ f.dirty.getLsbD 1 = false
      ∧ ∃ e ∈ (withEntry (entryOf .write .queued) g).request.queue, e.state = .queued ∧ e.kind.writeLike = true)
    ∧ (o.mirror.cond = .opening ∧ o.mirror.image = some f ∧ o.mirror.link = .unloaded ∧ o.partner = some 5
      ∧ (5 : Station) ≠ o.station ∧ (o.presence 5).state ≠ .listening
      ∧ ((withPeer 5 .listening o).presence 5).state = .listening)
    ∧ (m.resetAsserted = false ∧ m.drive.flight = some ⟨.write 1016 1, .promotionWrite f, 19990⟩
      ∧ m.mirror.promotion = some ⟨⟨1, 7⟩, true⟩ ∧ m.entry ⟨1, 7⟩ = some (entryOf .promote .queued)) := by decide +kernel

/-- R122, log 50: a mark that a clean write does not carry is followed by a write with clean clear. -/
theorem test_missed_mark_is_written :
    let f : RecordFields := ⟨.primary, 2, 5, 4, true, 0⟩
    let s : State := withMirror (fun m => { m with dirty := 2 })
      (withFlight (.write 1016 1) (.recordWrite f .quiet) 19990 (inDrive .ready prim))
    let t := recordWriteReply (.ok []) s
    t.mirror.cond = .closed ∧ t.mirror.calls.mark = true
    ∧ (settle s t).drive.flight = some ⟨.write 0 1, .recordWrite { f with regionSize := 8, clean := false, dirty := 2 }
        ⟨false, false, true, false, false⟩, 20000⟩ := by decide +kernel

/-- R158: a second PROMOTE that fails a test while a promotion is pending is DENIED. -/
theorem test_second_promotion_is_denied :
    let q : Byte → Entry := fun g =>
      { entryOf .promote .queued with key := ⟨1, g⟩, extent := none, send := none, queued := some 19000 }
    let s : State := { inDrive .ready secd with
      mirror := { secd.mirror with promotion := some ⟨⟨1, 7⟩, true⟩, behind := true }
      request := { secd.request with queue := [q 7, q 8] } }
    (handSpecials s).entry ⟨1, 7⟩ = some (q 7)
    ∧ (handSpecials s).entry ⟨1, 8⟩ = some { q 8 with state := .ending, status := some .denied, send := none } := by
  decide +kernel

theorem test_meets_ResyncProceeds :
    let c : Chunk := ⟨8, 4, .waitPages, [], none⟩
    let b : State := { inDrive .ready prim with drive := { (inDrive .ready prim).drive with usable := 1016 } }
    let s : ChunkStep → State := fun x => { b with
      engine := { b.engine with state := .copying, region := some 1, chunk := some { c with step := x } } }
    let r : EngineState → State := fun x => { b with engine := { b.engine with state := x, retry := some 19990 } }
    let y : State := withMirror (fun m => { m with dirty := 1 })
      { b with peers := b.peers.set 5 { b.peers[5] with state := .listening, role := .secondary, epoch := 2, usable := 1016 } }
    (y.takesPart = true ∧ y.partner = some 5 ∧ (settle y y).mirror.role = .primary ∧ (settle y y).mirror.link = .resyncing
      ∧ (settle y y).engine.holdOff = none ∧ (settle y y).drive.state = .ready ∧ y.engine.state = .idle
      ∧ (settle y y).engine.state ≠ .idle)
    ∧ (∀ p ∈ [(SlotId.mirror, OutMsg.resyncBegin 5 7 2), (.mirror, .resyncEnd 5 2 false), (.mirror, .resyncEnd 5 2 true),
        (.resync, .resyncWrite 5 7 8 4), (.resync, .data 5 7 2 true [9]), (.resync, .data 5 7 3 true [9])],
      let t := sends p.1 p.2 (s .send)
      t.resetAsserted = false ∧ t.bus.sending = some (sent p.1 p.2 (s .send)) ∧ (sent p.1 p.2 (s .send)).won = true
      ∧ (sent p.1 p.2 (s .send)).withdrawal = .notAsked ∧ (sent p.1 p.2 (s .send)).msg = p.2
      ∧ t.engine.state ≠ .idle ∧ t.partner = some 5 ∧ t.engine.chunk = some { c with step := .send })
    ∧ (2 + 1 < c.count ∧ c.count ≤ 3 + 1
      ∧ (let x := { sent .mirror (.resyncBegin 5 7 2) b with withdrawal := .refused }
         let t : State := { b with bus := { b.bus with sending := some x } }
         t.bus.sending = some x ∧ x.won = true ∧ x.withdrawal ≠ .notAsked ∧ isEngineMirror x.msg = true))
    ∧ ((s .waitPages).resetAsserted = false ∧ (s .waitPages).engine.chunk = some c ∧ (s .waitPages).drive.state = .ready
      ∧ c.count ≤ (s .waitPages).freePages.length ∧ { c with step := .read }.step ≠ .waitPages)
    ∧ (let t := withFlight (.read 8 4) .chunk 19990 (s .read)
       t.drive.flight = some ⟨.read 8 4, .chunk, 19990⟩ ∧ t.engine.region = some 1
       ∧ c.start + c.count < min ((1 + 1) * t.mirror.regionSize) t.drive.usable.toNat)
    ∧ (withFlight (.read 8 4) .stoppedChunk 19990 b).drive.flight = some ⟨.read 8 4, .stoppedChunk, 19990⟩
    ∧ (b.partner = some 5 ∧ (r .beginning).engine.retry = some 19990 ∧ 10 ≤ (b.tick - 19990).toNat
      ∧ b.mirror.rejoinRetry = none ∧ (r .beginning).engine.state = .beginning ∧ (r .ending).engine.state = .ending
      ∧ (r .copying).engine.state = .copying ∧ (b.tick - 19991).toNat < 10)
    ∧ (let t : State := { b with mirror := { b.mirror with rejoinRetry := some 19990 } }
       t.engine.retry = none ∧ t.mirror.rejoinRetry = some 19990)
    ∧ (let t : State := { r .beginWait with engine := { (r .beginWait).engine with replyWait := some 13000 } }
       t.engine.replyWait = some 13000 ∧ 7000 ≤ (t.tick - 13000).toNat ∧ t.engine.state ≠ .idle
       ∧ (t.tick - 13001).toNat < 7000) := by decide +kernel

theorem test_meets_ConversionsFillTheRecords :
    let h : State → State := fun s => { s with supply := { s.supply with hot := true } }
    ((h one).takesPart = true ∧ (h one).supply.hot = true ∧ (h one).drive.state = .off)
    ∧ ((h (inDrive .ready one)).drive.state = .ready ∧ (h (inDrive .ready one)).drive.flight = none)
    ∧ ((withFlight .sync .port 0 (h (inDrive .ready one))).drive.flight ≠ none)
    ∧ ((h (inDrive .spinUp one)).drive.state = .spinUp)
    ∧ one.resetAsserted = false ∧ one.supply.channel.val < 2 ∧ one.supply.gain = .x4 ∧ 1020 ≤ (1020 : BitVec 10).toNat
    ∧ ¬ 1020 ≤ (1019 : BitVec 10).toNat := by decide +kernel

theorem test_meets_ComparatorTripsTheDrive :
    let a : State := { inDrive .ready one with comp := ⟨some .run, false, false⟩ }
    let h : State := { a with comp := { a.comp with hold := true } }
    let c : State := { a with comp := { a.comp with counting := true } }
    let z : State := { a with settings := some { conf .single with filterWidth := 0 } }
    (a.resetAsserted = false ∧ a.drive.state ≠ .fault ∧ a.comp.level ≠ none ∧ a.comp.hold = false
      ∧ a.comp.counting = false ∧ (conf .single).filterWidth ≠ 0 ∧ a.settings = some (conf .single)
      ∧ a.comp.level = some .run ∧ ((conf .single).runTrip + 1) * 32 ≤ 352 ∧ ¬ ((conf .single).runTrip + 1) * 32 ≤ 351)
    ∧ z.settings = some { conf .single with filterWidth := 0 } ∧ (h.comp.level ≠ none ∧ h.comp.hold = true)
    ∧ (c.comp.level ≠ none ∧ c.comp.hold = false ∧ c.comp.counting = true)
    ∧ (let t := withEntry (entryOf .write .running) c
       (t.request.queue.length ≤ 16 ∧ (t.request.queue.map (·.key)).Nodup)
       ∧ entryOf .write .running ∈ t.request.queue ∧ (entryOf .write .running).outstanding = true)
    ∧ one.comp.level = none
    ∧ (let n : State := { a with settings := none }
       n.settings.bind (fun c => n.comp.level.map fun l => match l with | .spinUp => c.spinTrip | .run => c.runTrip) = none)
    := by decide +kernel

theorem test_meets_ComparatorTripsTheDrive_ends :
    let c : State → State := fun s => { inDrive .ready s with comp := ⟨some .run, false, true⟩ }
    let t : EntryKind → State → State := fun k s => withEntry (entryOf k .queued) (c s)
    let d : State := withEntry { entryOf .write .ending with status := some .ok } (c prim)
    (∀ s ∈ [t .write prim, t .replica secd, d], s.resetAsserted = false ∧ s.drive.state ≠ .fault ∧ s.comp.level ≠ none
      ∧ s.comp.hold = false ∧ s.comp.counting = true ∧ (s.request.queue.length ≤ 16 ∧ (s.request.queue.map (·.key)).Nodup))
    ∧ ((t .write prim).mirror.role = .primary ∧ (t .replica secd).partner = some 5 ∧ (t .replica secd).mirror.role = .secondary
      ∧ (entryOf .write .queued).outstanding = true ∧ (entryOf .replica .queued).outstanding = true)
    ∧ (∃ e ∈ d.request.queue, e.outstanding = false)
    ∧ (sized (t .write prim)).mapAfter [entryOf .write .queued] = 4
    ∧ (sized (t .write one)).mapAfter [entryOf .write .queued] = 0 := by decide +kernel

theorem test_meets_EntryTimersEndTheEntry :
    let d := entryOf .write .dataIn
    let q := entryOf .write .queued
    let v := entryOf .write .waitMirror
    let t : State := { withEntry v prim with mirror := { prim.mirror with copies := [⟨⟨1, 7⟩, ⟨16, 2⟩, .waiting 18000⟩] } }
    ((withEntry d prim).entry ⟨1, 7⟩ = some d ∧ d.state = .dataIn ∧ d.lastPiece = some 19800
      ∧ 200 ≤ (prim.tick - 19800).toNat ∧ d.kind ≠ .replica ∧ (prim.tick - 19801).toNat < 200)
    ∧ ((entryOf .replica .dataIn).kind = .replica ∧ secd.partner = some 5)
    ∧ (q.state = .queued ∧ q.queued = some 14000 ∧ 6000 ≤ (prim.tick - 14000).toNat ∧ prim.drive.state ≠ .ready
      ∧ (prim.tick - 14001).toNat < 6000 ∧ (inDrive .ready prim).drive.state = .ready)
    ∧ (t.entry ⟨1, 7⟩ = some v ∧ v.state = .waitMirror ∧ t.copyState ⟨1, 7⟩ = some (.waiting 18000)
      ∧ 2000 ≤ (t.tick - 18000).toNat ∧ t.mirror.role = .primary ∧ (t.tick - 18001).toNat < 2000) := by decide +kernel

theorem test_meets_HolderTimers :
    let s : State := { holder one with seconds := 3600, watch := { one.watch with term := some 0, passCheck := some 20000 } }
    let b := withPeer 2 .listening { s with peers := s.peers.set 2 { s.peers[2] with kind := .bay, lastHeard := 18800 } }
    (s.resetAsserted = false ∧ s.duty = true ∧ s.watch.term = some 0 ∧ s.settings = some (conf .single)
      ∧ (conf .single).watchTerm * 3600 ≤ (s.seconds - 0).toNat ∧ (3599 : BitVec 32).toNat < (conf .single).watchTerm * 3600)
    ∧ (s.watch.passCheck = some 20000 ∧ (s.tick - 20000).toNat < 2147483648 ∧ s.watch.proxy = []
      ∧ s.watchPending isWatchPass = false ∧ 2147483648 ≤ (s.tick - 20001).toNat)
    ∧ (b.duty = true ∧ 14 < 15 ∧ b.station + Fin.ofNat 16 (14 + 1) = 2
      ∧ b.peers[(2 : Station)].state = .listening ∧ b.peers[(2 : Station)].kind = .bay)
    ∧ (∀ j, j < 14 → ¬ (b.peers[b.station + Fin.ofNat 16 (j + 1)].state = .listening
        ∧ b.peers[b.station + Fin.ofNat 16 (j + 1)].kind = .bay))
    ∧ (∀ n : Station, decide (n = 2) = true ↔ n ≠ b.station ∧ b.peers[n].state = .listening
        ∧ 1200 ≤ (b.tick - b.peers[n].lastHeard).toNat ∧ b.watch.marks[n].absenceHold = none
        ∧ b.watchPending (isAbsentFor n) = false)
    ∧ (let t := withPeer 5 .sleeping { s with watch := { s.watch with
          marks := s.watch.marks.set 5 ⟨none, true, some 19900, none⟩ } }
       (5 : Station) ≠ t.station ∧ t.peers[(5 : Station)].state = .sleeping ∧ t.watch.marks[5].waking = none
       ∧ t.watch.marks[5].wakeWanted = true ∧ t.wakePending 5 = false
       ∧ t.watch.marks[5].lastWake = some 19900 ∧ 100 ≤ (t.tick - 19900).toNat) := by decide +kernel

theorem test_meets_ProxyTimersRun :
    let e : ProxyState → ProxyEntry := fun x => ⟨5, ⟨1, 7⟩, .probe 0, 17000, x, false, false⟩
    let s : ProxyState → State := fun x => { holder one with watch := { one.watch with
      proxy := [e x], out := [.forward 5 ⟨1, 7⟩ (.probe 0)] } }
    let v : State → State := sends .watch (.forward 5 ⟨1, 7⟩ (.probe 0))
    let w : ProxyEntry → List ProxyEntry → State := fun x l =>
      v { holder one with watch := { one.watch with proxy := x :: l } }
    let g : ProxyEntry := ⟨5, ⟨2, 7⟩, .probe 0, 17000, .held, false, false⟩
    (∀ x ∈ [e .sending, { e .sending with expired := true }, { e .sending with recalled := true }],
      (w x [g]).resetAsserted = false
      ∧ (w x [g]).bus.sending = some (sent .watch (.forward 5 ⟨1, 7⟩ (.probe 0)) (w x [g]))
      ∧ (w x [g]).proxyEntry 5 ⟨1, 7⟩ = some x ∧ (w x [g]).duty = true
      ∧ (w x [g]).watch.out.any (isForwardTo 5) = false)
    ∧ (let rest := (w (e .sending) [g]).watch.proxy.filter fun f => !(f.target == 5 && f.key == ⟨1, 7⟩)
       (∀ x ∈ rest, x.target = 5 → x.state = .held) ∧ rest.find? (fun x => x.target == 5) = some g)
    ∧ (∀ x ∈ ((w (e .sending) []).watch.proxy.filter fun f => !(f.target == 5 && f.key == ⟨1, 7⟩)), x.target ≠ 5)
    ∧ (let t : State := { w (e .sending) [] with bus := { (w (e .sending) []).bus with sending := none } }
       3000 ≤ (t.tick - (e .sending).arrival).toNat ∧ t.watch.out.any (isForwardOf 5 ⟨1, 7⟩) = false
       ∧ t.slot .watch = some (.forward 5 ⟨1, 7⟩ (.probe 0)) ∧ t.onLine .watch = false
       ∧ (w (e .sending) []).onLine .watch = true)
    ∧ ((s .held).resetAsserted = false ∧ (s .held).proxyEntry 5 ⟨1, 7⟩ = some (e .held) ∧ (e .held).state ≠ .sending
      ∧ 3000 ≤ ((s .held).tick - 17000).toNat ∧ ((s .held).tick - 17001).toNat < 3000)
    ∧ ((s .sending).proxyEntry 5 ⟨1, 7⟩ = some (e .sending)
      ∧ OutMsg.forward 5 ⟨1, 7⟩ (.probe 0) ∈ (s .sending).watch.out)
    ∧ ((s (.retry 19990)).proxyEntry 5 ⟨1, 7⟩ = some (e (.retry 19990)) ∧ 10 ≤ (one.tick - 19990).toNat
      ∧ (one.tick - 19991).toNat < 10) := by decide +kernel

theorem test_meets_SleepAndTakeTests :
    let s := withShelf (fun x => { x with watch := some 4 })
      { one with peers := one.peers.set 4 { one.peers[4] with lastHeard := 18801 } }
    let p := { s with bus := { s.bus with slots := { Slots.empty with watch := some .asleep } } }
    (s.resetAsserted = false ∧ s.power = .listening ∧ s.settings = some (conf .single) ∧ (conf .single).sleepDelay ≠ 0
      ∧ (conf .single).sleepDelay * 100 ≤ (s.tick - s.watch.listeningSince).toNat ∧ s.drive.state = .off
      ∧ s.drive.deferral = none ∧ (conf .single).sleepDelay * 100 ≤ (s.tick - s.drive.offSince).toNat
      ∧ s.drive.need = false ∧ s.request.queue = [] ∧ s.request.out = [] ∧ s.claim.state = .none
      ∧ s.engine.state = .idle ∧ s.duty = false ∧ s.takeTest = false ∧ s.slot .request = none ∧ s.slot .mirror = none
      ∧ s.slot .resync = none ∧ s.slot .watch = none ∧ s.mirror.out = [] ∧ s.watch.out = []
      ∧ s.watch.sleepRetry = none)
    ∧ (p.slot .watch = some .asleep ∧ p.bus.sending = none ∧ p.settings = some (conf .single)
      ∧ { p.drive with need := true }.need = true ∧ { conf .single with sleepDelay := 0 }.sleepDelay = 0
      ∧ (p.tick - 19901).toNat < (conf .single).sleepDelay * 100 ∧ (withShelf (fun x => { x with watch := none }) p).takeTest = true)
    ∧ (one.power = .listening ∧ one.watch.takeHold = none ∧ one.shelf.watch = none
      ∧ one.watchPending isWatchTake = false)
    ∧ (1200 ≤ (s.tick - 18800).toNat ∧ s.peers[(4 : Station)].state ≠ .absent
      ∧ ¬ 1200 ≤ (s.tick - s.peers[(4 : Station)].lastHeard).toNat
      ∧ OutMsg.watchTake ∈ { s.watch with out := [.watchTake] }.out) := by decide +kernel

/-- The hypotheses of the six statements EveryStepKeeps…. -/
theorem test_meets_EveryStepKeeps :
    let s : State := { withEntry (entryOf .write .queued) (sends .watch .watchTake prim) with pending := [.tickAdvance] }
    (∃ t, step s = .next t) ∧ BufferCanonical s ∧ CountersBounded s ∧ PowerFollowsState s ∧ HoldingsBounded s
    ∧ WaitersSound s ∧ QueueSound s ∧ PagesSound s ∧ LineFromSlot s ∧ SlotsHoldOwnKinds s := by
  refine ⟨⟨_, rfl⟩, rfl, by unfold CountersBounded; decide +kernel, ⟨rfl, rfl⟩, by unfold HoldingsBounded; decide +kernel,
    by unfold WaitersSound; decide +kernel, by unfold QueueSound; decide +kernel,
    by unfold PagesSound; decide +kernel, ?_, ?_, ?_, ?_, ?_⟩
  · intro t h
    cases h
    rfl
  · intro i m h
    cases i <;> cases h
    rfl
  all_goals
    intro m h
    cases h

theorem test_meets_PayloadsReadBackAsWritten :
    let x : Announcement := ⟨true, .fault, .notLoaded, 0, false, 4294967295, true, 255, 255⟩
    let t : TableBody := ⟨2, 255, none, Vector.replicate 16 0, [⟨15, 255⟩]⟩
    (x.epoch ≤ 65535 ∧ (x.epoch = 0 ↔ x.role = .notLoaded) ∧ 1 ≤ x.budget ∧ x.budget ≤ 255 ∧ x.holding ≤ 255)
    ∧ (t.querier ≠ 1 ∧ 1 ≤ t.budget ∧ t.budget ≤ 255 ∧ sumOf t.holdings ≤ t.budget
      ∧ (∀ w ∈ t.waiters, 1 ≤ w.units ∧ w.units ≤ 255 ∧ t.holdings[w.station] = 0)
      ∧ (t.waiters.map (·.station)).Nodup)
    ∧ (block.length = 512 ∧ (8 : BitVec 16) ≠ 0)
    ∧ (Role.secondary ≠ .notLoaded ∧ 1 ≤ 65535 ∧ 16777216 < 4294967296) := by decide +kernel

end Sys2Proof.Tests
end

/-! The shelf's tables (chapter 3): a RELEASE lowers its sender's entry (R48), and the watch station number follows WATCH-TAKE,
WATCH-PASS and TABLE (R50). -/

namespace Sys2Proof.Machine

section
variable {s : State}

/-! ## Effects on the shelf's tables -/

@[simp] theorem steady_onShelf (f : Shelf → Shelf) : (s.onShelf f).steady = { s.steady with shelf := f s.shelf } := rfl

@[simp] theorem steady_moveWatch (n : Station) :
    (moveWatch n s).steady = { s.steady with shelf := { s.shelf with watch := some n } } := rfl

@[simp] theorem shelf_settle (b : State) : (settle b s).shelf = s.shelf := congrArg Steady.shelf (steady_settle s b)

@[simp] theorem shelf_heard (o : Station) : (heard o s).shelf = s.shelf := congrArg Steady.shelf (steady_heard o)

@[simp] theorem station_heard (o : Station) : (heard o s).station = s.station := congrArg Steady.station (steady_heard o)

@[simp] theorem shelf_enterListening : (enterListening s).shelf = s.shelf :=
  congrArg Steady.shelf (steady_placeAwake _)

@[simp] theorem shelf_adoptTable (t : TableBody) :
    (adoptTable t s).shelf = s.shelf.adopt t s.station (match s.settings with | some c => c.budget | none => 0) :=
  congrArg Steady.shelf (steady_budgetRetract _ _)

/-! ## Reception of a message that acts on the tables alone -/

/-- R14: a broadcast that the station takes is in force unless another station objects. -/
theorem broadcastInForce_taken (a : AnswerSlot) : broadcastInForce .acknowledge a = !a.obj := by
  simp [broadcastInForce]

/-- The station answers, hears the origin, and counts no BUSY. -/
theorem steady_heard_answers (o : Station) {d : Answer} (hd : d ≠ .busy) :
    (heard o (s.answers d)).steady = { s.steady with answer := d, peers := s.heardFrom o } := by
  rw [steady_heard, steady_answers, if_neg hd]
  rfl

section
variable {α : Type} {inForce : Answer → Bool} {o : Station} {body : Option α} {judge : α → State → Answer × State}
  {x : α} {d : Answer}

/-- R11, R13, R14: a message in force whose effect changes nothing but the tables. -/
theorem steady_hear_onShelf {f : α → Shelf → Shelf} (ht : s.takesPart = true) (ho : o ≠ s.station) (hb : body = some x)
    (hj : judge x s = (d, s)) (hd : d ≠ .busy) (hf : inForce d = true) :
    (hear inForce o body judge (fun x _ u => u.onShelf (f x)) s).steady =
      { s.steady with answer := d, peers := s.heardFrom o, shelf := f x s.shelf } := by
  rw [hear_some ht ho hb, hj, if_pos hf, steady_onShelf, steady_heard_answers o hd, shelf_heard, answers_shelf]

/-- R11: a message that does not come into force leaves only the station's answer. -/
theorem steady_hear_notInForce {effect : α → Answer → State → State} (ht : s.takesPart = true) (ho : o ≠ s.station)
    (hb : body = some x) (hj : judge x s = (d, s)) (hd : d ≠ .busy) (hf : inForce d = false) :
    (hear inForce o body judge effect s).steady = { s.steady with answer := d } := by
  rw [hear_some ht ho hb, hj, if_neg (by simp [hf]), steady_answers, if_neg hd]
  rfl

end

/-! ## Outcomes of own messages -/

/-- The line after the end of a transmission, and the slot that it leaves empty (R16). -/
def State.lineFreed (i : SlotId) (s : State) : State := (s.onBus fun b => { b with sending := none }).putSlot i none

@[simp] theorem steady_lineFreed (i : SlotId) : (s.lineFreed i).steady = { s.steady with line := none } := rfl

/-- R16: at the end of a message that had won its contest the owner handles the outcome. -/
theorem finishSend_won {x : Sending} (hx : s.bus.sending = some x) (hw : x.won = true) (f : OutMsg → SendOutcome) :
    finishSend f false s = sendDone x (f x.msg) (s.lineFreed x.slot) := by
  simp only [finishSend, hx, hw, if_true]
  rfl

/-- SEND_OUTCOME leaves what its owner's handling of the outcome leaves. -/
theorem leaves_sendOutcome {x : Sending} {a o : Bool} {k : Steady} (hr : s.resetAsserted = false)
    (hx : s.bus.sending = some x) (hw : x.won = true)
    (hk : (sendDone x (outcomeOf x.msg a o) (s.lineFreed x.slot)).steady = k) : Leaves (.sendOutcome a o) s k :=
  leaves_of (finishSend (fun m => outcomeOf m a o) false) hr rfl (by rw [finishSend_won hx hw, hk])

end

/-! ## RELEASE (R48) -/

/-- R48: the entry is lowered by the smaller of the units field and the entry. -/
theorem release_eq (x : Shelf) (n : Station) (u : Nat) (w : Bool) :
    x.release n u w =
      { x with
        holdings := x.holdings.set n (x.holdings[n] - min u x.holdings[n])
        waiters := if w then x.waiters.filter fun v => v.station != n else x.waiters } := by
  have hmin : x.holdings[n] - u = x.holdings[n] - min u x.holdings[n] := by omega
  rw [Shelf.release, hmin]

/-- R48: a payload of another length, or a withdraw flag above 1, makes a RELEASE malformed. -/
theorem parseRelease_malformed {p : List Byte} (h : p.length ≠ 2 ∨ 1 < (p.getD 1 0).toNat) : parseRelease p = none := by
  match p with
  | [] | [_] | _ :: _ :: _ :: _ => rfl
  | [u, w] =>
    have hw : 1 < w.toNat := by simpa using h
    have h0 : w ≠ 0 := by rintro rfl; simp at hw
    have h1 : w ≠ 1 := by rintro rfl; simp at hw
    have hf : flagOf w = none := by rw [flagOf, if_neg h0, if_neg h1]
    rw [parseRelease, hf, Option.map_none]

theorem parseRelease_pair (n : Byte) {w : Byte} (h : w.toNat ≤ 1) : parseRelease [n, w] = some (n.toNat, w == 1) := by
  have hw : w = 0 ∨ w = 1 := by bv_omega
  rcases hw with rfl | rfl <;> rfl

/-- R62, R63: after its effect on the tables a RELEASE moves only the own claim. -/
@[simp] theorem steady_ownReleaseOutcome (s : State) (why : ReleaseWhy) (c : Bool) :
    (ownReleaseOutcome why c s).steady = s.steady := by
  unfold ownReleaseOutcome
  (repeat' split) <;> rfl

theorem sum_set_le_sum : ∀ (l : List Nat) (i : Nat) (u : Nat), (∀ h : i < l.length, u ≤ l[i]) → (l.set i u).sum ≤ l.sum
  | [], _, _, _ => Nat.le_refl _
  | b :: l, 0, u, h => by
    have hu : u ≤ b := h (Nat.zero_lt_succ _)
    simpa using hu
  | b :: l, i + 1, u, h => by
    have ih := sum_set_le_sum l i u fun hi => h (Nat.succ_lt_succ hi)
    simpa using ih

/-- An entry lowered does not raise the sum of the holdings. -/
theorem sumOf_set_le (h : Vector Nat 16) (o : Station) {u : Nat} (hu : u ≤ h[o]) : sumOf (h.set o u) ≤ sumOf h := by
  rw [sumOf, sumOf, Vector.toList_set]
  exact sum_set_le_sum _ _ _ fun _ => by simpa using hu

/-- R48 at a receiver, in force and objected to. -/
theorem leaves_releaseReceived {s : State} {o : Station} {n w : Byte} {a : AnswerSlot} (ht : s.takesPart = true)
    (ho : o ≠ s.station) (hw : w.toNat ≤ 1) :
    (a.obj = false → Leaves (.releaseReceived o [n, w] a) s
      { s.steady with answer := .acknowledge, peers := s.heardFrom o, shelf := s.shelf.release o n.toNat (w == 1) })
    ∧ (a.obj = true → Leaves (.releaseReceived o [n, w] a) s { s.steady with answer := .acknowledge }) := by
  have hr := notReset_of_takesPart ht
  have hb := parseRelease_pair n hw
  refine ⟨fun ha => ?inForce, fun ha => ?objected⟩ <;> refine leaves_of (hearRelease o [n, w] a) hr rfl ?_
  case inForce =>
    refine steady_hear_onShelf (judge := taken) (f := fun r x => x.release o r.1 r.2) ht ho hb rfl (by decide) ?_
    rw [broadcastInForce_taken, ha, Bool.not_false]
  case objected =>
    refine steady_hear_notInForce (judge := taken) ht ho hb rfl (by decide) ?_
    rw [broadcastInForce_taken, ha, Bool.not_true]

/-- R48 at the sender. -/
theorem leaves_releaseSent {s : State} {x : Sending} {n : Nat} {w : Bool} {why : ReleaseWhy} {a : Bool}
    (hr : s.resetAsserted = false) (hx : s.bus.sending = some x) (hw : x.won = true) (hm : x.msg = .release n w why) :
    Leaves (.sendOutcome a false) s { s.steady with line := none, shelf := s.shelf.release s.station n w } := by
  refine leaves_sendOutcome hr hx hw ?_
  have hdone : sendDone x (outcomeOf x.msg a false) (s.lineFreed x.slot) =
      ownReleaseOutcome why true ((s.lineFreed x.slot).onShelf fun y => y.release s.station n w) := by
    simp only [sendDone, hm]
    rfl
  rw [hdone, steady_ownReleaseOutcome, steady_onShelf, steady_lineFreed]
  rfl

/-- Settles O19: the payload and its tests, then one lemma for a receiver, one for the sender and one for the sum. -/
theorem releaseLowersTheEntry : Obligations.ReleaseLowersTheEntry := by
  refine ⟨rfl, rfl, fun _ _ _ _ _ => ⟨rfl, rfl⟩, ?malformed, ?received, ?sent, ?sum⟩
  case malformed =>
    intro s o p a ht hp
    have hdrop : hearRelease o p a s = s.answers .nothing := hear_malformed (parseRelease_malformed hp)
    calc exec (.releaseReceived o p a) s = takeEvent (hearRelease o p a) s := rfl
      _ = .next (settle s (s.answers .nothing)) := by rw [takeEvent_eq _ (notReset_of_takesPart ht), hdrop]
  case received =>
    intro s o n w a ht ho hw
    have h := leaves_releaseReceived (n := n) (a := a) ht ho hw
    simpa only [release_eq, beq_iff_eq] using h
  case sent =>
    intro s x n w why a hr hx hw hm
    have h := leaves_releaseSent (a := a) hr hx hw hm
    simpa only [release_eq] using h
  case sum =>
    intro h o n
    exact sumOf_set_le h o (Nat.sub_le _ _)

/-! ## The watch station number (R50) -/

/-- R50 at a receiver of a WATCH-TAKE: its objection, when it holds duty, fails to reach the line. -/
theorem leaves_watchTakeReceived {s : State} {o : Station} {a : AnswerSlot} (ht : s.takesPart = true)
    (ho : o ≠ s.station) (ha : a.obj = false) (hf : s.duty = false ∨ a.ownFails = true) :
    Leaves (.watchTakeReceived o [] a) s
      { s.steady with
        answer := if s.duty then .objection else .acknowledge, peers := s.heardFrom o
        shelf := s.shelf.setWatch o } := by
  refine leaves_of (hearWatchTake o [] a) (notReset_of_takesPart ht) rfl ?_
  refine steady_hear_onShelf (f := fun _ x => x.setWatch o) ht ho rfl rfl ?_ ?_
  · cases s.duty <;> decide
  · rcases hf with hd | hf
    · simp [broadcastInForce, ha, hd]
    · simp [broadcastInForce, ha, hf]

/-- R167: what the station answers to a WATCH-PASS. -/
theorem watchPassAnswer_eq (t : Station) (s : State) :
    watchPassAnswer t () s = (if t = s.station ∧ s.power = .listening then .acknowledge else .nothing, s) := by
  by_cases hs : t = s.station
  · simp [watchPassAnswer, takeOrNothing, hs]
  · simp [watchPassAnswer, hs]

/-- R50 at a receiver of a WATCH-PASS, addressed to it or to another station. -/
theorem leaves_watchPassReceived {s : State} {o t : Station} {a : AnswerSlot} (ht : s.takesPart = true)
    (ho : o ≠ s.station) (ha : a.ack = true ∨ (t = s.station ∧ s.power = .listening ∧ a.ownFails = false)) :
    Leaves (.watchPassReceived o t [] a) s
      { s.steady with
        answer := if t = s.station ∧ s.power = .listening then .acknowledge else .nothing, peers := s.heardFrom o
        shelf := s.shelf.setWatch t } := by
  refine leaves_of (hearWatchPass o t [] a) (notReset_of_takesPart ht) rfl ?_
  refine steady_hear_onShelf (f := fun _ x => x.setWatch t) ht ho rfl (watchPassAnswer_eq t s) ?_ ?_
  · split <;> decide
  · rcases ha with ha | ⟨hs, hp, hf⟩
    · simp [targetedInForce, ha]
    · simp [targetedInForce, hs, hp, hf]

/-- R50 at the sender: a WATCH-TAKE in force names it, a WATCH-PASS taken names its target. -/
theorem steady_sendDone_movesWatch {s : State} {x : Sending} {n : Station} {o : SendOutcome} (ho : o.came = true)
    (hm : x.msg = .watchTake ∧ n = s.station ∨ x.msg = .watchPass n) :
    (sendDone x o (s.lineFreed x.slot)).steady =
      { s.steady with line := none, shelf := { s.shelf with watch := some n } } := by
  have hdone : sendDone x o (s.lineFreed x.slot) = moveWatch n (s.lineFreed x.slot) := by
    rcases hm with ⟨hm, rfl⟩ | hm
    · simp only [sendDone, hm, watchTakeOutcome, ho, if_true]
      rfl
    · simp only [sendDone, hm, watchPassOutcome, ho, if_true]
  rw [hdone, steady_moveWatch, steady_lineFreed]
  rfl

/-- R55: adoption takes the watch station number of the TABLE, but not the adopting station's own. -/
theorem watch_tableInForce {s : State} (t : TableBody) (hc : s.shelf.census = .incomplete) :
    (tableInForce t s).shelf.watch = if t.watch = some s.station then none else t.watch := by
  rw [tableInForce, if_pos hc, shelf_enterListening, shelf_adoptTable]
  rfl

/-- R54, R55: a TABLE in force at a station whose census is INCOMPLETE. -/
theorem watch_tableReceived {s : State} {o : Station} {p : List Byte} {x : TableBody} {a : AnswerSlot}
    (ht : s.takesPart = true) (ho : o ≠ s.station) (hp : parseTable o p = some x) (ha : a.obj = false)
    (hc : s.shelf.census = .incomplete) :
    ∃ t, exec (.tableReceived o p a) s = .next t
      ∧ t.shelf.watch = if x.watch = some s.station then none else x.watch := by
  have heq : hearTable o p a s = tableInForce x (heard o (s.answers .acknowledge)) := by
    rw [hearTable, hear_some ht ho hp, if_pos (by simp [taken, broadcastInForce_taken, ha])]
    rfl
  refine ⟨_, takeEvent_eq (hearTable o p a) (notReset_of_takesPart ht), ?_⟩
  rw [shelf_settle, heq, watch_tableInForce x (by simpa using hc), station_heard, answers_station]

/-- R54: byte 2 of a TABLE is the watch station number. -/
theorem watchByte_table (x : TableBody) :
    x.bytes.getD 2 0 = match x.watch with | some n => BitVec.ofNat 8 n.val | none => 255 := by
  cases h : x.watch <;> simp [TableBody.bytes, optStationByte, stationByte, byte, h]

/-- Settles O21: one lemma for each receiver and one for both senders; the TABLE carries the number and adoption takes it. -/
theorem watchNumberFollowsTheDuty : Obligations.WatchNumberFollowsTheDuty := by
  refine ⟨?takeReceived, ?passReceived, ?takeSent, ?passSent, fun _ _ => rfl, watchByte_table, ?adopted⟩
  case takeReceived =>
    intro s o a ht ho ha hf
    exact leaves_watchTakeReceived ht ho ha hf
  case passReceived =>
    intro s o t a ht ho ha
    exact leaves_watchPassReceived ht ho ha
  case takeSent =>
    intro s x a hr hx hw hm
    exact leaves_sendOutcome hr hx hw (steady_sendDone_movesWatch (by rw [hm]; rfl) (.inl ⟨hm, rfl⟩))
  case passSent =>
    intro s x n b hr hx hw hm
    exact leaves_sendOutcome hr hx hw (steady_sendDone_movesWatch (by rw [hm]; rfl) (.inr hm))
  case adopted =>
    intro s o p x a ht ho hp ha hc
    exact watch_tableReceived ht ho hp ha hc

end Sys2Proof.Machine

/-! CLEAR-FAULT (chapter 4, section 4.6; R82, R97): after a trip the last drive 12 V current record decides between OFF and
DENIED. -/

namespace Sys2Proof.Machine

section
variable {s : State} {o : Station} {a : AnswerSlot} {tag : Tag}

/-! ## What a message in force leaves -/

/-- R37, R168: hearing a station touches the presence table, the watch unit and the slots. -/
theorem heard_frame (o : Station) (s : State) :
    heard o s = { s with bus := (heard o s).bus, peers := (heard o s).peers, watch := (heard o s).watch } := by
  unfold heard
  dsimp only
  split <;> rw [(watchRetract_spec _ _).1] <;> rfl

@[simp] theorem drive_heard (o : Station) : (heard o s).drive = s.drive := by rw [heard_frame]

@[simp] theorem request_heard (o : Station) : (heard o s).request = s.request := by rw [heard_frame]

@[simp] theorem tick_heard (o : Station) : (heard o s).tick = s.tick := by rw [heard_frame]

@[simp] theorem supply_heard (o : Station) : (heard o s).supply = s.supply := by rw [heard_frame]

/-- R13: a targeted message that the station takes is in force when its acknowledgement reaches the line. -/
theorem targetedInForce_acknowledge (h : a.ack = true ∨ a.ownFails = false) : targetedInForce .acknowledge a = true := by
  rcases h with h | h <;> simp [targetedInForce, h]

/-- R13: one that the station refuses is in force only when another station acknowledges it. -/
theorem targetedInForce_busy (a : AnswerSlot) : targetedInForce .busy a = a.ack := by simp [targetedInForce]

/-- What holds of a command's own effect may be weakened. -/
theorem does_mono {c : Instr} {k : Steady} {P Q : State → Prop} (h : Does c s k P) (hpq : ∀ u, P u → Q u) :
    Does c s k Q := by
  obtain ⟨u, hu, hk, hp⟩ := h
  exact ⟨u, hu, hk, hpq u hp⟩

/-! ## The current test (R97) -/

/-- R84, R97: the drive 12 V current of a record, in mA: a step is 2 mA at range ×4 and 8 mA at range ×1. -/
def SampleRecord.current (r : SampleRecord) : Nat := match r.gain with | .x4 => r.value * 2 | .x1 => r.value * 8

/-- R97: the last drive 12 V current record is below the run trip level's current. -/
theorem currentBelow_iff {c : Settings} (hc : s.settings = some c) :
    s.currentBelow = true ↔ s.supply.records[0].valid = true ∧ s.supply.records[0].overFlag = false
      ∧ s.supply.records[0].current < (c.runTrip + 1) * 32 := by
  have heq : s.currentBelow = (s.supply.records[0].valid && !s.supply.records[0].overFlag
      && decide (s.supply.records[0].current < (c.runTrip + 1) * 32)) := by
    simp only [State.currentBelow, hc]
    rfl
  simp [heq, and_assoc]

@[simp] theorem currentBelow_answers (d : Answer) : (s.answers d).currentBelow = s.currentBelow := rfl

@[simp] theorem currentBelow_heard (o : Station) : (heard o s).currentBelow = s.currentBelow := by rw [heard_frame]; rfl

/-! ## What the drive port does on a CLEAR-FAULT (R82) -/

/-- R82: the drive port has left FAULT for OFF. -/
def State.faultCleared (s : State) : State := s.onDrive fun d => { d with state := .off, cause := none, offSince := s.tick }

theorem steady_faultCleared (s : State) :
    s.faultCleared.steady =
      { s.steady with cause := none, held := none, coldDrive := s.cold .off s.drive.deferral s.tick } := rfl

/-- R82, R97: the fault is cleared unless it is a trip whose current does not pass the test. -/
theorem clearFault_cleared (hf : s.drive.state = .fault)
    (h : s.drive.cause = some .overcurrent → s.currentBelow = true) : clearFault s = (.ok, s.faultCleared) := by
  have hn : ¬(s.drive.cause = some .overcurrent ∧ s.currentBelow = false) := fun ⟨hc, hb⟩ => by simp [h hc] at hb
  rw [clearFault, if_pos hf, if_neg hn, State.faultCleared]

/-- R97: a trip whose current does not pass the test stays. -/
theorem clearFault_denied (hf : s.drive.state = .fault) (hc : s.drive.cause = some .overcurrent)
    (hb : s.currentBelow = false) : clearFault s = (.denied, s) := by rw [clearFault, if_pos hf, if_pos ⟨hc, hb⟩]

/-- R82: outside FAULT nothing is to clear. -/
theorem clearFault_noFault (hf : s.drive.state ≠ .fault) : clearFault s = (.ok, s) := by rw [clearFault, if_neg hf]

/-! ## The reception -/

theorem parseTag_byte (tag : Tag) : parseTag [tag] = some tag := rfl

/-- R82: with room for its DONE a CLEAR-FAULT is taken, else it is answered BUSY. -/
theorem clearFaultAnswer_own (tag : Tag) (s : State) :
    clearFaultAnswer s.station tag s = (takeOrBusy (s.clearDones < 4), s) := if_pos rfl

/-- R82, R12: without room the message is answered BUSY, and has no effect but that its origin is heard when another station
acknowledged it. -/
theorem leaves_clearFault_busy (ht : s.takesPart = true) (ho : o ≠ s.station) (hn : 4 ≤ s.clearDones) :
    Leaves (.clearFaultReceived o s.station [tag] a) s
      { s.steady with
        answer := .busy, counters := s.counted 1, peers := if a.ack then s.heardFrom o else s.peers } := by
  have hj : clearFaultAnswer s.station tag s = (.busy, s) := by
    rw [clearFaultAnswer_own, decide_eq_false (Nat.not_lt.mpr hn)]
    rfl
  refine leaves_of (hearClearFault o s.station [tag] a) (notReset_of_takesPart ht) rfl ?_
  rw [hearClearFault, hear_some ht ho (parseTag_byte tag), hj, targetedInForce_busy]
  cases a.ack
  · exact steady_answers .busy
  · exact steady_heard o

/-- R82: a taken CLEAR-FAULT does to the station that has heard it what the drive port does, and makes ready its DONE. -/
theorem does_clearFault_taken {st : Status} {u : State} {k : Steady} (ht : s.takesPart = true) (ho : o ≠ s.station)
    (ha : a.ack = true ∨ a.ownFails = false) (hn : s.clearDones < 4)
    (hu : clearFault (heard o (s.answers .acknowledge)) = (st, u)) (hk : u.steady = k) (hq : u.request = s.request) :
    Does (.clearFaultReceived o s.station [tag] a) s k fun v =>
      v.request.out = s.request.out ++ [.clearDone ⟨o, tag⟩ st] ∧ v.drive = u.drive := by
  have hj : clearFaultAnswer s.station tag s = (.acknowledge, s) := by
    rw [clearFaultAnswer_own, decide_eq_true hn]
    rfl
  have heq : hearClearFault o s.station [tag] a s =
      u.onRequest fun q => { q with out := q.out ++ [.clearDone ⟨o, tag⟩ st] } := by
    rw [hearClearFault, hear_some ht ho (parseTag_byte tag), hj, if_pos (targetedInForce_acknowledge ha), if_pos rfl,
      clearFaultInForce, hu]
  refine does_of (hearClearFault o s.station [tag] a) (notReset_of_takesPart ht) rfl ?_ ?_
  · rw [heq]
    exact hk
  · rw [heq, onRequest_request, onRequest_drive, hq]
    exact ⟨rfl, rfl⟩

/-- The steady part after a taken message has been heard. -/
theorem steady_heard_acknowledged (o : Station) (s : State) :
    (heard o (s.answers .acknowledge)).steady = { s.steady with answer := .acknowledge, peers := s.heardFrom o } :=
  steady_heard_answers o (by decide)

/-- A CLEAR-FAULT that clears the fault: the drive port goes to OFF and the DONE is OK. -/
theorem does_clearFault_cleared (ht : s.takesPart = true) (ho : o ≠ s.station)
    (ha : a.ack = true ∨ a.ownFails = false) (hn : s.clearDones < 4) (hf : s.drive.state = .fault)
    (h : s.drive.cause = some .overcurrent → s.currentBelow = true) :
    Does (.clearFaultReceived o s.station [tag] a) s
      { s.steady with
        answer := .acknowledge, peers := s.heardFrom o, cause := none, held := none
        coldDrive := s.cold .off s.drive.deferral s.tick }
      fun u => u.request.out = s.request.out ++ [.clearDone ⟨o, tag⟩ .ok] := by
  have hu : clearFault (heard o (s.answers .acknowledge)) = (.ok, (heard o (s.answers .acknowledge)).faultCleared) :=
    clearFault_cleared (by simpa using hf) (by simpa using h)
  refine does_mono (does_clearFault_taken ht ho ha hn hu ?_ ?_) fun _ ⟨hout, _⟩ => hout
  · rw [steady_faultCleared, steady_heard_acknowledged]
    simp [State.cold]
  · simp [State.faultCleared]

/-- A CLEAR-FAULT that leaves the drive port as it is: only its DONE is made ready. -/
theorem does_clearFault_kept {st : Status} (ht : s.takesPart = true) (ho : o ≠ s.station)
    (ha : a.ack = true ∨ a.ownFails = false) (hn : s.clearDones < 4)
    (hu : clearFault (heard o (s.answers .acknowledge)) = (st, heard o (s.answers .acknowledge))) :
    Does (.clearFaultReceived o s.station [tag] a) s { s.steady with answer := .acknowledge, peers := s.heardFrom o }
      fun u => u.request.out = s.request.out ++ [.clearDone ⟨o, tag⟩ st] ∧ u.drive = s.drive := by
  have h := does_clearFault_taken (tag := tag) ht ho ha hn hu (steady_heard_acknowledged o s) (by simp)
  simpa using h

end

/-- Settles O35: the refusal, then the three ways in which the drive port meets a taken CLEAR-FAULT; the current test is that
of the obligation. -/
theorem clearFaultTestsTheCurrent : Obligations.ClearFaultTestsTheCurrent := by
  refine ⟨fun s o tag a ht ho hn _ => leaves_clearFault_busy ht ho hn, ?_⟩
  intro s o tag c a ht ho ha hc hn r below cleared kept
  have hbelow : s.currentBelow = true ↔ below := currentBelow_iff hc
  refine ⟨?tripBelow, ?tripOver, ?otherFault, ?noFault⟩
  case tripBelow =>
    intro hf _ hb
    exact does_clearFault_cleared ht ho ha hn hf fun _ => hbelow.mpr hb
  case tripOver =>
    intro hf hcause hb
    have hnot : s.currentBelow = false := Bool.eq_false_iff.mpr (mt hbelow.mp hb)
    exact does_clearFault_kept ht ho ha hn
      (clearFault_denied (by simpa using hf) (by simpa using hcause) (by simpa using hnot))
  case otherFault =>
    intro hf hcause
    exact does_clearFault_cleared ht ho ha hn hf fun h => absurd h hcause
  case noFault =>
    intro hf
    exact does_clearFault_kept ht ho ha hn (clearFault_noFault (by simpa using hf))

end Sys2Proof.Machine

/-! The obligations of the family 'other'. -/

namespace Sys2Proof.Machine

-- The check bounds the memory of all threads together, so the proofs below are elaborated one after another.
set_option Elab.async false

/-! What every step keeps: the invariants of the station in one relation between a state and a later one, proved once for each
operation that a step is made of. -/

section
variable {s u v : State}

/-! ## The relation -/

/-- State `u` satisfies every invariant that state `s` does. -/
structure Preserves (s u : State) : Prop where
  buffer : BufferCanonical s → BufferCanonical u := by exact id
  counters : CountersBounded s → CountersBounded u := by exact id
  power : PowerFollowsState s → PowerFollowsState u := by exact id
  shelf : HoldingsBounded s ∧ WaitersSound s → HoldingsBounded u ∧ WaitersSound u := by exact id
  queue : QueueSound s ∧ PagesSound s → QueueSound u ∧ PagesSound u := by exact id
  slots : LineFromSlot s ∧ SlotsHoldOwnKinds s → LineFromSlot u ∧ SlotsHoldOwnKinds u := by exact id

/-- Besides, the queue of commands is the same. -/
structure Holds (s u : State) : Prop extends Preserves s u where
  pending : u.pending = s.pending := by rfl

/-- Besides, the line is as idle as it was (R2). -/
structure Keeps (s u : State) : Prop extends Holds s u where
  idle : u.bus.idle = s.bus.idle := by rfl

theorem Holds.trans (h : Holds s u) (g : Holds u v) : Holds s v where
  buffer := g.buffer ∘ h.buffer
  counters := g.counters ∘ h.counters
  power := g.power ∘ h.power
  shelf := g.shelf ∘ h.shelf
  queue := g.queue ∘ h.queue
  slots := g.slots ∘ h.slots
  pending := g.pending.trans h.pending

theorem Keeps.refl (s : State) : Keeps s s := {}

theorem Keeps.trans (h : Keeps s u) (g : Keeps u v) : Keeps s v where
  toHolds := h.toHolds.trans g.toHolds
  idle := g.idle.trans h.idle

theorem keeps_foldl {α : Type} {f : State → α → State} (hf : ∀ s a, Keeps s (f s a)) :
    ∀ (l : List α) (s : State), Keeps s (l.foldl f s)
  | [], s => .refl s
  | a :: l, s => (hf s a).trans (keeps_foldl hf l (f s a))

/-! ## Each invariant under the updates that touch it -/

theorem countersBounded_iff : CountersBounded s ↔
    s.bus.checkErrors ≤ 65535 ∧ s.bus.busyGiven ≤ 65535 ∧ s.bus.spoiled ≤ 65535 ∧ s.bus.arbLosses ≤ 65535
      ∧ s.supply.trips ≤ 65535 ∧ s.engine.redoCount ≤ 65535 ∧ s.announce.mismatches ≤ 65535
      ∧ s.request.undelivered ≤ 65535 ∧ s.mirror.recordErrors ≤ 65535 := by
  simp [CountersBounded, State.counters]

/-- The line's message and its slot. -/
def State.lineMsg (s : State) : Option (SlotId × OutMsg) := s.bus.sending.map fun t => (t.slot, t.msg)

theorem lineFromSlot_iff : LineFromSlot s ↔ ∀ p, s.lineMsg = some p → s.slot p.1 = some p.2 := by
  unfold LineFromSlot State.lineMsg
  cases s.bus.sending with
  | none => simp
  | some t => simp

/-- The slots stay, the line's message stays, and the outgoing lists gain only messages of their owner's kinds. -/
theorem slots_of_lists (hl : u.lineMsg = s.lineMsg := by rfl) (hs : u.bus.slots = s.bus.slots := by rfl)
    (hc : ∀ m ∈ u.claim.out, m ∈ s.claim.out ∨ m.fits .budget = true := by exact fun _ h => .inl h)
    (hw : ∀ m ∈ u.watch.out, m ∈ s.watch.out ∨ m.fits .watch = true := by exact fun _ h => .inl h)
    (hm : ∀ m ∈ u.mirror.out, m ∈ s.mirror.out ∨ m.fits .mirror = true := by exact fun _ h => .inl h) :
    LineFromSlot s ∧ SlotsHoldOwnKinds s → LineFromSlot u ∧ SlotsHoldOwnKinds u := by
  rw [lineFromSlot_iff, lineFromSlot_iff, hl]
  rintro ⟨h₀, h₁, h₂, h₃, h₄⟩
  have hslot : ∀ i, u.slot i = s.slot i := fun i => by rw [State.slot, hs, State.slot]
  refine ⟨fun p hp => (hslot _).trans (h₀ p hp), fun i m h => h₁ i m ((hslot i).symm.trans h), ?_, ?_, ?_⟩
  · exact fun m h => (hc m h).elim (h₂ m) id
  · exact fun m h => (hw m h).elim (h₃ m) id
  · exact fun m h => (hm m h).elim (h₄ m) id

theorem slot_putSlot (i : SlotId) (m : Option OutMsg) (s : State) : (s.putSlot i m).slot i = m := by
  simp [State.putSlot, State.slot]

theorem slot_putSlot_other {i j : SlotId} (m : Option OutMsg) (s : State) (h : j ≠ i) :
    (s.putSlot i m).slot j = s.slot j := slots_get_set_other _ _ h

/-- A slot that the line does not use takes a message of its owner's kinds, or is emptied. -/
theorem keeps_putSlot {i : SlotId} {m : Option OutMsg} (hl : LineFromSlot s → s.onLine i = false)
    (hm : SlotsHoldOwnKinds s → ∀ x, m = some x → x.fits i = true) : Keeps s (s.putSlot i m) where
  slots := by
    rintro ⟨h₀, h₁⟩
    refine ⟨fun t ht => ?_, fun j x hx => ?_, h₁.2.1, h₁.2.2.1, h₁.2.2.2⟩
    · have hne : t.slot ≠ i := by
        have := hl h₀
        rw [State.onLine, show s.bus.sending = some t from ht] at this
        simpa using this
      rw [slot_putSlot_other m s hne]
      exact h₀ t ht
    · by_cases hj : j = i
      · subst hj
        rw [slot_putSlot] at hx
        exact hm h₁ x hx
      · rw [slot_putSlot_other m s hj] at hx
        exact h₁.1 j x hx

theorem onLine_false_of_empty {i : SlotId} (h : s.slot i = none) (hl : LineFromSlot s) : s.onLine i = false := by
  unfold State.onLine
  cases hs : s.bus.sending with
  | none => rfl
  | some t =>
    have := hl t hs
    simp only [beq_eq_false_iff_ne, ne_eq]
    rintro rfl
    rw [h] at this
    cases this

/-- An empty slot takes a message of its owner's kinds. -/
theorem keeps_fillSlot {i : SlotId} {m : Option OutMsg} (h : s.slot i = none)
    (hm : SlotsHoldOwnKinds s → ∀ x, m = some x → x.fits i = true) : Keeps s (s.putSlot i m) :=
  keeps_putSlot (onLine_false_of_empty h) hm

/-- The bus port with another withdrawal asked for on the line. -/
theorem keeps_withdrawal {t : Sending} {w : Withdrawal} (ht : s.bus.sending = some t) :
    Keeps s (s.onBus fun b => { b with sending := some { t with withdrawal := w } }) where
  slots := slots_of_lists (hl := by simp [State.lineMsg, State.onBus, ht])

theorem keeps_withdraw (i : SlotId) (p : OutMsg → Bool) (s : State) : Keeps s (withdraw i p s).2 := by
  unfold withdraw
  split
  · split
    · rename_i t ht
      split
      · exact keeps_withdrawal ht
      · rename_i hne
        exact keeps_putSlot (fun _ => by simpa [State.onLine, ht] using hne) fun _ _ h => by cases h
    · rename_i ht
      exact keeps_putSlot (fun _ => by simp [State.onLine, ht]) fun _ _ h => by cases h
  · exact .refl s

/-! ### The shelf's tables -/

/-- An update of the tables that keeps them sound. -/
theorem keeps_onShelf (f : Shelf → Shelf) (h : HoldingsBounded s ∧ WaitersSound s →
    HoldingsBounded (s.onShelf f) ∧ WaitersSound (s.onShelf f)) : Keeps s (s.onShelf f) where
  shelf := h

end

/-! The shelf's tables stay sound (R40, R41, R46 to R55). -/

section
variable {s : State}

/-- The holdings are within the budget, the waiters distinct and without holdings. -/
def Shelf.Sound (x : Shelf) : Prop :=
  sumOf x.holdings ≤ x.budget ∧ (x.waiters.map (·.station)).Nodup ∧ ∀ w ∈ x.waiters, x.holdings[w.station] = 0

theorem shelfSound_iff : s.shelf.Sound ↔ HoldingsBounded s ∧ WaitersSound s := Iff.rfl

theorem sum_set : ∀ (l : List Nat) (i u : Nat) (h : i < l.length), (l.set i u).sum + l[i] = l.sum + u
  | [], _, _, h => absurd h (Nat.not_lt_zero _)
  | b :: l, 0, u, _ => by simp; omega
  | b :: l, i + 1, u, h => by
    have ih := sum_set l i u (Nat.lt_of_succ_lt_succ h)
    simp only [List.set_cons_succ, List.sum_cons, List.getElem_cons_succ]
    omega

/-- The sum of the holdings after one of them is set. -/
theorem sumOf_set (h : Vector Nat 16) (n : Station) (u : Nat) : sumOf (h.set n u) + h[n] = sumOf h + u := by
  have := sum_set h.toList n.val u (by simp)
  simpa [sumOf, Vector.toList_set] using this

theorem getElem_set_of_ne (h : Vector Nat 16) {n m : Station} (u : Nat) (hne : m ≠ n) : (h.set n u)[m] = h[m] := by
  rw [Fin.getElem_fin, Vector.getElem_set_ne _ _ fun hv => hne (Fin.ext hv.symm)]
  rfl

theorem admits_sum {x : Shelf} {n : Station} {u : Nat} (h : x.admits n u = true) : sumOf x.holdings + u ≤ x.budget := by
  unfold Shelf.admits at h
  (repeat' split at h) <;> simp only [decide_eq_true_eq] at h <;> omega

theorem Shelf.Sound.filterWaiters {x : Shelf} (hx : x.Sound) (p : Waiter → Bool) :
    (x.waiters.filter p |>.map (·.station)).Nodup := hx.2.1.sublist (List.filter_sublist.map _)

/-- A station leaves the waiters list, and its holding is set within the budget. -/
theorem Shelf.Sound.setHolding {x : Shelf} (hx : x.Sound) {n : Station} {u : Nat}
    (hu : sumOf (x.holdings.set n u) ≤ x.budget) :
    Shelf.Sound { x with holdings := x.holdings.set n u, waiters := x.waiters.filter fun w => w.station != n } := by
  refine ⟨hu, hx.filterWaiters _, fun w hw => ?_⟩
  obtain ⟨hm, hn⟩ := List.mem_filter.mp hw
  rw [getElem_set_of_ne _ _ (by simpa using hn)]
  exact hx.2.2 w hm

theorem Shelf.Sound.lowerHolding {x : Shelf} (hx : x.Sound) {n : Station} {u : Nat} (hu : u ≤ x.holdings[n]) :
    sumOf (x.holdings.set n u) ≤ x.budget := (sumOf_set_le _ _ hu).trans hx.1

theorem Shelf.Sound.decide {x : Shelf} (hx : x.Sound) (n : Station) (u : Nat) : (x.decide n u).2.Sound := by
  unfold Shelf.decide
  split
  · exact hx
  rename_i h0
  have h0 : x.holdings[n] = 0 := by simpa using h0
  split
  · exact hx
  split
  · rename_i ha
    refine hx.setHolding ?_
    have := sumOf_set x.holdings n u
    have := admits_sum ha
    omega
  split
  · refine ⟨hx.1, ?_, fun w hw => ?_⟩
    · have : (x.waiters.map fun w => if w.station = n then { w with units := u } else w).map (·.station)
          = x.waiters.map (·.station) := by
        rw [List.map_map]
        refine List.map_congr_left fun w _ => ?_
        simp only [Function.comp]
        split <;> rfl
      rw [this]
      exact hx.2.1
    · obtain ⟨v, hv, rfl⟩ := List.mem_map.mp hw
      split <;> exact hx.2.2 v hv
  · rename_i hw
    have hnot : ∀ v ∈ x.waiters, v.station ≠ n := by simpa [Shelf.waits] using hw
    refine ⟨hx.1, ?_, fun w hw => ?_⟩
    · rw [List.map_append, List.nodup_append]
      refine ⟨hx.2.1, by simp, ?_⟩
      simpa using hnot
    · rcases List.mem_append.mp hw with hw | hw
      · exact hx.2.2 w hw
      · rw [List.mem_singleton.mp hw]
        exact h0

theorem Shelf.Sound.release {x : Shelf} (hx : x.Sound) (n : Station) (u : Nat) (w : Bool) : (x.release n u w).Sound := by
  have hlow : ∀ v ∈ x.waiters, (x.holdings.set n (x.holdings[n] - u))[v.station] = 0 := by
    intro v hv
    by_cases hn : v.station = n
    · have := hx.2.2 v hv
      rw [← hn]
      simp [this]
    · rw [getElem_set_of_ne _ _ hn]
      exact hx.2.2 v hv
  refine ⟨hx.lowerHolding (Nat.sub_le _ _), ?_, ?_⟩
  · unfold Shelf.release
    dsimp only
    split
    · exact hx.filterWaiters _
    · exact hx.2.1
  · intro v hv
    refine hlow v ?_
    unfold Shelf.release at hv
    dsimp only at hv
    split at hv
    · exact List.mem_of_mem_filter hv
    · exact hv

theorem Shelf.Sound.clearStation {x : Shelf} (hx : x.Sound) (n : Station) : (x.clearStation n).Sound :=
  hx.setHolding (hx.lowerHolding (Nat.zero_le _))

theorem Shelf.sound_censusStart (x : Shelf) (b : Nat) : (x.censusStart b).Sound := by
  refine ⟨?_, by simp [Shelf.censusStart], by simp [Shelf.censusStart]⟩
  simp [Shelf.censusStart, sumOf]

/-- R54: what makes a TABLE well-formed makes its tables sound. -/
structure TableBody.Sound (t : TableBody) : Prop where
  sum : sumOf t.holdings ≤ t.budget
  distinct : (t.waiters.map (·.station)).Nodup
  free : ∀ w ∈ t.waiters, t.holdings[w.station] = 0

theorem nodup_of_distinctWaiters : ∀ {ws : List Waiter}, distinctWaiters ws = true → (ws.map (·.station)).Nodup
  | [], _ => by simp
  | w :: ws, h => by
    simp only [distinctWaiters, Bool.and_eq_true, List.all_eq_true, bne_iff_ne, ne_eq] at h
    rw [List.map_cons, List.nodup_cons]
    refine ⟨fun hm => ?_, nodup_of_distinctWaiters h.2⟩
    obtain ⟨v, hv, he⟩ := List.mem_map.mp hm
    exact h.1 v hv he

theorem parseTable_sound {o : Station} {p : List Byte} {t : TableBody} (h : parseTable o p = some t) : t.Sound := by
  unfold parseTable at h
  dsimp only at h
  split at h
  · split at h
    · rename_i hc
      simp only [Bool.and_eq_true, decide_eq_true_eq, List.all_eq_true, beq_iff_eq] at hc
      obtain ⟨⟨⟨_, hd⟩, hf⟩, hs⟩ := hc
      cases h
      exact ⟨hs, nodup_of_distinctWaiters hd, hf⟩
    · cases h
  · cases h

theorem Shelf.sound_adopt (x : Shelf) {t : TableBody} (ht : t.Sound) (self : Station) (own : Nat) :
    (x.adopt t self own).Sound := ⟨ht.sum, ht.distinct, ht.free⟩

/-- An update that makes sound tables of sound ones. -/
theorem keeps_shelf {f : Shelf → Shelf} (h : s.shelf.Sound → (f s.shelf).Sound) : Keeps s (s.onShelf f) where
  shelf := h

end

/-! What the budget unit, the mirror unit and the ends of queue entries keep. -/

section
variable {s u v : State}

theorem Keeps.ifThen {c : Prop} [Decidable c] (h : Keeps s u) : Keeps s (if c then u else s) := by
  split
  · exact h
  · exact .refl s

theorem Keeps.ite {c : Prop} [Decidable c] (h : c → Keeps s u) (g : ¬c → Keeps s v) : Keeps s (if c then u else v) := by
  split
  · exact h ‹_›
  · exact g ‹_›

/-! ## The budget unit -/

theorem keeps_budgetReady {m : OutMsg} (h : m.fits .budget = true) (s : State) : Keeps s (budgetReady m s) where
  slots := slots_of_lists (hc := fun x hx => (List.mem_append.mp hx).imp id fun hx => by
    rw [List.mem_singleton.mp hx]; exact h)

theorem keeps_claimOut (f : List OutMsg → List OutMsg) (hf : ∀ l, ∀ m ∈ f l, m ∈ l) (s : State) :
    Keeps s (s.onClaim fun c => { c with out := f c.out }) where
  slots := slots_of_lists (hc := fun m hm => .inl (hf _ m hm))

theorem keeps_budgetRetract (p : OutMsg → Bool) (s : State) : Keeps s (budgetRetract p s).2 := by
  unfold budgetRetract
  split
  · exact keeps_claimOut _ (fun _ _ hm => List.mem_of_mem_filter hm) s
  · exact keeps_withdraw _ _ s

theorem keeps_placeBudget (s : State) : Keeps s (placeBudget s) := by
  unfold placeBudget
  split
  · rename_i m rest hs hout
    have hput : Keeps s (s.putSlot .budget (some m)) := keeps_fillSlot hs fun h x hx => by
      cases hx
      exact h.2.1 _ (by rw [hout]; exact List.mem_cons_self)
    exact hput.trans { slots := slots_of_lists (hc := fun x hx => .inl (by
      rw [putSlot_claim, hout]
      exact List.mem_cons_of_mem m hx)) }
  · exact .refl s

theorem keeps_releaseAll (s : State) : Keeps s (releaseAll s) := (keeps_budgetReady rfl s).trans {}

theorem keeps_releasePlace (s : State) : Keeps s (releasePlace s) := (keeps_budgetReady rfl s).trans {}

theorem keeps_claimRemoved (s : State) : Keeps s (claimRemoved s) := by
  unfold claimRemoved
  refine .ifThen (Keeps.trans (u := s.onClaim fun c => { c with giveUp := false }) {} ?_)
  exact .ite (fun _ => keeps_releasePlace _) fun _ => {}

theorem keeps_settleRemoved (s : State) : Keeps s (settleRemoved s) :=
  .ifThen (.trans (u := s.onClaim fun c => { c with fullWanted := false }) {} (keeps_releaseAll _))

theorem keeps_giveUpClaim (s : State) : Keeps s (giveUpClaim s) := by
  unfold giveUpClaim
  split
  case h_1 =>
    have hr : Keeps s (budgetRetract isClaim (s.onClaim fun c => { c with giveUp := true })).2 :=
      .trans {} (keeps_budgetRetract _ _)
    exact .ite (fun _ => hr.trans (keeps_claimRemoved _)) fun _ => hr
  case h_2 => exact keeps_releasePlace s
  all_goals exact .refl s

theorem keeps_powerRemoved (s : State) : Keeps s (powerRemoved s) := by
  have hr : Keeps s (budgetRetract isSettle (s.onClaim fun c => { c with fullWanted := true })).2 :=
    .trans {} (keeps_budgetRetract _ _)
  have h : Keeps s (if s.budgetPending isSettle then
      let r := budgetRetract isSettle (s.onClaim fun c => { c with fullWanted := true })
      if r.1 then settleRemoved r.2 else r.2 else releaseAll s) :=
    .ite (fun _ => .ite (fun _ => hr.trans (keeps_settleRemoved _)) fun _ => hr) fun _ => keeps_releaseAll s
  unfold powerRemoved
  split
  case h_1 => exact h
  case h_2 => exact h
  all_goals exact .refl s

theorem keeps_settleHolding (s : State) : Keeps s (settleHolding s) :=
  .ifThen (.ite (fun _ => keeps_budgetReady rfl s) fun _ => {})

theorem keeps_clearStation (n : Station) (s : State) : Keeps s (s.onShelf fun x => x.clearStation n) :=
  keeps_shelf fun h => h.clearStation n

theorem keeps_expelBudget (s : State) : Keeps s (expelBudget s) :=
  .trans (u := setClaim .none ((s.onShelf fun x => x.clearStation s.station).onClaim
      fun c => { c with giveUp := false, fullWanted := false }))
    ((keeps_clearStation s.station s).trans {}) (keeps_budgetRetract _ _)

theorem keeps_testClaim (s : State) : Keeps s (testClaim s) :=
  .ifThen (.trans (u := s.onClaim fun c => { c with giveUp := false }) {} ((keeps_budgetReady rfl _).trans {}))

theorem keeps_releaseStray (s : State) : Keeps s (releaseStray s) :=
  .ifThen (.ite (fun _ => keeps_releaseAll s) fun _ => .ifThen (keeps_releasePlace s))

theorem keeps_settleBudget (s : State) : Keeps s (settleBudget s) := by
  unfold settleBudget
  exact (keeps_releaseStray s).trans ((Keeps.ifThen (keeps_giveUpClaim _)).trans
    ((keeps_testClaim _).trans (keeps_placeBudget _)))

/-- R59, R61: the own place in the list given up where the claim is not wanted. -/
theorem Keeps.orReleasePlace {t : State} (h : Keeps s t) (c : Bool) : Keeps s (if c then releasePlace t else t) :=
  .ite (fun _ => h.trans (keeps_releasePlace t)) fun _ => h

theorem keeps_ownClaimDecided (n : Nat) (s : State) : Keeps s (ownClaimDecided n s).2 := by
  have hd : Keeps s (s.onShelf fun _ => (s.shelf.decide s.station n).2) := keeps_shelf fun h => h.decide s.station n
  unfold ownClaimDecided
  dsimp only
  split
  · exact hd.trans {}
  · exact hd.trans (Keeps.orReleasePlace {} _)
  · exact hd.trans {}

theorem keeps_ownClaimFailed (s : State) : Keeps s (ownClaimFailed s) :=
  .ifThen (Keeps.orReleasePlace {} _)

theorem keeps_ownReleaseOutcome (why : ReleaseWhy) (c : Bool) (s : State) : Keeps s (ownReleaseOutcome why c s) := by
  unfold ownReleaseOutcome
  cases why with
  | settle =>
    exact .ite (fun _ => .trans (u := s.onClaim fun c => { c with fullWanted := false }) {} (keeps_releaseAll _))
      fun _ => .ifThen (.ite (fun _ => {}) fun _ => keeps_budgetReady rfl s)
  | full => exact .ifThen (.ite (fun _ => {}) fun _ => keeps_releaseAll s)
  | giveUp => exact .ifThen (.ite (fun _ => {}) fun _ => keeps_releasePlace s)

theorem keeps_readyQuery (s : State) : Keeps s (readyQuery s) := .ite (fun _ => .refl s) fun _ => keeps_budgetReady rfl s

theorem keeps_readyTable (q : Station) (s : State) : Keeps s (readyTable q s) :=
  .ite (fun _ => .refl s) fun _ => keeps_budgetReady rfl s

theorem keeps_censusStart (s : State) : Keeps s (censusStart s) :=
  .trans (u := s.onShelf fun x => x.censusStart (match s.settings with | some c => c.budget | none => 0))
    (keeps_shelf fun _ => Shelf.sound_censusStart _ _) (.trans {} (keeps_readyQuery _))

theorem keeps_adoptTable {t : TableBody} (ht : t.Sound) (s : State) : Keeps s (adoptTable t s) :=
  .trans (u := s.onShelf fun x => x.adopt t s.station (match s.settings with | some c => c.budget | none => 0))
    (keeps_shelf fun _ => Shelf.sound_adopt _ ht _ _) (.trans {} (keeps_budgetRetract _ _))

theorem keeps_sleepBudget (s : State) : Keeps s (sleepBudget s) where
  slots := slots_of_lists (hc := fun _ hm => by cases hm)

end

/-! What the mirror unit, the ends of queue entries and the resync engine keep. -/

section
variable {s u v : State}

/-! ## Entries and pages -/

/-- The queue loses entries and changes them in place, and pages are given back. -/
theorem queue_of_sub (hk : (u.request.queue.map (·.key)).Sublist (s.request.queue.map (·.key)))
    (hp : u.ownedPages.Subperm s.ownedPages) : QueueSound s ∧ PagesSound s → QueueSound u ∧ PagesSound u := by
  rintro ⟨⟨hl, hn⟩, hnp, hb⟩
  have hlen := hk.length_le
  simp only [List.length_map] at hlen
  obtain ⟨l, hperm, hsub⟩ := hp
  exact ⟨⟨hlen.trans hl, hn.sublist hk⟩, (hperm.nodup_iff).mp (hnp.sublist hsub),
    fun p hp => hb p (hsub.subset ((hperm.mem_iff).mpr hp))⟩

theorem ownedPages_eq (s : State) :
    s.ownedPages = s.request.queue.flatMap (·.pages) ++ s.engine.pages ++ s.engine.orphans := by
  unfold State.ownedPages ResyncEngine.pages
  rfl

/-- Entries changed in place keep their names and pages. -/
theorem keeps_onEntry (k : Key) (f : Entry → Entry) (s : State) (hk : ∀ e, (f e).key = e.key := by intro _; rfl)
    (hp : ∀ e, (f e).pages = e.pages := by intro _; rfl) : Keeps s (s.onEntry k f) where
  queue := queue_of_sub
    (by
      have : (s.onEntry k f).request.queue.map (·.key) = s.request.queue.map (·.key) := by
        simp only [State.onEntry, State.onRequest, List.map_map]
        refine List.map_congr_left fun e _ => ?_
        simp only [Function.comp]
        split
        · exact hk e
        · rfl
      rw [this])
    (by
      have : (s.onEntry k f).ownedPages = s.ownedPages := by
        rw [ownedPages_eq, ownedPages_eq]
        simp only [State.onEntry, State.onRequest, List.flatMap_map]
        congr 2
        refine List.flatMap_congr fun e _ => ?_
        split
        · exact hp e
        · rfl
      rw [this])

/-- Entries leave the queue. -/
theorem keeps_filterQueue (p : Entry → Bool) (s : State) :
    Keeps s (s.onRequest fun r => { r with queue := r.queue.filter p }) where
  queue := queue_of_sub (List.filter_sublist.map _) (by
    rw [ownedPages_eq, ownedPages_eq]
    refine List.Sublist.subperm ?_
    refine (List.Sublist.append ?_ (.refl _)).append (.refl _)
    exact List.filter_sublist.flatMap _)

/-- The engine gives pages back. -/
theorem keeps_onEngine (f : ResyncEngine → ResyncEngine) (s : State)
    (hc : (f s.engine).redoCount = s.engine.redoCount := by rfl)
    (hp : ((f s.engine).pages ++ (f s.engine).orphans).Subperm (s.engine.pages ++ s.engine.orphans) := by exact .refl _) :
    Keeps s (s.onEngine f) where
  counters h := by
    rw [countersBounded_iff] at h ⊢
    simpa [hc] using h
  queue := queue_of_sub (.refl _) (by
    rw [ownedPages_eq, ownedPages_eq, List.append_assoc, List.append_assoc]
    exact (List.subperm_append_left _).mpr hp)

/-! ## Marks, flags and the mirror unit's list -/

theorem keeps_markRegions (m : BitVec 256) (s : State) : Keeps s (markRegions m s) :=
  .ifThen (.trans (u := s.onMirror fun x => { x with
      dirty := x.dirty ||| m
      calls :=
        if (s.mirror.dirty ||| m ≠ s.mirror.dirty) ∧ x.cond = .closed then { x.calls with mark := true } else x.calls })
    {} (keeps_onEngine _ _))

theorem keeps_markExtent (x : Extent) (s : State) : Keeps s (markExtent x s) := keeps_markRegions _ s

theorem keeps_markAll (s : State) : Keeps s (markAll s) := keeps_markRegions _ s

theorem keeps_setBehind (s : State) : Keeps s (setBehind s) := .ifThen {}

theorem keeps_mirrorReady {m : OutMsg} (h : m.fits .mirror = true) (s : State) : Keeps s (mirrorReady m s) where
  slots := slots_of_lists (hm := fun x hx => (List.mem_append.mp hx).imp id fun hx => by
    rw [List.mem_singleton.mp hx]; exact h)

theorem keeps_readWake (s : State) : Keeps s (readWake s) := by
  unfold readWake
  split
  · exact .ifThen (.trans (u := s.onMirror fun x => { x with readWake := true }) {} (keeps_mirrorReady rfl _))
  · exact .refl s

/-! ## Ends of entries -/

theorem keeps_endEntry (k : Key) (st : Status) (s : State) : Keeps s (endEntry k st s) := by
  unfold endEntry
  split
  · exact .refl s
  rename_i e _
  refine Keeps.trans ?_ (.ifThen (keeps_readWake _))
  have hend := (keeps_onEntry k (fun e => { e with state := .ending, status := some st, send := none }) s).trans
    (u := s.onEntry k fun e => { e with state := .ending, status := some st, send := none })
    (v := (s.onEntry k fun e => { e with state := .ending, status := some st, send := none }).onRequest
      fun r => { r with out := r.out ++ [.entryDone k] }) {}
  refine (hend.trans (.ifThen (c := _) ?dropped)).trans (.ifThen ?marked)
  case dropped => exact {}
  case marked =>
    cases e.extent with
    | some x => exact keeps_markExtent x _
    | none => exact .refl _

theorem keeps_endReplica (k : Key) (miss : Bool) (s : State) : Keeps s (endReplica k miss s) := by
  unfold endReplica
  split
  · exact (keeps_onEntry k (fun e => { e with state := .ending }) s).trans (.ite
      (fun _ => (keeps_mirrorReady rfl _).trans (keeps_setBehind _)) fun _ => keeps_mirrorReady rfl _)
  · exact .refl s

theorem keeps_endWork (st : Status) (s : State) (e : Entry) : Keeps s (endWork st s e) :=
  .ite (fun _ => keeps_endReplica _ _ s) fun _ => keeps_endEntry _ _ s

theorem keeps_faultEntries (s : State) : Keeps s (faultEntries s) := keeps_foldl (keeps_endWork _) _ s

theorem keeps_ageSweep (s : State) : Keeps s (ageSweep s) := keeps_foldl (keeps_endWork _) _ s

theorem keeps_rangeSweep (s : State) : Keeps s (rangeSweep s) := keeps_foldl (keeps_endWork _) _ s

theorem keeps_endWaits (st : Status) (mark : Bool) (s : State) : Keeps s (endWaits st mark s) := by
  refine keeps_foldl (fun s e => ?_) _ s
  refine Keeps.trans (.ifThen ?_) (keeps_endEntry _ _ _)
  split
  · exact keeps_markExtent _ s
  · exact .refl s

theorem keeps_callForQueued (s : State) : Keeps s (callForQueued s) := .ifThen {}

theorem keeps_callForMissed (d : BitVec 256) (s : State) : Keeps s (callForMissed d s) := .ifThen {}

theorem keeps_enterQueued (k : Key) (s : State) : Keeps s (enterQueued k s) :=
  (keeps_onEntry k (fun e => { e with state := .queued, queued := some s.tick }) s).trans (keeps_callForQueued _)

theorem keeps_orderMirror (before : List OutMsg) (s : State) : Keeps s (orderMirror before s) where
  slots := slots_of_lists (hm := fun m hm => .inl ((mem_orderMirror before s m).mp hm))

theorem keeps_placeMirror (s : State) : Keeps s (placeMirror s) := by
  unfold placeMirror
  split
  · rename_i m rest hs hout
    have hput : Keeps s (s.putSlot .mirror (some m)) := keeps_fillSlot hs fun h x hx => by
      cases hx
      exact h.2.2.2 _ (by rw [hout]; exact List.mem_cons_self)
    have hdrop : Keeps s ((s.onMirror fun x => { x with out := rest }).putSlot .mirror (some m)) :=
      hput.trans { slots := slots_of_lists (hm := fun x hx => .inl (by
        rw [putSlot_mirror, hout]
        exact List.mem_cons_of_mem m hx)) }
    dsimp only
    split
    · exact hdrop.trans (keeps_filterQueue _ _)
    · exact hdrop
  · exact .refl s

theorem keeps_readyNotedMiss (k : Key) (x : Extent) (s : State) : Keeps s (readyNotedMiss k x s) := by
  unfold readyNotedMiss
  split
  · exact (Keeps.ifThen (keeps_mirrorReady rfl s)).trans (keeps_setBehind _)
  · exact .refl s

/-! ## The resync engine -/

theorem keeps_mirrorOut (f : List OutMsg → List OutMsg) (hf : ∀ l, ∀ m ∈ f l, m ∈ l) (s : State) :
    Keeps s (s.onMirror fun x => { x with out := f x.out }) where
  slots := slots_of_lists (hm := fun m hm => .inl (hf _ m hm))

theorem keeps_withdrawEngine (s : State) : Keeps s (withdrawEngine s) :=
  ((keeps_mirrorOut (·.filter fun m => !isEngineMirror m) (fun _ _ hm => List.mem_of_mem_filter hm) s).trans
    (keeps_withdraw _ _ _)).trans (keeps_withdraw _ _ _)

theorem keeps_stopResync (hold : Bool) (s : State) : Keeps s (stopResync hold s) := by
  have hhalt : ∀ (t : State) (reading : Bool) (h : Option Tick), Keeps t (t.onEngine fun e => e.halt reading h) := by
    intro t reading h
    refine keeps_onEngine (fun e => e.halt reading h) t rfl ?_
    cases reading with
    | false => exact (List.sublist_append_right _ _).subperm
    | true => exact (List.perm_append_comm (l₁ := t.engine.orphans) (l₂ := t.engine.pages)).subperm
  unfold stopResync
  refine .ite (fun _ => .refl s) fun _ => ?_
  have hstop : Keeps s ((withdrawEngine s).onEngine fun e =>
      e.halt s.chunkReading (if hold then some (tickAfter s.tick Config.resyncHoldOffTicks) else e.holdOff)) :=
    (keeps_withdrawEngine s).trans (hhalt _ _ (if hold then some (tickAfter s.tick Config.resyncHoldOffTicks)
      else (withdrawEngine s).engine.holdOff))
  exact .ite (fun _ => hstop.trans {}) fun _ => hstop

theorem engine_pages_none {e : ResyncEngine} (h : e.chunk = none) : e.pages = [] := by
  simp [ResyncEngine.pages, h]

theorem engine_pages_some {e : ResyncEngine} {c : Chunk} (h : e.chunk = some c) : e.pages = c.pages := by
  simp [ResyncEngine.pages, h]

/-- The engine gives up its chunk's pages. -/
theorem keeps_dropChunk (f : ResyncEngine → ResyncEngine) (s : State) (hf : (f s.engine).pages = [])
    (hc : (f s.engine).redoCount = s.engine.redoCount := by rfl)
    (ho : (f s.engine).orphans = s.engine.orphans := by rfl) : Keeps s (s.onEngine f) :=
  keeps_onEngine f s hc (by
    rw [hf, ho]
    exact (List.sublist_append_right _ _).subperm)

theorem keeps_nextRegion (s : State) : Keeps s (nextRegion s) := by
  unfold nextRegion
  dsimp only
  split
  · exact .trans {} (keeps_dropChunk _ _ rfl)
  · have hend : Keeps s ((s.onMirror fun x => { x with
        dirty := x.dirty &&& ~~~ (emptyRegions x.regionSize s.drive.usable.toNat) }).onEngine fun e =>
          { e with state := .ending, region := none, chunk := none, redo := false }) :=
      .trans {} (keeps_dropChunk _ _ rfl)
    split
    · exact hend.trans (keeps_mirrorReady rfl _)
    · exact hend

theorem keeps_countRedo (s : State) : Keeps s (s.onEngine fun e => { e with redoCount := satInc e.redoCount }) where
  counters h := by
    rw [countersBounded_iff] at h ⊢
    simp only [onEngine_bus, onEngine_supply, onEngine_engine, onEngine_announce, onEngine_request, onEngine_mirror]
    exact ⟨h.1, h.2.1, h.2.2.1, h.2.2.2.1, h.2.2.2.2.1, satInc_le h.2.2.2.2.2.1, h.2.2.2.2.2.2⟩

theorem keeps_chunkDone (s : State) : Keeps s (chunkDone s) := by
  unfold chunkDone
  split
  · refine .ite (fun _ => keeps_dropChunk _ s rfl) fun _ => ?_
    refine Keeps.trans ?_ (keeps_nextRegion _)
    refine Keeps.trans (.ite (fun _ => keeps_countRedo s) fun _ => {}) (keeps_dropChunk _ _ rfl)
  · exact .refl s

theorem keeps_startResync (s : State) : Keeps s (startResync s) := by
  unfold startResync
  split
  · exact .ifThen ((keeps_onEngine _ s).trans (keeps_mirrorReady rfl _))
  · exact .refl s

theorem nodup_freePages (s : State) : s.freePages.Nodup := List.nodup_range.sublist List.filter_sublist

theorem mem_freePages {p : Page} : p ∈ s.freePages ↔ p < 256 ∧ p ∉ s.ownedPages := by
  simp [State.freePages, Config.pages]

/-- Free pages found an owner. -/
theorem pages_of_taken {l : List Page} {n : Nat} (hp : u.ownedPages.Subperm (l ++ s.freePages.take n))
    (hl : l.Subperm s.ownedPages) (h : PagesSound s) : PagesSound u := by
  obtain ⟨hn, hb⟩ := h
  have hln : l.Nodup := by
    obtain ⟨l', hperm, hsub⟩ := hl
    exact (hperm.nodup_iff).mp (hn.sublist hsub)
  have hall : (l ++ s.freePages.take n).Nodup := by
    rw [List.nodup_append]
    refine ⟨hln, (nodup_freePages s).sublist (List.take_sublist _ _), ?_⟩
    rintro a ha b hb' rfl
    exact (mem_freePages.mp (List.mem_of_mem_take hb')).2 (hl.subset ha)
  obtain ⟨l', hperm, hsub⟩ := hp
  refine ⟨(hperm.nodup_iff).mp (hall.sublist hsub), fun p hp => ?_⟩
  rcases List.mem_append.mp (hsub.subset ((hperm.mem_iff).mpr hp)) with h | h
  · exact hb p (hl.subset h)
  · exact (mem_freePages.mp (List.mem_of_mem_take h)).1

theorem keeps_takePages (s : State) : Keeps s (takePages s) := by
  unfold takePages
  split
  · refine .ifThen ?_
    rename_i c hc
    have htake : Keeps s (s.onEngine fun e =>
        { e with chunk := some { c with step := .read, pages := s.freePages.take c.count } }) :=
      { queue := fun ⟨hq, hp⟩ => ⟨hq, pages_of_taken (l := s.request.queue.flatMap (·.pages) ++ s.engine.orphans)
          (n := c.count) (by
            rw [ownedPages_eq, List.append_assoc, List.append_assoc]
            exact (List.subperm_append_left _).mpr List.perm_append_comm.subperm) (by
            rw [ownedPages_eq, List.append_assoc]
            exact ((List.Sublist.refl _).append (List.sublist_append_right _ _)).subperm) hp⟩ }
    exact htake.trans (.ite (fun _ => .refl _) fun _ => {})
  · exact .refl s

theorem keeps_placeResync (s : State) : Keeps s (placeResync s) := by
  unfold placeResync
  split
  · rename_i hs _ _
    refine .ifThen (Keeps.trans (keeps_onEngine (fun e => { e with ready := false }) s) ?_)
    split
    · exact keeps_fillSlot (by exact hs) fun _ x hx => by cases hx; rfl
    · exact keeps_fillSlot (by exact hs) fun _ x hx => by cases hx; rfl
  · exact .refl s

theorem keeps_engineDone (st : Status) (s : State) : Keeps s (engineDone st s) := by
  have hd : Keeps s (s.onEngine fun e => { e with replyWait := none, outstanding := none }) := keeps_onEngine _ s
  unfold engineDone
  refine .ite (fun _ => hd.trans (keeps_stopResync _ _)) fun _ => ?_
  split
  case h_1 => exact hd.trans (keeps_nextRegion _)
  case h_2 => exact hd.trans (keeps_chunkDone _)
  all_goals exact hd

theorem keeps_resyncBeginOutcome (tag : Tag) (o : SendOutcome) (s : State) : Keeps s (resyncBeginOutcome tag o s) := by
  cases o with
  | taken => exact keeps_onEngine (fun e => { e with
      state := .beginWait, outstanding := some tag, replyWait := some s.tick }) s
  | busy => exact keeps_onEngine (fun e => { e with retry := some s.tick }) s
  | spoiled =>
    unfold resyncBeginOutcome
    dsimp only
    split
    · exact keeps_mirrorReady rfl s
    · exact .refl s
  | unanswered => exact keeps_stopResync _ s
  | inForce _ => exact .refl s
  | objected _ => exact .refl s

theorem keeps_resyncEndOutcome (rejoin : Bool) (o : SendOutcome) (s : State) :
    Keeps s (resyncEndOutcome rejoin o s) := by
  cases o with
  | taken => exact .ite (fun _ => .refl s) fun _ => (keeps_onEngine (fun e => { e with state := .idle }) s).trans {}
  | busy => exact .ite (fun _ => {}) fun _ => keeps_onEngine _ s
  | spoiled =>
    unfold resyncEndOutcome
    dsimp only
    split
    · exact keeps_mirrorReady rfl s
    · exact .refl s
  | unanswered => exact .ite (fun _ => .refl s) fun _ => keeps_onEngine _ s
  | inForce _ => exact .refl s
  | objected _ => exact .refl s

/-- The chunk in hand changed but for its pages. -/
theorem keeps_onChunk {c : Chunk} (hc : s.engine.chunk = some c) (f : ResyncEngine → ResyncEngine)
    (hp : (f s.engine).pages = c.pages := by rfl) (hn : (f s.engine).redoCount = s.engine.redoCount := by rfl)
    (ho : (f s.engine).orphans = s.engine.orphans := by rfl) : Keeps s (s.onEngine f) :=
  keeps_onEngine f s hn (by rw [hp, ho, engine_pages_some hc])

theorem keeps_resyncSlotOutcome (piece : Option Nat) (o : SendOutcome) (s : State) :
    Keeps s (resyncSlotOutcome piece o s) := by
  unfold resyncSlotOutcome
  split
  · exact .refl s
  rename_i c hc
  cases o with
  | taken =>
    cases piece with
    | none => exact keeps_onChunk hc _
    | some i => exact .ite (fun _ => keeps_onChunk hc _) fun _ => keeps_onChunk hc _
  | busy => exact keeps_onEngine _ s
  | spoiled => exact keeps_onEngine _ s
  | unanswered => exact keeps_stopResync _ s
  | inForce _ => exact .refl s
  | objected _ => exact .refl s

theorem keeps_retryResync (s : State) : Keeps s (retryResync s) := by
  have hr : Keeps s (s.onEngine fun e => { e with retry := none }) := keeps_onEngine _ s
  unfold retryResync
  refine .ifThen ?_
  dsimp only
  split
  · exact hr.trans (keeps_mirrorReady rfl _)
  · exact hr.trans (keeps_mirrorReady rfl _)
  · exact hr.trans (keeps_onEngine _ _)
  · exact hr

theorem keeps_retryRejoin (s : State) : Keeps s (retryRejoin s) := by
  unfold retryRejoin
  refine .ifThen ?_
  dsimp only
  split
  · exact .ite (fun _ => {}) fun _ => .trans {} (keeps_mirrorReady rfl _)
  · exact {}

/-! ## Roles and the link -/

theorem keeps_changeRole (role : Role) (epoch : Nat) (dirty : BitVec 256) (behind : Bool) (s : State) :
    Keeps s (changeRole role epoch dirty behind s) := by
  unfold changeRole
  refine Keeps.trans
    (u := if s.mirror.role = .primary ∧ role ≠ .primary then endWaits .role false (stopResync false s) else s)
    (.ifThen ((keeps_stopResync _ s).trans (keeps_endWaits _ _ _))) ?_
  exact .ite (c := dirty = 0) (fun _ => {}) fun _ => .trans {} (keeps_markRegions _ _)

theorem keeps_roleTest (role : Role) (f : Nat) (s : State) : Keeps s (roleTest role f s) := by
  unfold roleTest
  split
  · exact .refl s
  refine .ite (fun _ => .refl s) fun _ => ?_
  dsimp only
  (repeat' split) <;> first
    | exact .refl s
    | exact keeps_markAll s
    | exact keeps_changeRole _ _ _ _ s

theorem keeps_noteBehind (behind : Bool) (s : State) : Keeps s (noteBehind behind s) := by
  unfold noteBehind
  refine Keeps.trans (Keeps.ifThen (c := (behind && !s.mirror.partnerBehind && s.mirror.role == .primary) = true) ?_) {}
  refine Keeps.trans (keeps_foldl (fun s e => ?_) _ s) (keeps_endWaits _ _ _)
  split
  · exact keeps_markExtent _ s
  · exact .refl s

theorem keeps_rejoinTest (role : Role) (epoch : Nat) (behind : Bool) (s : State) :
    Keeps s (rejoinTest role epoch behind s) := by
  unfold rejoinTest
  split
  · exact .ifThen (keeps_mirrorReady rfl s)
  · exact .refl s

theorem keeps_resyncWakeTest (s : State) : Keeps s (resyncWakeTest s) := by
  unfold resyncWakeTest
  split
  · exact .ifThen (keeps_mirrorReady rfl s)
  · exact .refl s

theorem keeps_linkLeft (old new : Link) (s : State) : Keeps s (linkLeft old new s) := by
  unfold linkLeft
  refine Keeps.trans (Keeps.trans (.ifThen ?_) (.ifThen (keeps_endWaits _ _ _))) (.ifThen (keeps_stopResync _ _))
  exact (keeps_setBehind s).trans (keeps_foldl (fun s e => keeps_endReplica _ _ s) _ _)

theorem keeps_judgeLink (s : State) : Keeps s (judgeLink s) :=
  .ite (fun _ => .refl s) fun _ => .trans (u := s.onMirror fun x => { x with link := s.linkNow }) {} (keeps_linkLeft _ _ _)

theorem keeps_sleepMirror (s : State) : Keeps s (sleepMirror s) :=
  ((keeps_stopResync false s).trans (keeps_onEngine (fun e => { e with holdOff := none }) _)).trans
    { slots := slots_of_lists (hm := fun _ hm => by cases hm) }

end

/-! What the drive port, the request unit, the watch unit and the tests after an event keep. -/

section
variable {s u v : State}

/-! ## The drive port -/

theorem keeps_applyPower (s : State) : Keeps s (applyPower s) where
  power _ := ⟨rfl, rfl⟩

theorem keeps_admission (s : State) : Keeps s (admission s) := by
  unfold admission
  split
  case h_1 => exact .ite (fun _ => .refl s) fun _ => .ite (fun _ => keeps_applyPower s) fun _ => {}
  case h_2 => exact keeps_releaseAll s
  all_goals exact .refl s

theorem keeps_giveUpDeferral (low : Bool) (s : State) : Keeps s (giveUpDeferral low s) :=
  .trans (.trans (u := s.onDrive fun d => { d with deferral := none, offSince := s.tick }) {} (keeps_powerRemoved _))
    (.ifThen {})

theorem keeps_freeOrphans (s : State) : Keeps s (s.onEngine fun e => { e with orphans := [] }) :=
  keeps_onEngine (fun e => { e with orphans := [] }) s rfl ((List.Sublist.refl _).append (List.nil_sublist _)).subperm

theorem keeps_endFlightByFault (s : State) : Keeps s (endFlightByFault s) := by
  unfold endFlightByFault
  split
  · exact .refl s
  have hfree : Keeps s (freeLane s) := {}
  dsimp only
  split
  case h_7 => exact hfree.trans (keeps_freeOrphans _)
  all_goals exact hfree.trans {}

theorem keeps_enterFault (cause : FaultCause) (s : State) : Keeps s (enterFault cause s) := by
  unfold enterFault
  refine .ite (fun _ => .refl s) fun _ => ?_
  refine Keeps.trans ?_ (keeps_powerRemoved _)
  refine Keeps.trans ?_ (keeps_stopResync _ _)
  refine Keeps.trans ?_ (keeps_faultEntries _)
  refine Keeps.trans (keeps_endFlightByFault s) ?_
  refine Keeps.trans (u := disarm ((endFlightByFault s).onDrive fun d =>
      { d with state := .fault, cause := some cause, powered := false, deferral := none, readyWait := none, idle := none,
               need := false, hotStop := false })) ?_ {}
  exact { power := fun _ => ⟨rfl, rfl⟩ }

theorem keeps_sendRecordWrite (clean : Bool) (s : State) : Keeps s (sendRecordWrite clean s) := {}

theorem power_iff_ready (h : s.drive.state = .ready ∨ s.drive.state = .spinDown) :
    PowerFollowsState s ↔ s.drive.powered = true ∧ s.comp.level = some .run := by
  unfold PowerFollowsState
  rcases h with h | h <;> rw [h]

theorem keeps_enterSpinDown (h : s.drive.state = .ready) : Keeps s (enterSpinDown s) := by
  have hd : Keeps s (s.onDrive fun d => { d with state := .spinDown, idle := none }) :=
    { power := fun hp => (power_iff_ready (.inr rfl)).mpr ((power_iff_ready (.inl h)).mp hp) }
  have hm : Keeps s ((s.onDrive fun d => { d with state := .spinDown, idle := none }).onMirror
      fun x => { x with promotion := none }) := hd.trans {}
  have hs := (hm.trans (keeps_stopResync false _)).trans (keeps_ageSweep _)
  exact .ite (fun _ => hs.trans (keeps_sendRecordWrite _ _)) fun _ => hs.trans {}

theorem keeps_finishSpinDown (s : State) : Keeps s (finishSpinDown s) :=
  .trans (u := disarm (s.onDrive fun d =>
    { d with state := .off, powered := false, flight := none, offSince := s.tick, hotStop := false }))
    { power := fun _ => ⟨rfl, rfl⟩ } (keeps_powerRemoved _)

theorem keeps_enterReady (h : s.drive.state = .spinUp) : Keeps s (enterReady s) := by
  have ha : Keeps s (armAt .run (s.onDrive fun d => { d with state := .ready, readyWait := none })) :=
    { power := fun hp => by
        unfold PowerFollowsState at hp
        rw [h] at hp
        exact ⟨hp.1, rfl⟩ }
  exact (ha.trans (keeps_settleHolding _)).trans (keeps_rangeSweep _)

theorem keeps_sendRecordWork (s : State) : Keeps s (sendRecordWork s) :=
  .ite (fun _ => {}) fun _ => .ite (fun _ => keeps_sendRecordWrite _ s) fun _ => {}

theorem keeps_sendChunkRead (s : State) : Keeps s (sendChunkRead s) := by
  unfold sendChunkRead
  split
  · exact (keeps_onEngine (fun e => { e with readStarted := true }) s).trans {}
  · exact .refl s

theorem keeps_runChecks (s : State) : Keeps s (runChecks s) := by
  refine keeps_foldl (fun s k => ?_) _ s
  split
  · refine .ifThen ?_
    split
    · exact keeps_endEntry _ _ s
    · exact .refl s
  · exact .refl s

theorem keeps_runEntry (e : Entry) (s : State) : Keeps s (runEntry e s) :=
  (keeps_onEntry e.key (fun e => { e with state := .running }) s).trans {}

theorem keeps_chooseCommand (s : State) : Keeps s (chooseCommand s) := by
  unfold chooseCommand
  refine .ifThen (.ite (fun _ => keeps_sendRecordWork s) fun _ => .ite (fun _ => keeps_sendChunkRead s) fun _ => ?_)
  refine Keeps.trans (keeps_runChecks s) ?_
  dsimp only
  split
  · exact keeps_runEntry _ _
  · exact .ifThen (keeps_sendChunkRead _)

theorem keeps_hotAction (s : State) : Keeps s (hotAction s) :=
  .ite (fun _ => keeps_giveUpDeferral _ s) fun _ =>
    .ite (fun h => keeps_enterSpinDown h.2.1) fun _ => .ifThen {}

theorem keeps_stopIdle (s : State) : Keeps s (stopIdle s) := .ite (fun _ => .refl s) fun _ => {}

/-! ## The request unit -/

/-- The room that a request needs is there (R103). -/
theorem room_iff {k : Key} {n : Nat} : s.room k n = true ↔
    s.request.queue.length < 16 ∧ n ≤ s.freePages.length ∧ ∀ e ∈ s.request.queue, e.key ≠ k := by
  simp only [State.room, Bool.and_eq_true, Bool.not_eq_true', decide_eq_true_eq, List.any_eq_false, beq_iff_eq, and_assoc]
  exact Iff.rfl

/-- A new entry of a name not in the queue joins it, with free pages. -/
theorem keeps_enqueue {k : Key} {n : Nat} {e : Entry} (hr : s.room k n = true) (hk : e.key = k)
    (hp : ∃ m, e.pages = s.freePages.take m) : Keeps s (enqueue e s) where
  queue := by
    rintro ⟨⟨hl, hn⟩, hpages⟩
    obtain ⟨hlen, _, hkey⟩ := room_iff.mp hr
    obtain ⟨m, hm⟩ := hp
    refine ⟨⟨?_, ?_⟩, pages_of_taken (s := s) (l := s.ownedPages) (n := m) ?_ (.refl _) hpages⟩
    · simp only [enqueue, State.onRequest, List.length_append, List.length_singleton]
      omega
    · simp only [enqueue, State.onRequest, List.map_append, List.nodup_append]
      refine ⟨hn, by simp, ?_⟩
      simp only [List.mem_map, List.map_cons, List.map_nil, List.mem_singleton]
      rintro _ ⟨g, hg, rfl⟩ _ rfl
      rw [hk]
      exact hkey g hg
    · rw [ownedPages_eq, ownedPages_eq, ← hm]
      simp only [enqueue, State.onRequest, List.flatMap_append, List.flatMap_singleton, List.append_assoc]
      refine (List.subperm_append_left _).mpr ?_
      rw [← List.append_assoc]
      refine List.Perm.subperm ?_
      rw [List.append_assoc]
      exact List.perm_append_comm.trans (by rw [List.append_assoc])

theorem newEntry_pages (k : Key) (kind : EntryKind) (x : Option Extent) (fwd : Option Station) (s : State) :
    ∃ m, (newEntry k kind x fwd s).pages = s.freePages.take m := by
  cases x with
  | none => exact ⟨0, rfl⟩
  | some x => exact ⟨x.count, rfl⟩

theorem keeps_handWrite (k : Key) (x : Extent) (s : State) : Keeps s (handWrite k x s) :=
  .ifThen (.trans (u := if s.mirror.link.together then s
    else s.onMirror fun m => { m with copies := m.copies ++ [{ key := k, extent := x, state := .notExpected }] })
    (.ite (fun _ => .refl s) fun _ => {}) (keeps_onEngine _ _ rfl (.refl _)))

theorem keeps_createEntry {k : Key} {n : Nat} (hr : s.room k n = true) (kind : EntryKind) (x : Option Extent)
    (fwd : Option Station) : Keeps s (createEntry k kind x fwd s) := by
  have he := keeps_enqueue hr (e := newEntry k kind x fwd s) rfl (newEntry_pages k kind x fwd s)
  unfold createEntry
  dsimp only
  split
  · exact he.trans (keeps_endEntry _ _ _)
  · split
    · exact he.trans (keeps_handWrite _ _ _)
    · exact he

theorem keeps_createMirrorEntry {k : Key} {n : Nat} (hr : s.room k n = true) (kind : EntryKind) :
    Keeps s (createMirrorEntry k kind s) := by
  have he := keeps_enqueue hr (e := newEntry k kind none none s) rfl (newEntry_pages k kind none none s)
  exact he.trans (.ifThen (keeps_endEntry _ _ _))

theorem keeps_onBuffer (f : List Host.Cell → List Host.Cell) (s : State)
    (hf : memWf s.buffer = true → memWf (f s.buffer) = true) : Keeps s (s.onBuffer f) where
  buffer := hf

theorem keeps_fillPiece (k : Key) (i : Nat) (bytes : List Byte) (s : State) : Keeps s (fillPiece k i bytes s) := by
  unfold fillPiece
  split
  · exact .refl s
  rename_i e _
  refine .ite (fun _ => .refl s) fun _ => ?_
  refine Keeps.trans (keeps_onBuffer (fun m => writePage m (e.pages.getD i 0) bytes) s (memWf_writePage _ _ _)) ?_
  exact (keeps_onEntry k (fun e => { e with pieces := e.pieces ++ [i], lastPiece := some s.tick }) _).trans
    (.ifThen (keeps_enterQueued _ _))

theorem keeps_startSending (k : Key) (s : State) : Keeps s (startSending k s) :=
  (keeps_onEntry k (fun e => { e with state := .sending, send := some { pos := 0, attempts := 0, retry := none } }) s).trans
    {}

theorem keeps_setCopy (c : CopyItem) (s : State) : Keeps s (setCopy c s) := {}

theorem keeps_copyDecision (e : Entry) (s : State) : Keeps s (copyDecision e s) := by
  unfold copyDecision
  dsimp only
  split
  case h_1 => exact keeps_endEntry _ _ s
  case h_2 => exact keeps_endEntry _ _ s
  case h_3 => exact keeps_endEntry _ _ s
  case h_4 =>
    refine .ite (fun _ => (keeps_markExtent _ s).trans (keeps_endEntry _ _ _)) fun _ => ?_
    refine .ite (fun _ => keeps_endEntry _ _ s) fun _ => ?_
    refine .ite (fun _ => (keeps_markExtent _ s).trans (keeps_endEntry _ _ _)) fun _ => ?_
    exact (keeps_onEntry e.key (fun e => { e with state := .waitMirror }) s).trans (keeps_setCopy _ _)

theorem keeps_entryReply (k : Key) (r : LaneReply) (s : State) : Keeps s (entryReply k r s) := by
  unfold entryReply
  split
  · exact .refl s
  split
  case h_1 => exact (keeps_onBuffer _ s (memWf_writePages _ _ _)).trans (keeps_startSending _ _)
  case h_2 => exact (keeps_onBuffer _ s (memWf_writePages _ _ _)).trans (keeps_endEntry _ _ _)
  case h_3 => exact keeps_copyDecision _ s
  case h_4 => exact keeps_endReplica _ _ s
  case h_5 => exact keeps_endReplica _ _ s
  all_goals first
    | exact keeps_endEntry _ _ s
    | exact .refl s

theorem keeps_orderFresh (n : Nat) (s : State) : Keeps s (orderFresh n s) := {}

theorem fits_fillRequest {m : ReqOut} {x : OutMsg} (h : s.fillRequest m = some x) : x.fits .request = true := by
  cases m with
  | entryDone k =>
    obtain ⟨e, _, rfl⟩ := Option.map_eq_some_iff.mp h
    rfl
  | clearDone k st => cases h; rfl
  | piece k =>
    obtain ⟨e, _, he⟩ := Option.bind_eq_some_iff.mp h
    obtain ⟨p, _, rfl⟩ := Option.map_eq_some_iff.mp he
    rfl
  | report k i => cases h; rfl

theorem keeps_placeRequest (s : State) : Keeps s (placeRequest s) := by
  unfold placeRequest
  split
  · rename_i m hs _
    have hput : Keeps s (s.putSlot .request (s.fillRequest m)) := keeps_fillSlot hs fun _ _ hx => fits_fillRequest hx
    have hdrop : Keeps s ((s.onRequest fun r => { r with out := r.out.erase m }).putSlot .request (s.fillRequest m)) :=
      hput.trans {}
    dsimp only
    split
    · exact hdrop.trans (keeps_filterQueue _ _)
    all_goals exact hdrop
  · exact .refl s

theorem keeps_countUndelivered (s : State) :
    Keeps s (s.onRequest fun r => { r with undelivered := satInc r.undelivered }) where
  counters h := by
    rw [countersBounded_iff] at h ⊢
    obtain ⟨h₁, h₂, h₃, h₄, h₅, h₆, h₇, h₈, h₉⟩ := h
    exact ⟨h₁, h₂, h₃, h₄, h₅, h₆, h₇, satInc_le h₈, h₉⟩

theorem keeps_endUndelivered (k : Key) (s : State) : Keeps s (endUndelivered k s) :=
  (keeps_endEntry k _ s).trans (keeps_countUndelivered _)

/-- An entry changed in place, with a message made ready. -/
theorem keeps_onEntryOut (k : Key) (f : Entry → Entry) (l : List ReqOut) (s : State)
    (hk : ∀ e, (f e).key = e.key := by intro _; rfl) (hp : ∀ e, (f e).pages = e.pages := by intro _; rfl) :
    Keeps s ((s.onEntry k f).onRequest fun r => { r with out := r.out ++ l }) :=
  (keeps_onEntry k f s hk hp).trans {}

theorem keeps_pieceOutcome (k : Key) (o : SendOutcome) (s : State) : Keeps s (pieceOutcome k o s) := by
  unfold pieceOutcome
  split
  · exact .refl s
  split
  · exact .refl s
  split
  case h_1 => exact .ite (fun _ => keeps_onEntryOut k _ _ s) fun _ => keeps_endEntry _ _ s
  case h_2 => exact .ite (fun _ => keeps_onEntry k _ s) fun _ => keeps_endUndelivered _ s
  case h_3 => exact keeps_endUndelivered _ s
  case h_4 => exact keeps_endUndelivered _ s
  all_goals exact .refl s

theorem keeps_checkResyncBegin (e : Entry) (n : Nat) (s : State) : Keeps s (checkResyncBegin e n s) :=
  .ite (fun _ => (keeps_setBehind s).trans (keeps_endEntry _ _ _)) fun _ => keeps_endEntry _ _ s

theorem keeps_checkPromote (e : Entry) (s : State) : Keeps s (checkPromote e s) := by
  unfold checkPromote
  split
  · exact .ite (fun _ => .refl s) fun _ => keeps_endEntry _ _ s
  · exact .ite (fun _ => {}) fun _ => keeps_endEntry _ _ s

theorem keeps_handSpecials (s : State) : Keeps s (handSpecials s) := by
  refine keeps_foldl (fun s k => ?_) _ s
  split
  · refine .ifThen ?_
    split
    case h_1 => exact keeps_checkResyncBegin _ _ s
    case h_2 => exact keeps_checkPromote _ s
    all_goals exact .refl s
  · exact .refl s

theorem keeps_dropPromotion (s : State) : Keeps s (dropPromotion s) := by
  unfold dropPromotion
  split
  · exact .ifThen (.trans (u := s.onMirror fun m => { m with promotion := none }) {} (.ifThen (keeps_endEntry _ _ _)))
  · exact .refl s

/-! ## The watch unit and announcements -/

theorem keeps_placeAwake (s : State) : Keeps s (placeAwake s) := by
  unfold placeAwake
  refine .ifThen ?_
  split
  · rename_i hs
    exact .trans (u := s.onAnnounce fun a => { a with timer := none }) {}
      (keeps_fillSlot (by exact hs) fun _ x hx => by cases hx; rfl)
  · exact .ifThen {}

theorem keeps_announceChange (b s : State) : Keeps s (announceChange b s) := .ifThen (keeps_placeAwake s)

theorem keeps_awakeOutcome (f : Frame) (o : SendOutcome) (s : State) : Keeps s (awakeOutcome f o s) := by
  cases o with
  | inForce a =>
    exact .trans (u := (s.onAnnounce fun a => { a with timer := some s.tick, again := false }).onMirror
      fun m => { m with behindAnnounced := m.behindAnnounced || carriedBehind f }) {} (.ifThen (keeps_placeAwake _))
  | objected a => exact .trans {} (keeps_placeAwake _)
  | spoiled => exact .trans {} (keeps_placeAwake _)
  | taken => exact .refl s
  | busy => exact .refl s
  | unanswered => exact .refl s

theorem keeps_watchReady {m : OutMsg} (h : m.fits .watch = true) (s : State) : Keeps s (watchReady m s) where
  slots := slots_of_lists (hw := fun x hx => (List.mem_append.mp hx).imp id fun hx => by
    rw [List.mem_singleton.mp hx]; exact h)

theorem keeps_watchOut (f : List OutMsg → List OutMsg) (hf : ∀ l, ∀ m ∈ f l, m ∈ l) (s : State) :
    Keeps s (s.onWatch fun x => { x with out := f x.out }) where
  slots := slots_of_lists (hw := fun m hm => .inl (hf _ m hm))

theorem keeps_watchRetract (p : OutMsg → Bool) (s : State) : Keeps s (watchRetract p s).2 := by
  unfold watchRetract
  split
  · exact keeps_watchOut _ (fun _ _ hm => List.mem_of_mem_filter hm) s
  · exact keeps_withdraw _ _ s

theorem keeps_onMarks (n : Station) (f : WatchMarks → WatchMarks) (s : State) : Keeps s (onMarks n f s) := {}

theorem keeps_orderWatch (before : List OutMsg) (s : State) : Keeps s (orderWatch before s) where
  slots := slots_of_lists (hw := fun m hm => .inl ((mem_orderWatch before s m).mp hm))

theorem keeps_placeWatch (s : State) : Keeps s (placeWatch s) := by
  unfold placeWatch
  split
  · rename_i m rest hs hout
    have hput : Keeps s (s.putSlot .watch (some m)) := keeps_fillSlot hs fun h x hx => by
      cases hx
      exact h.2.2.1 _ (by rw [hout]; exact List.mem_cons_self)
    exact hput.trans { slots := slots_of_lists (hw := fun x hx => .inl (by
      rw [putSlot_watch, hout]
      exact List.mem_cons_of_mem m hx)) }
  · exact .refl s

theorem keeps_onProxy (n : Station) (k : Key) (f : ProxyEntry → ProxyEntry) (s : State) : Keeps s (onProxy n k f s) := {}

theorem keeps_leaveProxy (n : Station) (k : Key) (s : State) : Keeps s (leaveProxy n k s) := {}

theorem keeps_endProxy (st : Status) (e : ProxyEntry) (s : State) : Keeps s (endProxy st e s) :=
  (keeps_leaveProxy _ _ s).trans (keeps_watchReady rfl _)

theorem keeps_sendForward (e : ProxyEntry) (s : State) : Keeps s (sendForward e s) :=
  (keeps_onProxy _ _ _ s).trans (keeps_watchReady rfl _)

theorem keeps_forwardNext (n : Station) (s : State) : Keeps s (forwardNext n s) := by
  unfold forwardNext
  refine .ifThen ?_
  split
  · exact keeps_sendForward _ s
  · exact .refl s

theorem keeps_forwardFailed (e : ProxyEntry) (next : ProxyState) (s : State) : Keeps s (forwardFailed e next s) := by
  unfold forwardFailed
  refine .ite (fun _ => keeps_endProxy _ _ s) fun _ => .ite (fun _ => keeps_onProxy _ _ _ s) fun _ => ?_
  split
  · exact keeps_sendForward _ s
  all_goals exact keeps_onProxy _ _ _ s

theorem keeps_forwardOutcome (n : Station) (k : Key) (o : SendOutcome) (s : State) :
    Keeps s (forwardOutcome n k o s) := by
  unfold forwardOutcome
  split
  case h_1 => exact (keeps_leaveProxy n k s).trans (keeps_forwardNext _ _)
  case h_2 => exact keeps_forwardNext _ s
  case h_3 => exact .refl s
  case h_4 => exact keeps_forwardFailed _ _ s
  case h_5 => exact keeps_forwardFailed _ _ s
  case h_6 => exact keeps_forwardFailed _ _ s
  all_goals exact .refl s

theorem keeps_recallForwards (n : Station) (s : State) : Keeps s (recallForwards n s) :=
  (keeps_watchRetract (isForwardTo n) s).trans {}

theorem keeps_retryForwards (n : Station) (s : State) : Keeps s (retryForwards n s) :=
  keeps_foldl (fun s e => keeps_sendForward e s) _ s

theorem keeps_proxyLimit (e : ProxyEntry) (s : State) : Keeps s (proxyLimit e s) :=
  .ite (fun _ => (keeps_watchRetract (isForwardOf e.target e.key) s).trans
      (.ite (fun _ => keeps_endProxy _ _ _) fun _ => keeps_onProxy _ _ _ _)) fun _ => keeps_endProxy _ _ s

theorem keeps_endProxies (p : Station → Bool) (s : State) : Keeps s (endProxies p s) :=
  keeps_foldl (fun s e => keeps_endProxy _ e s) _ s

theorem keeps_proxyDoneSeen (o n : Station) (tag : Tag) (s : State) : Keeps s (proxyDoneSeen o n tag s) :=
  .ifThen ((keeps_leaveProxy _ _ s).trans (keeps_retryForwards _ _))

theorem keeps_loseDuty (s : State) : Keeps s (loseDuty s) :=
  (((keeps_endProxies _ s).trans (keeps_watchRetract _ _)).trans (keeps_withdraw _ _ _)).trans {}

theorem keeps_dutyEdge (b s : State) : Keeps s (dutyEdge b s) := .ite (fun _ => {}) fun _ => .ifThen (keeps_loseDuty s)

theorem keeps_followTakeTest (s : State) : Keeps s (followTakeTest s) :=
  .ite (fun _ => .ite (fun _ => .refl s) fun _ => keeps_watchReady rfl s) fun _ => .ifThen (keeps_watchRetract _ s)

theorem keeps_passCheckNow (s : State) : Keeps s (passCheckNow s) := by
  unfold passCheckNow
  refine .ifThen ?_
  split
  · exact keeps_watchReady rfl s
  · exact .refl s

theorem keeps_followPass (s : State) : Keeps s (followPass s) := .ifThen (keeps_watchRetract _ s)

theorem keeps_makeWakes (s : State) : Keeps s (makeWakes s) :=
  keeps_foldl (fun s _ => .ifThen (keeps_watchReady rfl s)) _ s

theorem keeps_declareAbsences (s : State) : Keeps s (declareAbsences s) :=
  keeps_foldl (fun s _ => .ifThen (keeps_watchReady rfl s)) _ s

theorem keeps_followSleep (s : State) : Keeps s (followSleep s) := by
  unfold followSleep
  refine .ite (fun _ => .ite (fun _ => .refl s) fun _ => keeps_withdraw _ _ s) fun _ => ?_
  refine .ite (fun h => keeps_fillSlot (i := .watch) ?_ fun _ x hx => by cases hx; rfl) fun _ => .refl s
  by_contra hne
  have hf : (s.slot .watch).isNone = false := by
    cases hs : s.slot .watch with
    | none => exact absurd hs hne
    | some _ => rfl
  rw [hf] at h
  unfold State.sleepConditions at h
  split at h <;> simp at h

/-! ## The ends of a census and of wakefulness -/

theorem keeps_enterListening (s : State) : Keeps s (enterListening s) := .trans {} (keeps_placeAwake _)

theorem keeps_completeCensus (s : State) : Keeps s (completeCensus s) :=
  .trans (u := (s.onShelf fun x => { x with census := .complete }).onClaim fun c => { c with tableTimer := none }) {}
    (keeps_enterListening _)

theorem keeps_emptySlots (s : State) : Keeps s (s.onBus fun b => { b with slots := .empty, sending := none }) where
  slots := by
    rintro ⟨_, _, h⟩
    refine ⟨fun t ht => (by cases ht), fun i m hm => ?_, h⟩
    cases i <;> cases hm

theorem keeps_resetWatch (s : State) : Keeps s (s.onWatch fun _ => .reset) where
  slots := slots_of_lists (hw := fun _ hm => by cases hm)

theorem keeps_enterSleeping (s : State) : Keeps s (enterSleeping s) := by
  have h : Keeps s ((sleepMirror (sleepBudget s)).onBus fun b => { b with slots := .empty, sending := none }) :=
    ((keeps_sleepBudget s).trans (keeps_sleepMirror _)).trans (keeps_emptySlots _)
  unfold enterSleeping
  dsimp only
  generalize (sleepMirror (sleepBudget s)).onBus (fun b => { b with slots := .empty, sending := none }) = t at h ⊢
  have hd : Keeps t ((t.onAnnounce fun a => { a with timer := none, again := false }).onDrive
      fun d => { d with need := false }) := {}
  exact ((h.trans hd).trans (keeps_resetWatch _)).trans {}

theorem keeps_resume (s : State) : Keeps s (resume s) := by
  have hp : Keeps s ((s.setPower .resuming).onPeers fun _ => Vector.replicate 16 (.fresh s.tick)) := {}
  have hw := hp.trans (keeps_resetWatch _)
  unfold resume
  dsimp only
  generalize (((s.setPower .resuming).onPeers fun _ => Vector.replicate 16 (.fresh s.tick)).onWatch
    fun _ => .reset) = t at hw ⊢
  have hm : Keeps t (t.onMirror fun m => { m with readWake := false, behindAnnounced := false }) := {}
  have hb := (hw.trans hm).trans (keeps_setBehind _)
  generalize setBehind (t.onMirror fun m => { m with readWake := false, behindAnnounced := false }) = u at hb ⊢
  exact hb.trans (.trans (u := u.onDrive fun d => { d with idle := none }) {} (keeps_censusStart _))

/-! ## The tests after an event -/

theorem keeps_settleActive (b s : State) : Keeps s (settleActive b s) := by
  have hmirror : ∀ t, Keeps t (settleMirror t) := fun t => (((keeps_judgeLink t).trans (keeps_dropPromotion _)).trans
    (keeps_startResync _)).trans (keeps_resyncWakeTest _)
  have hlane : ∀ t, Keeps t (settleLane t) := fun t => ((keeps_handSpecials t).trans (keeps_takePages _)).trans
    (keeps_chooseCommand _)
  have hslots : ∀ t, Keeps t (settleSlots b t) := fun t => ((((keeps_orderFresh _ t).trans
    (keeps_orderMirror _ _)).trans (keeps_placeRequest _)).trans (keeps_placeMirror _)).trans (keeps_placeResync _)
  have hpages : ∀ t, Keeps t (settlePages t) := fun t => (keeps_takePages t).trans (keeps_chooseCommand _)
  have hpower : ∀ t, Keeps t (settlePower t) := fun t =>
    (Keeps.trans (u := reportNeed t) {} (keeps_settleBudget _)).trans {}
  have hwatch : ∀ t, Keeps t (settleWatch b.watch.out t) := fun t => ((((((keeps_followPass t).trans
    (keeps_followTakeTest _)).trans (keeps_makeWakes _)).trans (keeps_orderWatch _ _)).trans (keeps_placeWatch _)).trans
    (keeps_followSleep _)).trans (keeps_placeWatch _)
  exact ((((((((keeps_stopIdle s).trans (keeps_dutyEdge b _)).trans (keeps_hotAction _)).trans (hmirror _)).trans
    (hlane _)).trans (hslots _)).trans (hpages _)).trans (hpower _)).trans ((hwatch _).trans (keeps_announceChange b _))

theorem keeps_settle (b s : State) : Keeps s (settle b s) :=
  .ite (fun _ => keeps_settleActive b s) fun _ => .ifThen (keeps_placeRequest s)

end

/-! What every command keeps, and the invariants of every step. -/

section
variable {s u v : State}

/-! ## Reception -/

/-- A message has been on the line: the invariants are kept, and the line is not idle (R2). -/
structure Received (s u : State) : Prop extends Holds s u where
  idle : u.bus.idle = false := by rfl

theorem holds_answers (d : Answer) (s : State) : Holds s (s.answers d) where
  counters h := by
    rw [countersBounded_iff] at h ⊢
    obtain ⟨h₁, h₂, h₃⟩ := h
    refine ⟨h₁, ?_, h₃⟩
    unfold State.answers
    simp only [onBus_bus]
    split
    · exact satInc_le h₂
    · exact h₂

theorem received_answers (d : Answer) (s : State) : Received s (s.answers d) := { toHolds := holds_answers d s }

theorem Received.after (h : Received u v) (g : Keeps s u) : Received s v where
  toHolds := g.toHolds.trans h.toHolds
  idle := h.idle

theorem Received.then (h : Received s u) (g : Keeps u v) : Received s v where
  toHolds := h.toHolds.trans g.toHolds
  idle := g.idle.trans h.idle

theorem keeps_heard (o : Station) (s : State) : Keeps s (heard o s) := by
  have hp : Keeps s (s.onPeers fun v => v.set o { v[o] with lastHeard := s.tick }) := {}
  exact (hp.trans (.ifThen (keeps_onMarks _ _ _))).trans (keeps_watchRetract _ _)

section
variable {α : Type} {inForce : Answer → Bool} {o : Station} {body : Option α} {judge : α → State → Answer × State}
  {effect : α → Answer → State → State}

theorem received_hear (hj : ∀ x, body = some x → Keeps s (judge x s).2)
    (he : ∀ x, body = some x → Keeps (heard o ((judge x s).2.answers (judge x s).1))
      (effect x (judge x s).1 (heard o ((judge x s).2.answers (judge x s).1)))) :
    Received s (hear inForce o body judge effect s) := by
  unfold hear
  split
  · exact received_answers _ s
  split
  · exact received_answers _ s
  · rename_i x
    have ha := (received_answers (judge x s).1 _).after (hj x rfl)
    dsimp only
    split
    · exact (ha.then (keeps_heard o _)).then (he x rfl)
    · exact ha

/-- A message whose judgement changes nothing. -/
theorem received_hear_pure (hj : ∀ x, (judge x s).2 = s)
    (he : ∀ x, body = some x → ∀ t, Keeps t (effect x (judge x s).1 t)) :
    Received s (hear inForce o body judge effect s) :=
  received_hear (fun x _ => by rw [hj x]; exact .refl s) fun x hx => he x hx _

end

theorem room_heard (o : Station) (k : Key) (n : Nat) : (heard o s).room k n = s.room k n := by rw [heard_frame]; rfl

theorem room_answers (d : Answer) (k : Key) (n : Nat) : (s.answers d).room k n = s.room k n := rfl

theorem keeps_wantWake (n : Station) (s : State) : Keeps s (wantWake n s) := keeps_onMarks _ _ s

theorem keeps_proxyHold (n : Station) (k : Key) (s : State) : Keeps s (proxyHold n k s).2 := by
  unfold proxyHold
  split
  · exact keeps_wantWake n s
  · exact .refl s

theorem keeps_proxyRefuse (n : Station) (s : State) : Keeps s (proxyRefuse n s).2 := by
  unfold proxyRefuse
  split
  · exact keeps_wantWake n s
  · exact .refl s

theorem keeps_proxyTake (n : Station) (k : Key) (q : ProxyReq) (s : State) : Keeps s (proxyTake n k q s) :=
  .ite (fun _ => keeps_onProxy _ _ _ s) fun _ => {}

theorem proxyRefuse_ne_acknowledge (n : Station) (s : State) : (proxyRefuse n s).1 ≠ .acknowledge := by
  unfold proxyRefuse
  split <;> simp

theorem keeps_queueAnswer (o n : Station) (tag : Tag) (count : Nat) (s : State) :
    Keeps s (queueAnswer o n tag count s).2 := by
  unfold queueAnswer
  split
  · exact .refl s
  · exact keeps_proxyRefuse n s

/-- R103: a request is taken at its target where there is room. -/
theorem queueAnswer_acknowledge {o n : Station} {tag : Tag} {count : Nat}
    (h : (queueAnswer o n tag count s).1 = .acknowledge) :
    s.room ⟨o, tag⟩ count = true ∧ (queueAnswer o n tag count s).2 = s := by
  unfold queueAnswer at h ⊢
  split at h
  · rename_i hn
    rw [if_pos hn]
    refine ⟨?_, rfl⟩
    unfold takeOrBusy at h
    dsimp only at h
    split at h
    · assumption
    · cases h
  · exact absurd h (proxyRefuse_ne_acknowledge n s)

/-- A request that joins the queue when it is taken. -/
theorem received_queued {α : Type} {o n : Station} {body : Option α} {tag : α → Tag} {count : α → Nat}
    {effect : α → Answer → State → State} {inForce : Answer → Bool}
    (he : ∀ x t, t.room ⟨o, tag x⟩ (count x) = true → Keeps t (effect x .acknowledge t))
    (hn : ∀ x d t, d ≠ .acknowledge → Keeps t (effect x d t)) :
    Received s (hear inForce o body (fun x s => queueAnswer o n (tag x) (count x) s) effect s) := by
  refine received_hear (fun x _ => keeps_queueAnswer _ _ _ _ s) fun x _ => ?_
  by_cases hd : (queueAnswer o n (tag x) (count x) s).1 = .acknowledge
  · obtain ⟨hr, hs⟩ := queueAnswer_acknowledge hd
    rw [hd, hs]
    exact he x _ (by rw [room_heard, room_answers, hr])
  · exact hn x _ _ hd

/-! ## Broadcasts -/

theorem received_claim (o : Station) (p : List Byte) (a : AnswerSlot) (s : State) : Received s (hearClaim o p a s) :=
  received_hear_pure (fun _ => rfl) fun _ _ _ => keeps_shelf fun h => h.decide _ _

theorem received_release (o : Station) (p : List Byte) (a : AnswerSlot) (s : State) : Received s (hearRelease o p a s) :=
  received_hear_pure (fun _ => rfl) fun _ _ _ => keeps_shelf fun h => h.release _ _ _

theorem received_query (o : Station) (p : List Byte) (a : AnswerSlot) (s : State) : Received s (hearQuery o p a s) :=
  received_hear_pure (fun _ => rfl) fun _ _ _ => .ifThen (keeps_readyTable _ _)

theorem keeps_tableInForce {x : TableBody} (hx : x.Sound) (s : State) : Keeps s (tableInForce x s) :=
  .ite (fun _ => (keeps_adoptTable hx s).trans (keeps_enterListening _)) fun _ => keeps_budgetRetract _ s

theorem received_table (o : Station) (p : List Byte) (a : AnswerSlot) (s : State) : Received s (hearTable o p a s) :=
  received_hear_pure (fun _ => rfl) fun _ hx _ => keeps_tableInForce (parseTable_sound hx) _

theorem keeps_oneMismatch (s : State) :
    Keeps s (s.onAnnounce fun a => { a with mismatches := satInc a.mismatches }) where
  counters h := by
    rw [countersBounded_iff] at h ⊢
    obtain ⟨h₁, h₂, h₃, h₄, h₅, h₆, h₇, h₈⟩ := h
    exact ⟨h₁, h₂, h₃, h₄, h₅, h₆, satInc_le h₇, h₈⟩

theorem keeps_countMismatch (b : Nat) (s : State) : Keeps s (countMismatch b s) := .ifThen (keeps_oneMismatch s)

theorem keeps_partnerAwake (o : Station) (x : Announcement) (s : State) : Keeps s (partnerAwake o x s) :=
  .ifThen (((keeps_roleTest _ _ s).trans (keeps_noteBehind _ _)).trans (keeps_rejoinTest _ _ _ _))

theorem keeps_awakeInForce (o : Station) (x : Announcement) (s : State) : Keeps s (awakeInForce o x s) :=
  ((((Keeps.trans (u := s.onPeers fun v => v.set o (v[o].announce x s.tick)) {} (keeps_countMismatch _ _)).trans
    (keeps_onMarks _ _ _)).trans (keeps_partnerAwake _ _ _)).trans (keeps_forwardNext _ _))

theorem received_awake (o : Station) (p : List Byte) (a : AnswerSlot) (s : State) : Received s (hearAwake o p a s) :=
  received_hear_pure (fun _ => rfl) fun _ _ _ => keeps_awakeInForce _ _ _

theorem keeps_noteCleared (n : Station) (s : State) : Keeps s (noteCleared n s) := .ifThen {}

theorem keeps_asleepInForce (o : Station) (s : State) : Keeps s (asleepInForce o s) := by
  have hp : Keeps s (s.onPeers fun v =>
      v.set o { v[o] with state := .sleeping, drive := .off, holding := 0, lastHeard := s.tick }) := {}
  exact (((hp.trans (keeps_clearStation o _)).trans (keeps_noteCleared _ _)).trans (keeps_onMarks _ _ _)).trans
    (keeps_recallForwards _ _)

theorem received_asleep (o : Station) (p : List Byte) (a : AnswerSlot) (s : State) : Received s (hearAsleep o p a s) :=
  received_hear_pure (fun _ => rfl) fun _ _ _ => keeps_asleepInForce _ _

theorem keeps_onWatch (f : WatchUnit → WatchUnit) (s : State) (hout : (f s.watch).out = s.watch.out) :
    Keeps s (s.onWatch f) where
  slots := slots_of_lists (hw := fun m hm => .inl (by rw [← hout]; exact hm))

theorem received_wake (o : Station) (p : List Byte) (a : AnswerSlot) (s : State) : Received s (hearWake o p a s) := by
  unfold hearWake
  split
  · unfold wakeListener
    split
    · split
      · dsimp only
        split
        · exact (received_answers _ s).then (keeps_resume _)
        · exact received_answers _ s
      · exact received_answers _ s
    · exact received_answers _ s
  · exact received_hear_pure (fun _ => rfl) fun _ _ _ => .ifThen (.ifThen (keeps_onWatch _ _ rfl))

theorem keeps_absentInForce (n : Station) (s : State) : Keeps s (absentInForce n s) := by
  have hp : Keeps s (s.onPeers fun v => v.set n { v[n] with state := .absent, holding := 0 }) := {}
  unfold absentInForce
  refine (hp.trans (keeps_clearStation n _)).trans (Keeps.trans ?_ (keeps_endProxies _ _))
  exact ((keeps_noteCleared n _).trans (keeps_onMarks _ _ _)).trans (keeps_watchRetract _ _)

theorem keeps_expelled (s : State) : Keeps s (expelled s) := (keeps_expelBudget s).trans (keeps_enterFault _ _)

theorem received_absent (o : Station) (p : List Byte) (a : AnswerSlot) (s : State) : Received s (hearAbsent o p a s) := by
  refine received_hear (fun x _ => ?_) fun _ _ => .ite (fun _ => keeps_expelled _) fun _ => keeps_absentInForce _ _
  unfold absentAnswer
  split
  · exact keeps_placeAwake s
  · exact .refl s

theorem keeps_moveWatch (n : Station) (s : State) : Keeps s (moveWatch n s) := keeps_shelf id

theorem received_watchTake (o : Station) (p : List Byte) (a : AnswerSlot) (s : State) :
    Received s (hearWatchTake o p a s) :=
  received_hear_pure (fun _ => rfl) fun _ _ _ => keeps_moveWatch _ _

/-! ## Targeted messages -/

theorem received_watchPass (o n : Station) (p : List Byte) (a : AnswerSlot) (s : State) :
    Received s (hearWatchPass o n p a s) :=
  received_hear_pure (fun _ => by unfold watchPassAnswer; split <;> rfl) fun _ _ _ => keeps_moveWatch _ _

theorem received_done (o n : Station) (p : List Byte) (a : AnswerSlot) (s : State) : Received s (hearDone o n p a s) :=
  received_hear_pure (fun _ => rfl) fun _ _ _ => .trans (.ifThen (keeps_engineDone _ _)) (keeps_proxyDoneSeen _ _ _ _)

theorem keeps_mirrorAckInForce (k : Key) (start : BlockNo) (s : State) : Keeps s (mirrorAckInForce k start s) := by
  unfold mirrorAckInForce
  split
  · split
    case h_1 => exact keeps_endEntry _ _ s
    case h_5 => exact .refl s
    case h_6 => exact .refl s
    all_goals exact keeps_onEntry k (fun e => { e with ackEarly := true }) s
  · exact .refl s

theorem received_mirrorAck (o n : Station) (p : List Byte) (a : AnswerSlot) (s : State) :
    Received s (hearMirrorAck o n p a s) :=
  received_hear_pure (fun _ => rfl) fun _ _ _ => .ifThen (keeps_mirrorAckInForce _ _ _)

theorem keeps_mirrorMissInForce (k : Key) (x : Extent) (s : State) : Keeps s (mirrorMissInForce k x s) := by
  unfold mirrorMissInForce
  refine Keeps.trans (keeps_markExtent x s) ?_
  dsimp only
  split
  · split
    case h_1 => exact keeps_endEntry _ _ _
    case h_5 => exact .refl _
    case h_6 => exact .refl _
    all_goals exact keeps_setCopy _ _
  · exact .refl _

theorem received_mirrorMiss (o n : Station) (p : List Byte) (a : AnswerSlot) (s : State) :
    Received s (hearMirrorMiss o n p a s) :=
  received_hear_pure (fun _ => rfl) fun _ _ _ => .ifThen (keeps_mirrorMissInForce _ _ _)

theorem received_resyncBegin (o n : Station) (p : List Byte) (a : AnswerSlot) (s : State) :
    Received s (hearResyncBegin o n p a s) :=
  received_queued (tag := Prod.fst) (count := fun _ => 0)
    (fun _ _ hr => .ite (fun _ => keeps_createMirrorEntry hr _) fun _ => .refl _)
    fun _ _ _ hd => .ite (fun h => absurd h hd) fun _ => .refl _

theorem keeps_resyncEndAnswer (o n : Station) (e : Nat) (s : State) : Keeps s (resyncEndAnswer o n e s).2 := by
  unfold resyncEndAnswer
  split
  · exact .refl s
  · exact keeps_proxyRefuse n s

theorem received_resyncEnd (o n : Station) (p : List Byte) (a : AnswerSlot) (s : State) :
    Received s (hearResyncEnd o n p a s) :=
  received_hear (fun _ _ => keeps_resyncEndAnswer _ _ _ s) fun _ _ => .ifThen (.ifThen {})

theorem received_promote (o n : Station) (p : List Byte) (a : AnswerSlot) (s : State) :
    Received s (hearPromote o n p a s) :=
  received_queued (tag := id) (count := fun _ => 0)
    (fun _ _ hr => .ite (fun _ => keeps_createMirrorEntry hr _) fun _ => .refl _)
    fun _ _ _ hd => .ite (fun h => absurd h hd) fun _ => .refl _

theorem received_read (o n : Station) (p : List Byte) (a : AnswerSlot) (s : State) : Received s (hearRead o n p a s) := by
  by_cases hn : n = s.station
  · have hj : ∀ b, readAnswer o n b s = (takeOrBusy (s.room ⟨o, b.1⟩ b.2.count), s) := fun b => by
      rw [readAnswer, if_pos hn]
    refine received_hear (fun b _ => by rw [hj]; exact .refl s) fun b _ => ?_
    rw [hj]
    by_cases hr : s.room ⟨o, b.1⟩ b.2.count = true
    · exact .ifThen (.ite (fun _ => keeps_createEntry (n := b.2.count) (by rw [room_heard, room_answers, hr]) _ _ _)
        fun _ => keeps_proxyTake _ _ _ _)
    · exact .ite (fun h => absurd h (by simp [takeOrBusy, hr])) fun _ => .refl _
  · have hj : ∀ b, readAnswer o n b s = proxyHold n ⟨o, b.1⟩ s := fun b => by rw [readAnswer, if_neg hn]
    refine received_hear (fun b _ => by rw [hj]; exact keeps_proxyHold _ _ s) fun b _ => ?_
    have hst : (heard o ((readAnswer o n b s).2.answers (readAnswer o n b s).1)).station = s.station := by
      rw [station_heard, answers_station, hj]
      unfold proxyHold
      split <;> rfl
    exact .ifThen (.ite (fun h => absurd (h.trans hst) hn) fun _ => keeps_proxyTake _ _ _ _)

theorem keeps_snoopWrite (o n : Station) (b : Tag × Extent) (s : State) : Keeps s (snoopWrite o n b s) :=
  .ifThen (.ite (fun _ => .refl s) fun _ => .ite (fun hr => keeps_enqueue hr rfl (newEntry_pages _ _ _ _ s))
    fun _ => keeps_readyNotedMiss _ _ s)

theorem received_write (o n : Station) (p : List Byte) (a : AnswerSlot) (s : State) : Received s (hearWrite o n p a s) :=
  received_queued (tag := Prod.fst) (count := fun b : Tag × Extent => b.2.count)
    (fun _ _ hr => .ite (fun _ => .ite (fun _ => keeps_createEntry hr _ _ _) fun _ => .refl _)
      fun _ => keeps_snoopWrite _ _ _ _)
    fun _ _ _ hd => .ite (fun _ => .ite (fun h => absurd h hd) fun _ => .refl _) fun _ => keeps_snoopWrite _ _ _ _

theorem received_sync (o n : Station) (p : List Byte) (a : AnswerSlot) (s : State) : Received s (hearSync o n p a s) :=
  received_queued (tag := id) (count := fun _ => 0)
    (fun _ _ hr => .ite (fun _ => keeps_createEntry hr _ _ _) fun _ => .refl _)
    fun _ _ _ hd => .ite (fun h => absurd h hd) fun _ => .refl _

theorem received_resyncWrite (o n : Station) (p : List Byte) (a : AnswerSlot) (s : State) :
    Received s (hearResyncWrite o n p a s) :=
  received_queued (tag := Prod.fst) (count := fun b : Tag × Extent => b.2.count)
    (fun _ _ hr => .ite (fun _ => keeps_createEntry hr _ _ _) fun _ => .refl _)
    fun _ _ _ hd => .ite (fun h => absurd h hd) fun _ => .refl _

theorem keeps_cancelEntry (k : Key) (s : State) : Keeps s (cancelEntry k s) := by
  unfold cancelEntry
  split
  · exact .refl s
  exact .ite (fun _ => .refl s) fun _ => .ite (fun _ => keeps_endEntry _ _ s)
    fun _ => keeps_onEntry k (fun e => { e with cancelLate := true }) s

theorem keeps_cancelInForce (o n : Station) (tag : Tag) (d : Answer) (s : State) : Keeps s (cancelInForce o n tag d s) := by
  refine .ifThen (.ite (fun _ => keeps_cancelEntry _ s) fun _ => ?_)
  split
  · exact keeps_endProxy _ _ s
  · exact .refl s

theorem received_cancel (o n : Station) (p : List Byte) (a : AnswerSlot) (s : State) : Received s (hearCancel o n p a s) :=
  received_hear_pure (fun _ => by unfold cancelAnswer; split <;> rfl) fun _ _ _ => keeps_cancelInForce _ _ _ _ _

theorem keeps_clearFault (s : State) : Keeps s (clearFault s).2 := by
  unfold clearFault
  split
  · rename_i hf
    split
    · exact .refl s
    · refine { power := fun h => ?_ }
      unfold PowerFollowsState at h
      rw [hf] at h
      exact h
  · exact .refl s

theorem keeps_clearFaultInForce (k : Key) (s : State) : Keeps s (clearFaultInForce k s) := (keeps_clearFault s).trans {}

theorem received_clearFault (o n : Station) (p : List Byte) (a : AnswerSlot) (s : State) :
    Received s (hearClearFault o n p a s) := by
  refine received_hear (fun x _ => ?_) fun _ _ => .ifThen (keeps_clearFaultInForce _ _)
  unfold clearFaultAnswer
  split
  · exact .refl s
  · exact keeps_proxyRefuse n s

theorem keeps_readyReport (k : Key) (i : Nat) (s : State) : Keeps s (readyReport k i s) := {}

theorem received_probe (o n : Station) (p : List Byte) (a : AnswerSlot) (s : State) : Received s (hearProbe o n p a s) := by
  unfold hearProbe
  split
  · unfold unsetProbe
    split
    · split
      · dsimp only
        split
        · exact (received_answers _ s).then (keeps_readyReport _ _ _)
        · exact received_answers _ s
      · exact received_answers _ s
    · exact received_answers _ s
  · refine received_hear (fun x _ => ?_)
      fun _ _ => .ifThen (.ite (fun _ => keeps_readyReport _ _ _) fun _ => keeps_proxyTake _ _ _ _)
    unfold probeAnswer
    split
    · exact .refl s
    · exact keeps_proxyHold _ _ s

theorem received_forward (o n : Station) (p : List Byte) (a : AnswerSlot) (s : State) :
    Received s (hearForward o n p a s) := by
  refine received_hear (fun b _ => ?_) fun b _ => ?_
  · unfold forwardAnswer
    split <;> exact .refl s
  · by_cases hd : (forwardAnswer n b s).1 = .acknowledge
    · refine .ifThen ?_
      unfold forwardInForce
      split
      · rename_i st c hq
        refine keeps_createEntry (n := c) ?_ _ _ _
        rw [room_heard, room_answers]
        unfold forwardAnswer takeOrBusy at hd ⊢
        split at hd
        · rename_i hn
          rw [if_pos hn]
          simp only [hq] at hd
          by_contra hr
          simp [hr] at hd
        · cases hd
      · exact keeps_readyReport _ _ _
    · exact .ite (fun h => absurd h hd) fun _ => .refl _

theorem keeps_dataInForce (o n : Station) (b : DataBody) (d : Answer) (s : State) : Keeps s (dataInForce o n b d s) :=
  .ite (fun _ => .ifThen (keeps_fillPiece _ _ _ s))
    fun _ => .ifThen (.ite (fun _ => keeps_fillPiece _ _ _ s) fun _ => keeps_setBehind s)

theorem received_data (o n : Station) (p : List Byte) (a : AnswerSlot) (s : State) : Received s (hearData o n p a s) :=
  received_hear_pure (fun _ => rfl) fun _ _ _ => keeps_dataInForce _ _ _ _ _

theorem received_report (o n : Station) (p : List Byte) (a : AnswerSlot) (s : State) : Received s (hearReport o n p a s) :=
  received_hear_pure (fun _ => rfl) fun _ _ _ => .refl _

theorem keeps_countCheckError (s : State) :
    Keeps s (s.onBus fun b => { b with checkErrors := satInc b.checkErrors }) where
  counters h := by
    rw [countersBounded_iff] at h ⊢
    obtain ⟨h₁, h₂⟩ := h
    exact ⟨satInc_le h₁, h₂⟩

theorem received_checkFailed (f : Frame) (s : State) : Received s (checkFailed f s) := by
  unfold checkFailed
  split
  · exact ((received_answers _ s).then (keeps_countCheckError _)).then (.ifThen (keeps_setBehind _))
  · exact received_answers _ s

end

/-! What the station's own messages keep: the start of a transmission, arbitration and outcomes. -/

section
variable {s u v : State}

/-! ## Outcomes -/

theorem keeps_queryOutcome (o : SendOutcome) (s : State) : Keeps s (queryOutcome o s) := by
  unfold queryOutcome
  refine .ite (fun _ => .refl s) fun _ => ?_
  split
  case h_1 => exact keeps_completeCensus s
  case h_2 => exact {}
  case h_3 => exact keeps_readyQuery s
  case h_4 => exact keeps_readyQuery s
  all_goals exact .refl s

theorem keeps_claimOutcome (n : Nat) (o : SendOutcome) (s : State) : Keeps s (claimOutcome n o s) :=
  .ite (fun _ => .ite (fun _ => (keeps_ownClaimDecided n s).trans (keeps_admission _)) fun _ => keeps_ownClaimDecided n s)
    fun _ => keeps_ownClaimFailed s

theorem keeps_releaseOutcome (n : Nat) (w : Bool) (why : ReleaseWhy) (o : SendOutcome) (s : State) :
    Keeps s (releaseOutcome n w why o s) :=
  .trans (.ifThen (keeps_shelf fun h => h.release _ _ _)) (keeps_ownReleaseOutcome _ _ _)

theorem keeps_tableOutcome (q : Station) (o : SendOutcome) (s : State) : Keeps s (tableOutcome q o s) :=
  .ite (fun _ => .refl s) fun _ => keeps_readyTable q s

theorem keeps_asleepOutcome (o : SendOutcome) (s : State) : Keeps s (asleepOutcome o s) :=
  .ite (fun _ => (keeps_clearStation _ s).trans (keeps_enterSleeping _)) fun _ => keeps_onWatch _ s rfl

theorem keeps_markWaking (mask : BitVec 16) (s : State) : Keeps s (markWaking mask s) := .ifThen (keeps_onWatch _ s rfl)

theorem keeps_proxyWakeOutcome (mask : BitVec 16) (o : SendOutcome) (s : State) : Keeps s (proxyWakeOutcome mask o s) :=
  .ifThen (.ite (fun _ => keeps_onWatch _ s rfl) fun _ => keeps_watchReady rfl s)

theorem keeps_wakeOutcome (mask : BitVec 16) (why : WakeWhy) (o : SendOutcome) (s : State) :
    Keeps s (wakeOutcome mask why o s) := by
  have hm : Keeps s (if o.acked then markWaking mask s else s) := .ifThen (keeps_markWaking mask s)
  unfold wakeOutcome
  dsimp only
  generalize (if o.acked then markWaking mask s else s) = t at hm ⊢
  refine hm.trans ?_
  cases why with
  | proxy => exact keeps_proxyWakeOutcome mask o t
  | resync => exact .ite (fun _ => .ifThen {}) fun _ => keeps_mirrorReady rfl t
  | read => exact .ite (fun _ => .refl t) fun _ => keeps_mirrorReady rfl t

theorem keeps_absentOutcome (n : Station) (o : SendOutcome) (s : State) : Keeps s (absentOutcome n o s) :=
  .ite (fun _ => keeps_absentInForce n s) fun _ => .ifThen (keeps_onMarks _ _ s)

theorem keeps_watchTakeOutcome (o : SendOutcome) (s : State) : Keeps s (watchTakeOutcome o s) :=
  .ite (fun _ => keeps_moveWatch _ s) fun _ => keeps_onWatch _ s rfl

theorem keeps_watchPassOutcome (n : Station) (o : SendOutcome) (s : State) : Keeps s (watchPassOutcome n o s) :=
  .ifThen (keeps_moveWatch n s)

theorem keeps_mirrorFront {m : OutMsg} (h : m.fits .mirror = true) (s : State) :
    Keeps s (s.onMirror fun x => { x with out := m :: x.out }) where
  slots := slots_of_lists (hm := fun x hx => (List.mem_cons.mp hx).symm.imp id fun hx => by rw [hx]; exact h)

theorem keeps_mirrorAnswerOutcome {m : OutMsg} (h : m.fits .mirror = true) (n : Nat) (o : SendOutcome) (s : State) :
    Keeps s (mirrorAnswerOutcome n m o s) := by
  unfold mirrorAnswerOutcome
  split
  case h_1 => exact .ifThen (keeps_mirrorFront h s)
  case h_2 => exact .ifThen (keeps_mirrorFront h s)
  all_goals exact .refl s

theorem keeps_ownData (d : Station) (o : SendOutcome) (s : State) : Keeps s (ownData d o s) := .ifThen (keeps_setBehind s)

theorem keeps_sendDone (t : Sending) (o : SendOutcome) (s : State) : Keeps s (sendDone t o s) := by
  unfold sendDone
  split
  case h_1 => exact keeps_claimOutcome _ o s
  case h_2 => exact keeps_releaseOutcome _ _ _ o s
  case h_3 => exact keeps_queryOutcome o s
  case h_4 => exact keeps_tableOutcome _ o s
  case h_5 => exact keeps_awakeOutcome _ o s
  case h_6 => exact keeps_asleepOutcome o s
  case h_7 => exact keeps_wakeOutcome _ _ o s
  case h_8 => exact keeps_absentOutcome _ o s
  case h_9 => exact keeps_watchTakeOutcome o s
  case h_10 => exact keeps_watchPassOutcome _ o s
  case h_11 => exact keeps_forwardOutcome _ _ o s
  case h_12 => exact .refl s
  case h_13 =>
    exact .ite (fun _ => .ifThen (keeps_resyncSlotOutcome _ o s))
      fun _ => (keeps_ownData _ o s).trans (keeps_pieceOutcome _ o _)
  case h_14 => exact .refl s
  case h_15 => exact keeps_mirrorAnswerOutcome rfl _ o s
  case h_16 => exact keeps_mirrorAnswerOutcome rfl _ o s
  case h_17 => exact .ifThen (keeps_resyncBeginOutcome _ o s)
  case h_18 => exact .ifThen (keeps_resyncEndOutcome _ o s)
  case h_19 => exact .ifThen (keeps_resyncSlotOutcome _ o s)

/-! ## The line freed, taken and won -/

/-- The line is freed, a counter of the port counts, and a slot empties. -/
theorem keeps_freeLine (i : SlotId) (spoiled losses : Nat) (s : State)
    (hs : s.bus.spoiled ≤ 65535 → spoiled ≤ 65535 := by exact id)
    (hl : s.bus.arbLosses ≤ 65535 → losses ≤ 65535 := by exact id) :
    Keeps s ((s.onBus fun b => { b with sending := none, spoiled := spoiled, arbLosses := losses }).putSlot i none) where
  counters h := by
    rw [countersBounded_iff] at h ⊢
    obtain ⟨h₁, h₂, h₃, h₄, h₅⟩ := h
    exact ⟨h₁, h₂, hs h₃, hl h₄, h₅⟩
  slots := by
    rintro ⟨_, h, hrest⟩
    refine ⟨fun t ht => (by cases ht), fun j m hm => ?_, hrest⟩
    by_cases hj : j = i
    · rw [hj, slot_putSlot] at hm
      cases hm
    · rw [slot_putSlot_other none _ hj] at hm
      exact h j m hm

theorem keeps_finishSend (outcome : OutMsg → SendOutcome) (spoiled : Bool) (s : State) :
    Keeps s (finishSend outcome spoiled s) := by
  unfold finishSend
  split
  · rename_i t _
    refine .ifThen (.trans ?_ (keeps_sendDone t _ _))
    refine keeps_freeLine t.slot (if spoiled then s.sendCount s.bus.spoiled else s.bus.spoiled) s.bus.arbLosses s fun h => ?_
    split
    · exact sendCount_le _ h
    · exact h
  · exact .refl s

theorem keeps_afterRemoval (m : OutMsg) (s : State) : Keeps s (afterRemoval m s) := by
  unfold afterRemoval
  split
  case h_1 => exact keeps_claimRemoved s
  case h_2 => exact keeps_settleRemoved s
  case h_3 =>
    split
    · exact keeps_forwardFailed _ _ s
    · exact .refl s
  case h_4 => exact .refl s

/-- The contest is lost, and the message stays in its slot. -/
theorem keeps_lineLost (s : State) :
    Keeps s (s.onBus fun b => { b with sending := none, arbLosses := s.sendCount b.arbLosses }) where
  counters h := by
    rw [countersBounded_iff] at h ⊢
    obtain ⟨h₁, h₂, h₃, h₄, h₅⟩ := h
    exact ⟨h₁, h₂, h₃, sendCount_le _ h₄, h₅⟩
  slots := fun ⟨_, h⟩ => ⟨fun t ht => (by cases ht), h⟩

theorem keeps_loseArbitration (s : State) : Keeps s (loseArbitration s) := by
  unfold loseArbitration
  split
  · rename_i t _
    refine .ite (fun _ => .refl s) fun _ => .ite (fun _ => ?_) fun _ => keeps_lineLost s
    exact (keeps_freeLine t.slot s.bus.spoiled (s.sendCount s.bus.arbLosses) s (hl := fun h => sendCount_le _ h)).trans
      (keeps_afterRemoval _ _)
  · exact .refl s

theorem keeps_winArbitration (s : State) : Keeps s (winArbitration s) where
  slots := slots_of_lists (hl := by
    unfold State.lineMsg winArbitration
    cases h : s.bus.sending <;> simp [State.onBus, h])

theorem slot_of_waiting {c : SlotId × OutMsg} (h : c ∈ s.waiting) : s.slot c.1 = some c.2 := by
  obtain ⟨i, _, hi⟩ := List.mem_filterMap.mp h
  obtain ⟨m, hm, rfl⟩ := Option.map_eq_some_iff.mp hi
  exact hm

/-- The lower class of two is one of them. -/
theorem lowerClass_mem {b : Option (SlotId × OutMsg)} {c d : SlotId × OutMsg} (h : lowerClass b c = some d) :
    d = c ∨ b = some d := by
  unfold lowerClass at h
  split at h
  · exact .inl (Option.some.inj h).symm
  · split at h
    · exact .inl (Option.some.inj h).symm
    · exact .inr h

theorem foldl_lowerClass_mem {d : SlotId × OutMsg} : ∀ {l : List (SlotId × OutMsg)} {b : Option (SlotId × OutMsg)},
    l.foldl lowerClass b = some d → d ∈ l ∨ b = some d
  | [], _, h => .inr h
  | c :: l, b, h => by
    rcases foldl_lowerClass_mem (l := l) h with hm | hb
    · exact .inl (List.mem_cons_of_mem _ hm)
    · rcases lowerClass_mem hb with rfl | hb
      · exact .inl List.mem_cons_self
      · exact .inr hb

/-- What the next idle line takes waits in its slot. -/
theorem slot_of_nextToSend {c : SlotId × OutMsg} (h : s.nextToSend = some c) : s.slot c.1 = some c.2 := by
  unfold State.nextToSend at h
  split at h
  · exact slot_of_waiting ((foldl_lowerClass_mem h).resolve_right (by simp))
  · split at h
    · split at h
      · rename_i hs
        cases h
        exact hs
      · cases h
    · cases h

/-- LINE_IDLE leaves the line idle where nothing is sent on it. -/
theorem holds_startSend (s : State) : Holds s (startSend s) := by
  unfold startSend
  split
  · rename_i c hc
    refine { slots := fun ⟨_, h⟩ => ⟨fun t ht => ?_, h⟩ }
    cases ht
    exact slot_of_nextToSend hc
  · exact {}
  · exact {}

theorem startSend_idle (s : State) :
    (startSend s).bus.idle = if s.bus.sending = none then (startSend s).bus.sending.isNone else s.bus.idle := by
  unfold startSend
  split
  · rename_i c hs _
    rw [if_pos hs]
    rfl
  · rename_i hs _
    rw [if_pos hs, onBus_bus]
    simp [hs]
  · rename_i hs
    rw [if_neg (by rw [hs]; exact fun h => by cases h)]

end

/-! What replies, samples, timers and reset keep. -/

section
variable {s u v : State}

/-! ## The settings read and reset -/

theorem keeps_settingsRead (r : SettingsRead) (s : State) : Keeps s (settingsRead r s) := by
  unfold settingsRead
  refine .ifThen ?_
  dsimp only
  exact .ite (fun _ => Keeps.trans (u := s.setSettings _ _) {} (keeps_censusStart _)) fun _ => {}

theorem Shelf.sound_reset : Shelf.reset.Sound := ⟨by decide, by decide, fun w hw => (by cases hw)⟩

section
variable (n : Station) (store : List Byte) (m : List Host.Cell) (p : List Instr)

theorem countersBounded_resetWith : CountersBounded (State.resetWith n m store p) :=
  countersBounded_iff.mpr (by simp [State.resetWith, BusPort.reset, Sampler.reset, ResyncEngine.reset, Announcer.reset,
    RequestUnit.reset, MirrorUnit.reset])

theorem queueSound_resetWith : QueueSound (State.resetWith n m store p) ∧ PagesSound (State.resetWith n m store p) :=
  ⟨⟨Nat.zero_le _, List.nodup_nil⟩, List.nodup_nil, fun q hq => (by cases hq)⟩

theorem slotsSound_resetWith :
    LineFromSlot (State.resetWith n m store p) ∧ SlotsHoldOwnKinds (State.resetWith n m store p) :=
  ⟨fun t ht => (by cases ht), fun i x h => (by cases i <;> cases h), fun x h => (by cases h), fun x h => (by cases h),
    fun x h => (by cases h)⟩

end

/-- The values at reset satisfy every invariant, with the buffer and the queue of commands as they were. -/
theorem holds_resetWith (n : Station) (s : State) :
    Holds s (State.resetWith n s.buffer s.mirror.blockStore s.pending) where
  counters _ := countersBounded_resetWith _ _ _ _
  power _ := ⟨rfl, rfl⟩
  shelf _ := Shelf.sound_reset
  queue _ := queueSound_resetWith _ _ _ _
  slots _ := slotsSound_resetWith _ _ _ _

theorem holds_assertReset (s : State) : Holds s s.assertReset :=
  (holds_resetWith s.station s).trans {}

/-! ## Replies of the drive lane -/

theorem keeps_freeLane (s : State) : Keeps s (freeLane s) := {}

theorem keeps_endDeferral (s : State) : Keeps s (endDeferral s) := .ifThen (keeps_applyPower s)

theorem keeps_exhaustDeferral (s : State) : Keeps s (exhaustDeferral s) := .ifThen (keeps_giveUpDeferral _ s)

theorem keeps_readyLine (s : State) : Keeps s (readyLine s) := .ifThen {}

theorem keeps_readyLineMissing (s : State) : Keeps s (readyLineMissing s) := .ifThen (keeps_enterFault _ s)

theorem keeps_identified (h : s.drive.state = .spinUp) (size : BlockNo) : Keeps s (identified size s) := by
  have hu : Keeps s (s.onDrive fun d => { d with usable := size - BitVec.ofNat 32 Config.reservedBlocks }) := {}
  exact .ite (fun _ => keeps_enterFault _ s) fun _ => .ite (fun _ => hu.trans (keeps_enterReady h))
    fun _ => .ite (fun _ => keeps_enterReady h) fun _ => keeps_enterFault _ s

theorem keeps_identifyReply (r : IdentifyReply) (s : State) : Keeps s (identifyReply r s) := by
  unfold identifyReply
  split
  · rename_i h
    cases r with
    | ok size => exact (keeps_freeLane s).trans (keeps_identified (s := freeLane s) h.2 size)
    | mediaError => exact (keeps_freeLane s).trans (keeps_enterFault _ _)
  · exact .refl s

theorem keeps_driveReply (r : LaneReply) (s : State) : Keeps s (driveReply r s) := by
  unfold driveReply
  split
  · split
    · exact (keeps_freeLane s).trans (keeps_entryReply _ r _)
    · exact .refl s
  · exact .refl s

theorem keeps_commandTimeout (s : State) : Keeps s (commandTimeout s) := by
  unfold commandTimeout
  split
  · exact .ite (fun _ => .ifThen (keeps_finishSpinDown s)) fun _ => .ifThen (keeps_enterFault _ s)
  · exact .refl s

theorem ready_of_idleOver (h : s.idleOver = true) : s.drive.state = .ready := by
  unfold State.idleOver at h
  split at h
  · simp only [Bool.and_eq_true, State.idleRuns, beq_iff_eq] at h
    obtain ⟨_, h⟩ := h
    simp_all
  · cases h

theorem keeps_idleLimitReached (s : State) : Keeps s (idleLimitReached s) :=
  .ite (fun h => keeps_enterSpinDown (ready_of_idleOver h)) fun _ => .refl s

theorem keeps_spinDownSyncReply (r : SyncEnd) (s : State) : Keeps s (spinDownSyncReply r s) := by
  unfold spinDownSyncReply
  split
  · exact .ifThen (keeps_finishSpinDown s)
  · exact .refl s

theorem keeps_recordLoaded (r : LaneReply) (s : State) : Keeps s (recordLoaded r s) := by
  unfold recordLoaded
  split
  · exact .ifThen ((keeps_freeLane s).trans {})
  · exact .refl s

theorem keeps_completeOpening (f : RecordFields) (s : State) : Keeps s (completeOpening f s) := by
  unfold completeOpening
  refine Keeps.trans (Keeps.trans (u := s.onMirror fun m =>
    { m with role := f.role, epoch := f.epoch, regionSize := f.regionSize, dirty := f.dirty, behind := m.notedBehind
             behindAnnounced := m.behindAnnounced && (m.behind || !m.notedBehind) }) {} (keeps_judgeLink _)) ?_
  dsimp only
  split
  · exact .ifThen ((keeps_roleTest _ _ _).trans (keeps_rejoinTest _ _ _ _))
  · exact .refl _

theorem keeps_countRecordError (s : State) :
    Keeps s (s.onMirror fun m => { m with recordErrors := satInc m.recordErrors }) where
  counters h := by
    rw [countersBounded_iff] at h ⊢
    obtain ⟨h₁, h₂, h₃, h₄, h₅, h₆, h₇, h₈, h₉⟩ := h
    exact ⟨h₁, h₂, h₃, h₄, h₅, h₆, h₇, h₈, satInc_le h₉⟩

theorem keeps_recordWritten (f : RecordFields) (r : LaneReply) (s : State) : Keeps s (recordWritten f r s) := by
  unfold recordWritten
  refine Keeps.trans (Keeps.trans ?_ (keeps_callForQueued _)) (keeps_callForMissed _ _)
  cases r with
  | ok _ => exact {}
  | mediaError _ _ =>
    exact (keeps_countRecordError s).trans
      (u := s.onMirror fun m => { m with recordErrors := satInc m.recordErrors })
      (v := s.onMirror fun m => { m with cond := .opened, recordErrors := satInc m.recordErrors }) {}

theorem keeps_recordWriteReply (r : LaneReply) (s : State) : Keeps s (recordWriteReply r s) := by
  unfold recordWriteReply
  split
  · split
    · rename_i f _ _
      dsimp only
      have hw : Keeps s (recordWritten f r (freeLane s)) := (keeps_freeLane s).trans (keeps_recordWritten f r _)
      refine Keeps.trans (hw.trans ?_) (.ifThen {})
      split
      · exact .ifThen (keeps_completeOpening _ _)
      · exact .refl _
    · exact .refl s
  · exact .refl s

theorem keeps_endPromotion (st : Status) (s : State) : Keeps s (endPromotion st s) := by
  unfold endPromotion
  split
  · exact .trans (u := s.onMirror fun m => { m with promotion := none }) {} (keeps_endEntry _ _ _)
  · exact .refl s

theorem keeps_promote (f : RecordFields) (s : State) : Keeps s (promote f s) :=
  .trans (.trans (u := s.onMirror fun m => { m with image := some f, cond := .opened }) {} (keeps_changeRole _ _ _ _ _))
    (keeps_endPromotion _ _)

theorem keeps_promotionWriteReply (r : LaneReply) (s : State) : Keeps s (promotionWriteReply r s) := by
  unfold promotionWriteReply
  split
  · split
    · split
      · exact (keeps_freeLane s).trans (keeps_promote _ _)
      · exact ((keeps_freeLane s).trans (keeps_countRecordError _)).trans (keeps_endPromotion _ _)
    · exact .refl s
  · exact .refl s

theorem keeps_chunkRead (r : LaneReply) (s : State) : Keeps s (chunkRead r s) := by
  unfold chunkRead
  split
  · rename_i c hc
    have hb : Keeps s ((freeLane s).onBuffer fun m => writePages m c.pages (readBlocks c.start r)) :=
      (keeps_freeLane s).trans (keeps_onBuffer _ _ (memWf_writePages _ _ _))
    dsimp only
    split
    · exact hb.trans (keeps_onChunk (s := State.onBuffer _ (freeLane s)) hc fun e =>
        { e with chunk := some { c with step := .send, sendPos := none }, tagCounter := e.tagCounter + 1, ready := true })
    · exact hb.trans (keeps_chunkDone _)
  · exact keeps_freeLane s

theorem keeps_chunkReadReply (r : LaneReply) (s : State) : Keeps s (chunkReadReply r s) := by
  unfold chunkReadReply
  split
  · split
    · exact keeps_chunkRead r s
    · exact ((keeps_freeLane s).trans (keeps_onBuffer _ _ (memWf_writePages _ _ _))).trans (keeps_freeOrphans _)
    · exact .refl s
  · exact .refl s

/-! ## Samples and trips -/

theorem testHot_trips (x : Sampler) (c : Option Settings) (ch : Fin 6) (n : Nat) : (x.testHot c ch n).trips = x.trips := by
  unfold Sampler.testHot
  split
  · split <;> rfl
  · rfl

theorem convert_trips (x : Sampler) (n : Nat) : (x.convert n).trips = x.trips := by
  unfold Sampler.convert
  split <;> rfl

theorem keeps_onSupply (f : Sampler → Sampler) (s : State) (hf : (f s.supply).trips = s.supply.trips) :
    Keeps s (s.onSupply f) where
  counters h := by
    rw [countersBounded_iff] at h ⊢
    obtain ⟨h₁, h₂, h₃, h₄, h₅, h₆⟩ := h
    exact ⟨h₁, h₂, h₃, h₄, hf.trans_le h₅, h₆⟩

theorem keeps_converted (n : BitVec 10) (s : State) : Keeps s (converted n s) :=
  keeps_onSupply _ s (by rw [testHot_trips, convert_trips])

theorem keeps_countTrip (s : State) : Keeps s (s.onSupply fun x => { x with trips := satInc x.trips }) where
  counters h := by
    rw [countersBounded_iff] at h ⊢
    obtain ⟨h₁, h₂, h₃, h₄, h₅, h₆⟩ := h
    exact ⟨h₁, h₂, h₃, h₄, satInc_le h₅, h₆⟩

theorem keeps_tripped (s : State) : Keeps s (tripped s) := (keeps_countTrip s).trans (keeps_enterFault _ _)

theorem keeps_overThreshold (s : State) : Keeps s (overThreshold s) := .ite (fun _ => keeps_tripped s) fun _ => {}

theorem keeps_comparatorOver (s : State) : Keeps s (comparatorOver s) := .ifThen (keeps_overThreshold s)

theorem keeps_switchHoldEnd (n : Nat) (s : State) : Keeps s (switchHoldEnd n s) :=
  .ifThen (.trans (u := s.onComp fun c => { c with hold := false }) {} (.ifThen (keeps_overThreshold _)))

theorem keeps_tripNow (s : State) : Keeps s (tripNow s) := .ifThen (keeps_tripped s)

/-! ## Timers -/

theorem keeps_advance (s : State) : Keeps s s.advance := .ite (fun _ => {}) fun _ => {}

theorem keeps_announceExpired (s : State) : Keeps s (announceExpired s) := .ifThen (keeps_placeAwake s)

theorem keeps_tableExpired (s : State) : Keeps s (tableExpired s) :=
  .ifThen (.trans (u := s.onClaim fun c => { c with tableTimer := none }) {} (keeps_readyQuery _))

theorem keeps_claimHoldEnded (s : State) : Keeps s (claimHoldEnded s) := .ifThen {}

theorem keeps_dataExpired (k : Key) (s : State) : Keeps s (dataExpired k s) := by
  unfold dataExpired
  split
  · exact .ifThen (keeps_endWork _ s _)
  · exact .refl s

theorem keeps_ageExpired (k : Key) (s : State) : Keeps s (ageExpired k s) := by
  unfold ageExpired
  split
  · exact .ifThen (keeps_endWork _ s _)
  · exact .refl s

theorem keeps_pieceRetry (k : Key) (s : State) : Keeps s (pieceRetry k s) := by
  unfold pieceRetry
  split
  · exact .ifThen (keeps_onEntryOut k _ _ s)
  · exact .refl s

theorem keeps_mirrorWaitExpired (k : Key) (s : State) : Keeps s (mirrorWaitExpired k s) := by
  unfold mirrorWaitExpired
  split
  · refine .ifThen (Keeps.trans ?_ (keeps_endEntry _ _ _))
    split
    · exact keeps_markExtent _ s
    · exact .refl s
  · exact .refl s

theorem keeps_replyWaitOver (s : State) : Keeps s (replyWaitOver s) := .ifThen (keeps_stopResync _ s)

theorem keeps_resyncHoldEnded (s : State) : Keeps s (resyncHoldEnded s) := .ifThen (keeps_onEngine _ s)

theorem keeps_wakeIntervalOver (s : State) : Keeps s (wakeIntervalOver s) := .ifThen {}

theorem keeps_sleepHoldEnded (s : State) : Keeps s (sleepHoldEnded s) := .ifThen (keeps_onWatch _ s rfl)

theorem keeps_takeHoldEnded (s : State) : Keeps s (takeHoldEnded s) := .ifThen (keeps_onWatch _ s rfl)

theorem keeps_termExpired (s : State) : Keeps s (termExpired s) := .ifThen (keeps_onWatch _ s rfl)

theorem keeps_passChecked (s : State) : Keeps s (passChecked s) :=
  .ifThen ((keeps_onWatch _ s rfl).trans (keeps_passCheckNow _))

theorem keeps_absenceHoldEnded (n : Station) (s : State) : Keeps s (absenceHoldEnded n s) := .ifThen (keeps_onMarks _ _ s)

theorem keeps_wakingExpired (n : Station) (s : State) : Keeps s (wakingExpired n s) := .ifThen (keeps_onMarks _ _ s)

theorem keeps_wakeAgain (n : Station) (s : State) : Keeps s (wakeAgain n s) := .ifThen (keeps_watchReady rfl s)

theorem keeps_proxyExpired (n : Station) (k : Key) (s : State) : Keeps s (proxyExpired n k s) := by
  unfold proxyExpired
  split
  · exact .ifThen (keeps_proxyLimit _ s)
  · exact .refl s

theorem keeps_forwardRetryOver (n : Station) (k : Key) (s : State) : Keeps s (forwardRetryOver n k s) := by
  unfold forwardRetryOver
  split
  · split
    · exact .ifThen (keeps_sendForward _ s)
    all_goals exact .refl s
  · exact .refl s

end

/-! What every command keeps, and with it every step. -/

section
variable {s t : State} {c : Instr} {f : State → State}

/-- What a command makes of the line's idleness (R2). -/
structure LineAfter (c : Instr) (s t : State) : Prop where
  carried : carriesMessage c = true → t.bus.idle = false
  started : c = .lineIdle → s.bus.sending = none → t.bus.idle = t.bus.sending.isNone
  left : carriesMessage c = false → c ≠ .lineIdle ∨ s.bus.sending ≠ none → t.bus.idle = s.bus.idle

/-- Command `c` answers the next state `t`, which satisfies every invariant that `s` does; while reset is asserted, it does
so by changing nothing. -/
structure Answers (c : Instr) (s t : State) : Prop where
  next : exec c s = .next t
  holds : Holds s t
  still : s.resetAsserted = true → c ≠ .resetAssert → (∀ p, c ≠ .resetRelease p) → t = s
  line : s.resetAsserted = false → c ≠ .resetAssert → LineAfter c s t

theorem sending_isNone_settle (b s : State) : (settle b s).bus.sending.isNone = s.bus.sending.isNone := by
  have h := congrArg Steady.line (steady_settle (s := s) b)
  simp only [State.steady] at h
  simpa using congrArg Option.isNone h

/-- A command whose meaning is an event. -/
theorem answers_event (hc : exec c s = takeEvent f s) (h : Holds s (f s))
    (hl : LineAfter c s (settle s (f s))) : ∃ t, Answers c s t := by
  refine ⟨event f s, hc, ?_, fun hr _ _ => event_reset f hr, fun hr _ => event_eq f hr ▸ hl⟩
  by_cases hr : s.resetAsserted = true
  · rw [event_reset f hr]
    exact (Keeps.refl s).toHolds
  · rw [event_eq f (by simpa using hr)]
    exact h.trans (keeps_settle s _).toHolds

theorem answers_keeps (h : Keeps s (f s)) (hc : exec c s = takeEvent f s := by rfl)
    (hm : carriesMessage c = false := by rfl) (hn : c ≠ .lineIdle := by nofun) : ∃ t, Answers c s t :=
  answers_event hc h.toHolds
    { carried := fun hcm => by rw [hm] at hcm; cases hcm
      started := fun hi => absurd hi hn
      left := fun _ _ => (keeps_settle s _).idle.trans h.idle }

theorem answers_received (h : Received s (f s)) (hc : exec c s = takeEvent f s := by rfl)
    (hm : carriesMessage c = true := by rfl) (hn : c ≠ .lineIdle := by nofun) : ∃ t, Answers c s t :=
  answers_event hc h.toHolds
    { carried := fun _ => (keeps_settle s _).idle.trans h.idle
      started := fun hi => absurd hi hn
      left := fun hcm => by rw [hm] at hcm; cases hcm }

theorem answers_lineIdle (s : State) : ∃ t, Answers .lineIdle s t :=
  answers_event rfl (holds_startSend s)
    { carried := nofun
      started := fun _ hs => by
        rw [(keeps_settle s _).idle, startSend_idle, if_pos hs, sending_isNone_settle]
      left := fun _ hs => by
        rw [(keeps_settle s _).idle, startSend_idle, if_neg (hs.resolve_left (by simp))] }

/-- What a command that leaves everything else leaves of the line. -/
theorem answers_tickAdvance (s : State) : ∃ t, Answers .tickAdvance s t := by
  refine ⟨_, rfl, ?_, fun hr _ _ => if_pos hr, fun hr _ => ?_⟩
  · exact (Keeps.ite (fun _ => .refl s) fun _ => keeps_advance s).toHolds
  · rw [if_neg (by simp [hr])]
    exact { carried := nofun, started := nofun, left := fun _ _ => (keeps_advance s).idle }

theorem answers_resetRelease (p : BitVec 4) (s : State) : ∃ t, Answers (.resetRelease p) s t := by
  refine ⟨_, rfl, ?_, fun _ _ h => absurd rfl (h p), fun hr _ => ?_⟩
  · split
    · exact holds_resetWith _ s
    · exact (Keeps.refl s).toHolds
  · rw [if_neg (by simp [hr])]
    exact { carried := nofun, started := nofun, left := fun _ _ => rfl }

theorem answers_resetAssert (s : State) : ∃ t, Answers .resetAssert s t :=
  ⟨_, rfl, holds_assertReset s, fun _ h => absurd rfl h, fun _ h => absurd rfl h⟩

/-- What every command answers. -/
theorem answers_exec (c : Instr) (s : State) : ∃ t, Answers c s t := by
  cases c with
  | resetAssert => exact answers_resetAssert s
  | resetRelease p => exact answers_resetRelease p s
  | settingsReadDone r => exact answers_keeps (keeps_settingsRead r s)
  | lineIdle => exact answers_lineIdle s
  | arbitrationLost => exact answers_keeps (keeps_loseArbitration s)
  | arbitrationWon => exact answers_keeps (keeps_winArbitration s)
  | sendSpoiled => exact answers_keeps (keeps_finishSend _ _ s)
  | sendOutcome a o => exact answers_keeps (keeps_finishSend _ _ s)
  | checkError f => exact answers_received (received_checkFailed f s)
  | fillErrorDrop => exact answers_received (received_answers .nothing s)
  | malformedDrop h => exact answers_received (received_answers .nothing s)
  | claimReceived o p a => exact answers_received (received_claim o p a s)
  | releaseReceived o p a => exact answers_received (received_release o p a s)
  | queryReceived o p a => exact answers_received (received_query o p a s)
  | tableReceived o p a => exact answers_received (received_table o p a s)
  | awakeReceived o p a => exact answers_received (received_awake o p a s)
  | asleepReceived o p a => exact answers_received (received_asleep o p a s)
  | wakeReceived o p a => exact answers_received (received_wake o p a s)
  | absentReceived o p a => exact answers_received (received_absent o p a s)
  | watchTakeReceived o p a => exact answers_received (received_watchTake o p a s)
  | watchPassReceived o n p a => exact answers_received (received_watchPass o n p a s)
  | doneReceived o n p a => exact answers_received (received_done o n p a s)
  | mirrorAckReceived o n p a => exact answers_received (received_mirrorAck o n p a s)
  | mirrorMissReceived o n p a => exact answers_received (received_mirrorMiss o n p a s)
  | resyncBeginReceived o n p a => exact answers_received (received_resyncBegin o n p a s)
  | resyncEndReceived o n p a => exact answers_received (received_resyncEnd o n p a s)
  | promoteReceived o n p a => exact answers_received (received_promote o n p a s)
  | readReceived o n p a => exact answers_received (received_read o n p a s)
  | writeReceived o n p a => exact answers_received (received_write o n p a s)
  | syncReceived o n p a => exact answers_received (received_sync o n p a s)
  | resyncWriteReceived o n p a => exact answers_received (received_resyncWrite o n p a s)
  | cancelReceived o n p a => exact answers_received (received_cancel o n p a s)
  | clearFaultReceived o n p a => exact answers_received (received_clearFault o n p a s)
  | probeReceived o n p a => exact answers_received (received_probe o n p a s)
  | forwardReceived o n p a => exact answers_received (received_forward o n p a s)
  | dataReceived o n p a => exact answers_received (received_data o n p a s)
  | reportReceived o n p a => exact answers_received (received_report o n p a s)
  | tableTimerExpiry => exact answers_keeps (keeps_tableExpired s)
  | announcementTimerExpiry => exact answers_keeps (keeps_announceExpired s)
  | claimHoldOffExpiry => exact answers_keeps (keeps_claimHoldEnded s)
  | deferralEnd => exact answers_keeps (keeps_endDeferral s)
  | deferralGiveUp => exact answers_keeps (keeps_exhaustDeferral s)
  | readyLineHigh => exact answers_keeps (keeps_readyLine s)
  | readyWaitExpiry => exact answers_keeps (keeps_readyLineMissing s)
  | identifyReply r => exact answers_keeps (keeps_identifyReply r s)
  | driveReply r => exact answers_keeps (keeps_driveReply r s)
  | commandTimeout => exact answers_keeps (keeps_commandTimeout s)
  | idleLimit => exact answers_keeps (keeps_idleLimitReached s)
  | spinDownSyncReply r => exact answers_keeps (keeps_spinDownSyncReply r s)
  | recordLoadReply r => exact answers_keeps (keeps_recordLoaded r s)
  | recordWriteReply r => exact answers_keeps (keeps_recordWriteReply r s)
  | promotionWriteReply r => exact answers_keeps (keeps_promotionWriteReply r s)
  | chunkPagesTaken => exact answers_keeps (keeps_takePages s)
  | chunkReadReply r => exact answers_keeps (keeps_chunkReadReply r s)
  | resyncRetryWaitEnd => exact answers_keeps (f := fun s => retryRejoin (retryResync s)) <|
      ((keeps_retryResync s).trans (keeps_retryRejoin _))
  | replyWaitExpiry => exact answers_keeps (keeps_replyWaitOver s)
  | resyncHoldOffExpiry => exact answers_keeps (keeps_resyncHoldEnded s)
  | resyncWakeIntervalExpiry => exact answers_keeps (keeps_wakeIntervalOver s)
  | conversionDone n => exact answers_keeps (keeps_converted n s)
  | comparatorOver => exact answers_keeps (keeps_comparatorOver s)
  | excursionFiltered => exact answers_keeps (f := fun s => s.onComp fun c => { c with counting := false }) {}
  | switchHoldEnd n => exact answers_keeps (keeps_switchHoldEnd n s)
  | trip => exact answers_keeps (keeps_tripNow s)
  | dataTimeout k => exact answers_keeps (keeps_dataExpired k s)
  | ageLimit k => exact answers_keeps (keeps_ageExpired k s)
  | dataRetryWaitEnd k => exact answers_keeps (keeps_pieceRetry k s)
  | mirrorWaitTimeout k => exact answers_keeps (keeps_mirrorWaitExpired k s)
  | asleepPlaced => exact answers_keeps (keeps_followSleep s)
  | sleepRetryHoldExpiry => exact answers_keeps (keeps_sleepHoldEnded s)
  | watchTakeTest => exact answers_keeps (keeps_followTakeTest s)
  | takeHoldOffExpiry => exact answers_keeps (keeps_takeHoldEnded s)
  | termTimerExpiry => exact answers_keeps (keeps_termExpired s)
  | passCheck => exact answers_keeps (keeps_passChecked s)
  | absenceTest => exact answers_keeps (keeps_declareAbsences s)
  | absenceHoldExpiry n => exact answers_keeps (keeps_absenceHoldEnded n s)
  | wakingMarkExpiry n => exact answers_keeps (keeps_wakingExpired n s)
  | wakeRepeat n => exact answers_keeps (keeps_wakeAgain n s)
  | proxyTimeout n k => exact answers_keeps (keeps_proxyExpired n k s)
  | forwardRetry n k => exact answers_keeps (keeps_forwardRetryOver n k s)
  | tickAdvance => exact answers_tickAdvance s

/-- The invariants that hold of a state hold of the state after a command. -/
theorem holds_exec (h : exec c s = .next t) : Holds s t := by
  obtain ⟨u, hu⟩ := answers_exec c s
  cases hu.next.symm.trans h
  exact hu.holds

/-- A step is a command on the rest of the queue, or nothing. -/
theorem preserves_step (h : step s = .next t) : Preserves s t := by
  cases hp : s.pending with
  | nil =>
    by_cases hs : s.startsAtOnce = true
    · rw [step_starts hp hs] at h
      exact (holds_exec h).toPreserves
    · rw [step_idle hp (by simpa using hs)] at h
      cases h
      exact (Keeps.refl s).toPreserves
  | cons c rest =>
    rw [step_front c rest hp] at h
    exact { (holds_exec h).toPreserves with }

end

/-! ## The obligations -/

/-- Settles O2. -/
theorem everyCommandAnswersANextState : Obligations.EveryCommandAnswersANextState := by
  refine ⟨fun c s => ?_, fun c s hr h₁ h₂ => ?_⟩ <;> obtain ⟨t, ht⟩ := answers_exec c s
  · exact ⟨t, ht.next, ht.holds.pending⟩
  · rw [ht.next, ht.still hr h₁ h₂]

/-- Settles O1. -/
theorem stepRunsFrontCommand : Obligations.StepRunsFrontCommand := by
  refine ⟨fun c rest s => rfl, fun s hp => ⟨fun h => step_idle hp ?_, fun hi hs hn => step_starts hp ?_⟩⟩
  · rw [State.startsAtOnce]
    rcases h with h | h | h
    · simp [h]
    · simp [h]
    · simp [h]
  · simp [State.startsAtOnce, hi, hs, Option.isSome_iff_ne_none, hn]

theorem freePages_resetWith (n : Station) (m : List Host.Cell) (store : List Byte) (p : List Instr) :
    (State.resetWith n m store p).freePages = List.range 256 :=
  List.filter_eq_self.mpr fun _ _ => rfl

/-- Settles O3. -/
theorem resetLeavesItsValues : Obligations.ResetLeavesItsValues := by
  refine ⟨fun s => ⟨s.assertReset, rfl, ?_⟩, fun p s hr => ⟨_, rfl, ?_⟩⟩
  · simp only [State.assertReset, State.resetWith]
    trivial
  · rw [if_pos hr]
    simp only [freePages_resetWith]
    simp only [State.resetWith, WatchUnit.reset, Sampler.reset, Shelf.reset, Fin.getElem_fin, Vector.getElem_replicate]
    and_intros <;> intros <;> trivial

/-- Settles O4. -/
theorem invariantsHoldAtReset : Obligations.InvariantsHoldAtReset :=
  ⟨rfl, countersBounded_resetWith _ _ _ _, ⟨rfl, rfl⟩, Shelf.sound_reset.1, Shelf.sound_reset.2,
    (queueSound_resetWith _ _ _ _).1, (queueSound_resetWith _ _ _ _).2, (slotsSound_resetWith _ _ _ _).1,
    (slotsSound_resetWith _ _ _ _).2⟩

/-- Settles O39. -/
theorem ticksCount : Obligations.TicksCount := by
  have hn : ∀ s : State, s.resetAsserted = false → exec .tickAdvance s = .next s.advance := fun s hr =>
    congrArg _ (if_neg (by simp [hr]))
  refine fun s => ⟨fun hr ht => ?_, fun hr ht => ?_, fun hr => congrArg _ (if_pos hr)⟩
  · exact (hn s hr).trans (congrArg _ (if_neg ht))
  · exact (hn s hr).trans (congrArg _ (if_pos ht))

/-- Settles O53: no operation writes the buffer but by pages. -/
theorem everyStepKeepsTheBufferCanonical : Obligations.EveryStepKeepsTheBufferCanonical :=
  fun _ _ h => (preserves_step h).buffer

/-- Settles O54: a counter moves by the saturating increase alone. -/
theorem everyStepKeepsCountersBounded : Obligations.EveryStepKeepsCountersBounded :=
  fun _ _ h => (preserves_step h).counters

/-- Settles O55. -/
theorem everyStepKeepsPowerWithTheDriveState : Obligations.EveryStepKeepsPowerWithTheDriveState :=
  fun _ _ h => (preserves_step h).power

/-- Settles O56. -/
theorem everyStepKeepsTheShelfSound : Obligations.EveryStepKeepsTheShelfSound :=
  fun _ _ h h₁ h₂ => (preserves_step h).shelf ⟨h₁, h₂⟩

/-- Settles O57. -/
theorem everyStepKeepsTheQueueSound : Obligations.EveryStepKeepsTheQueueSound :=
  fun _ _ h h₁ h₂ => (preserves_step h).queue ⟨h₁, h₂⟩

/-- Settles O58. -/
theorem everyStepKeepsTheSlotsSound : Obligations.EveryStepKeepsTheSlotsSound :=
  fun _ _ h h₁ h₂ => (preserves_step h).slots ⟨h₁, h₂⟩

/-! Rules about events, timers and lengths that the commands share, and the commands that only these decide: holds that end,
the contest for the line, messages dropped. -/

section
variable {s : State} {c : Instr} {f : State → State}

/-! ## Events -/

/-- An event whose effect is known. -/
theorem exec_event {u : State} (hr : s.resetAsserted = false) (hc : exec c s = takeEvent f s) (hf : f s = u) :
    exec c s = .next (settle s u) := by rw [hc, takeEvent_eq f hr, hf]

theorem does_event {k : Steady} {P : State → Prop} {u : State} (hr : s.resetAsserted = false)
    (hc : exec c s = takeEvent f s) (hf : f s = u) (hk : u.steady = k) (hP : P u) : Does c s k P :=
  ⟨u, exec_event hr hc hf, hk, hP⟩

theorem leaves_event {k : Steady} {u : State} (hr : s.resetAsserted = false) (hc : exec c s = takeEvent f s)
    (hf : f s = u) (hk : u.steady = k) : Leaves c s k :=
  ⟨settle s u, exec_event hr hc hf, by rw [steady_settle, hk]⟩

/-! ## Timers (R26) -/

theorem ended_iff {now : Tick} {h : Option Tick} :
    ended now h = true ↔ ∃ t, h = some t ∧ (now - t).toNat < 2147483648 := by
  cases h with
  | none => simp [ended]
  | some t =>
    simp only [ended, reached, elapsed, Option.some.injEq, exists_eq_left']
    exact decide_eq_true_iff

theorem expired_iff {now : Tick} {n : Nat} {h : Option Tick} :
    expired now n h = true ↔ ∃ t, h = some t ∧ n ≤ (now - t).toNat := by
  cases h with
  | none => simp [expired]
  | some t =>
    simp only [expired, elapsed, Option.some.injEq, exists_eq_left']
    exact decide_eq_true_iff

theorem expired_some {now t : Tick} {n : Nat} : expired now n (some t) = true ↔ n ≤ (now - t).toNat :=
  decide_eq_true_iff

/-- A QUERY made ready waits in the list or in the slot. -/
theorem readyQuery_pending (s : State) : (readyQuery s).budgetPending isQuery = true := by
  unfold readyQuery
  split
  · assumption
  · simp [State.budgetPending, budgetReady, isQuery]

@[simp] theorem steady_readyQuery (s : State) : (readyQuery s).steady = s.steady := by
  unfold readyQuery
  split
  · rfl
  · exact steady_budgetReady s _

end

/-- Settles O40. -/
theorem holdsEnd : Obligations.HoldsEnd := by
  intro s hr due ran
  have hdue : ∀ {h}, due h → ended s.tick h = true := ended_iff.mpr
  have hnot : ∀ {h}, ¬ due h → ¬ ended s.tick h = true := mt ended_iff.mp
  have hran : ∀ {n h}, ran n h → expired s.tick n h = true := expired_iff.mpr
  have hnran : ∀ {n h}, ¬ ran n h → ¬ expired s.tick n h = true := mt expired_iff.mp
  refine ⟨fun h => ?_, fun h => ?_, fun h => ?_, fun h => ?_, fun h => ?_, fun h => ?_, fun h => ?_, fun h => ?_,
    fun h => ?_, fun h => ?_, fun h => ?_, fun h => ?_, fun n => ⟨fun h => ?_, fun h => ?_, fun h => ?_, fun h => ?_⟩⟩
  · exact leaves_event hr rfl (if_pos (hdue h)) rfl
  · exact idles_of claimHoldEnded hr rfl (if_neg (hnot h))
  · exact leaves_event hr rfl (if_pos (hdue h)) rfl
  · exact idles_of sleepHoldEnded hr rfl (if_neg (hnot h))
  · exact leaves_event hr rfl (if_pos (hdue h)) rfl
  · exact idles_of takeHoldEnded hr rfl (if_neg (hnot h))
  · exact leaves_event hr rfl (if_pos (hdue h)) rfl
  · exact idles_of resyncHoldEnded hr rfl (if_neg (hnot h))
  · exact leaves_event hr rfl (if_pos (hran h)) rfl
  · exact idles_of wakeIntervalOver hr rfl (if_neg (hnran h))
  · exact does_event hr rfl (if_pos (hran h)) (steady_readyQuery _) (readyQuery_pending _)
  · exact idles_of tableExpired hr rfl (if_neg (hnran h))
  · exact does_event hr rfl (if_pos (hdue h)) (steady_onMarks _ _) rfl
  · exact idles_of (absenceHoldEnded n) hr rfl (if_neg (hnot h))
  · exact does_event hr rfl (if_pos (hran h)) (steady_onMarks _ _) rfl
  · exact idles_of (wakingExpired n) hr rfl (if_neg (hnran h))

/-! ## The contest for the line (R5, R19) -/

section
variable {s : State}

theorem bus_forwardFailed (e : ProxyEntry) (next : ProxyState) (s : State) : (forwardFailed e next s).bus = s.bus := by
  unfold forwardFailed
  (repeat' split) <;> rfl

@[simp] theorem steady_onProxy (n : Station) (k : Key) (f : ProxyEntry → ProxyEntry) (s : State) :
    (onProxy n k f s).steady = s.steady := rfl

@[simp] theorem steady_sendForward (e : ProxyEntry) (s : State) : (sendForward e s).steady = s.steady := rfl

@[simp] theorem steady_forwardFailed (e : ProxyEntry) (next : ProxyState) (s : State) :
    (forwardFailed e next s).steady = s.steady := by
  unfold forwardFailed
  (repeat' split) <;> rfl

/-- The owner of a message that is taken off the line works on its own lists alone. -/
theorem bus_afterRemoval (m : OutMsg) (s : State) : (afterRemoval m s).bus = s.bus := by
  unfold afterRemoval
  split
  case h_1 => unfold claimRemoved; dsimp only; (repeat' split) <;> rfl
  case h_2 => unfold settleRemoved; split <;> rfl
  case h_3 =>
    split
    · exact bus_forwardFailed _ _ s
    · rfl
  case h_4 => rfl

theorem steady_afterRemoval (m : OutMsg) (s : State) : (afterRemoval m s).steady = s.steady := by
  unfold afterRemoval
  split
  case h_1 => exact steady_claimRemoved s
  case h_2 => exact steady_settleRemoved s
  case h_3 =>
    split
    · exact steady_forwardFailed _ _ s
    · rfl
  case h_4 => rfl

/-- The steady part once the line is lost: the loss counts, where the station counts. -/
theorem steady_lineLost (i : SlotId) (s : State) :
    ((s.onBus fun b => { b with sending := none, arbLosses := s.sendCount b.arbLosses }).putSlot i none).steady =
      { s.steady with line := none, counters := s.sent 3 } := by
  unfold State.sendCount State.sent
  split <;> rfl

end

/-- Settles O7. -/
theorem arbitrationLostOrWon : Obligations.ArbitrationLostOrWon := by
  refine fun s x hr hx => ⟨fun hw hn => ?_, fun hw hh => ?_, ?_⟩
  · refine exec_event hr rfl ?_
    simp only [loseArbitration, hx, hw, hn]
    rfl
  · refine does_event (f := loseArbitration) hr rfl (by simp only [loseArbitration, hx, hw, hh]; rfl)
      ((steady_afterRemoval _ _).trans (steady_lineLost _ _)) ?_
    rw [State.slot, bus_afterRemoval]
    exact slot_putSlot _ _ _
  · refine exec_event (f := winArbitration) hr rfl ?_
    simp only [winArbitration, State.onBus, hx]
    rfl

/-- R125: a SECONDARY that misses something of its partner's is behind. -/
theorem behind_setBehind {s : State} (h : s.mirror.role = .secondary) : (setBehind s).mirror.behind = true := by
  unfold setBehind
  split
  · rfl
  · rename_i hn
    simpa [h] using hn

/-! ## Messages dropped (R3, R7, R8, R9, R23) -/

/-- Settles O15. -/
theorem damagedMessages : Obligations.DamagedMessages := by
  refine ⟨fun s f ht hm hf => ?_, fun s f hr ht => ?_, fun s h hr => ⟨?_, ?_⟩⟩
  · have hc : s.takesPart ∧ headerMalformed f.header = false ∧ f.check ≠ frameCheck f.header f.payload := ⟨ht, hm, hf⟩
    refine does_event (notReset_of_takesPart ht) rfl (if_pos hc) ?_ fun hl hrole => ?_
    · dsimp only
      split
      · exact steady_setBehind _
      · rfl
    · dsimp only
      rw [if_pos (by exact hl)]
      exact behind_setBehind hrole
  · refine leaves_event hr rfl (if_neg (by simp [ht])) rfl
  · exact exec_event hr rfl rfl
  · exact exec_event hr rfl rfl

/-- A station that hears nothing only releases its answer bits. -/
theorem exec_deaf {s : State} {c : Instr} {α : Type} {inForce : Answer → Bool} {o : Station} {body : Option α}
    {judge : α → State → Answer × State} {effect : α → Answer → State → State} (hr : s.resetAsserted = false)
    (h : s.takesPart = false ∨ o = s.station) (hc : exec c s = takeEvent (hear inForce o body judge effect) s) :
    exec c s = .next (settle s { s with bus := { s.bus with answer := .nothing, idle := false } }) :=
  exec_event hr hc (hear_deaf h)

/-- R164: at a station that takes part a WAKE is heard as any broadcast. -/
theorem exec_wake {s : State} (o : Station) (p : List Byte) (a : AnswerSlot) (hp : s.power ≠ .sleeping) :
    exec (.wakeReceived o p a) s = takeEvent (hear (broadcastInForce · a) o (parseWake p) unanswered
      fun mask _ s => if a.ack then markWaking mask s else s) s := by
  simp only [exec, execWakeReceived, takeEvent, event, hearWake, if_neg hp]

/-- R176: at a station that takes part a PROBE is heard as any targeted message. -/
theorem exec_probe {s : State} (o t : Station) (p : List Byte) (a : AnswerSlot) (hp : s.power ≠ .unset) :
    exec (.probeReceived o t p a) s = takeEvent (hear (targetedInForce · a) o (parseProbe p) (probeAnswer o t)
      (probeInForce o t)) s := by
  simp only [exec, execProbeReceived, takeEvent, event, hearProbe, if_neg hp]

/-- Settles O16. -/
theorem unheardMessagesChangeNothing : Obligations.UnheardMessagesChangeNothing := by
  intro s o t p a hr h c hc hwake hprobe
  simp only [List.mem_cons, List.not_mem_nil, or_false] at hc
  rcases hc with rfl | rfl | rfl | rfl | rfl | rfl | rfl | rfl | rfl | rfl | rfl | rfl | rfl | rfl | rfl | rfl | rfl | rfl |
    rfl | rfl | rfl | rfl | rfl | rfl | rfl | rfl
  case inr.inr.inr.inr.inr.inr.inl => exact exec_deaf hr h (exec_wake o p a (hwake rfl))
  case inr.inr.inr.inr.inr.inr.inr.inr.inr.inr.inr.inr.inr.inr.inr.inr.inr.inr.inr.inr.inr.inr.inl =>
    exact exec_deaf hr h (exec_probe o t p a (hprobe rfl))
  all_goals exact exec_deaf hr h rfl

/-! Payloads whose length does not fit, and the broadcasts that the shelf's tables take. -/

/-! ## Lengths of payloads (R3) -/

section
variable {p : List Byte}

theorem parseEmpty_none (h : p.length ≠ 0) : parseEmpty p = none := by
  unfold parseEmpty
  split
  · exact absurd rfl h
  · rfl

theorem parseClaim_none (h : p.length ≠ 1) : parseClaim p = none := by
  unfold parseClaim
  split
  · exact absurd rfl h
  · rfl

theorem parseAbsent_none {o : Station} (h : p.length ≠ 1) : parseAbsent o p = none := by
  unfold parseAbsent
  split
  · exact absurd rfl h
  · rfl

theorem parseTag_none (h : p.length ≠ 1) : parseTag p = none := by
  unfold parseTag
  split
  · exact absurd rfl h
  · rfl

theorem parseWake_none (h : p.length ≠ 2) : parseWake p = none := by
  unfold parseWake
  split
  · exact absurd rfl h
  · rfl

theorem parseResyncEnd_none (h : p.length ≠ 2) : parseResyncEnd p = none := by
  unfold parseResyncEnd
  split
  · exact absurd rfl h
  · rfl

theorem parseProbe_none (h : p.length ≠ 2) : parseProbe p = none := by
  unfold parseProbe
  split
  · exact absurd rfl h
  · rfl

theorem parseResyncBegin_none (h : p.length ≠ 3) : parseResyncBegin p = none := by
  unfold parseResyncBegin
  split
  · exact absurd rfl h
  · rfl

theorem parseMirrorAck_none (h : p.length ≠ 6) : parseMirrorAck p = none := by
  unfold parseMirrorAck
  split
  · exact absurd rfl h
  · rfl

theorem parseExtent_none (h : p.length ≠ 6) : parseExtent p = none := by
  unfold parseExtent
  split
  · exact absurd rfl h
  · rfl

theorem parseMirrorMiss_none (h : p.length ≠ 7) : parseMirrorMiss p = none := by
  unfold parseMirrorMiss
  split
  · exact absurd rfl h
  · rfl

theorem parseAwake_none (h : p.length ≠ 13) : parseAwake p = none := by
  unfold parseAwake
  split
  · exact absurd rfl h
  · rfl

theorem parseData_none (h : p.length ≠ 515) : parseData p = none := by
  unfold parseData
  split
  · split
    · rw [if_neg]
      intro hl
      simp only [Bool.and_eq_true, decide_eq_true_eq] at hl
      exact h (by simp [hl.1])
    · rfl
  · rfl

theorem parseDone_none (h₄ : p.length ≠ 4) (h₅ : p.length ≠ 5) : parseDone p = none := by
  unfold parseDone
  split
  · split
    · split
      · split
        · exact absurd rfl h₄
        · exact absurd rfl h₅
        · rfl
      · rfl
    · rfl
  · rfl

theorem parseForward_none {n : Station} (h₄ : p.length ≠ 4) (h₈ : p.length ≠ 8) : parseForward n p = none := by
  unfold parseForward
  split
  · exact absurd rfl h₈
  · exact absurd rfl h₄
  · rfl

theorem parseTable_none {o : Station} (h : p.length ≠ 20 + 2 * (p.getD 19 0).toNat) : parseTable o p = none := by
  unfold parseTable
  dsimp only
  split
  · rw [if_neg]
    intro hl
    simp only [Bool.and_eq_true, decide_eq_true_eq] at hl
    exact h hl.1.1.1.1.1.1.1
  · rfl

end

/-- A malformed message only releases the station's answer bits. -/
theorem exec_malformed {s : State} {c : Instr} {α : Type} {inForce : Answer → Bool} {o : Station} {body : Option α}
    {judge : α → State → Answer × State} {effect : α → Answer → State → State} (ht : s.takesPart = true)
    (hb : body = none) (hc : exec c s = takeEvent (hear inForce o body judge effect) s) :
    exec c s = .next (settle s { s with bus := { s.bus with answer := .nothing, idle := false } }) :=
  exec_event (notReset_of_takesPart ht) hc (hear_malformed hb)

theorem power_of_takesPart {s : State} (ht : s.takesPart = true) : s.power ≠ .sleeping ∧ s.power ≠ .unset := by
  constructor <;> intro hp <;> simp [State.takesPart, hp] at ht

/-- Settles O17. -/
theorem payloadsOfWrongLengthApplyNothing : Obligations.PayloadsOfWrongLengthApplyNothing := by
  intro s o t p a ht c hc
  obtain ⟨hs, hu⟩ := power_of_takesPart ht
  simp only [List.mem_cons, List.not_mem_nil, or_false] at hc
  rcases hc with ⟨h, hc⟩ | ⟨h, hc⟩ | ⟨h, hc⟩ | ⟨h, rfl⟩ | ⟨h, hc⟩ | ⟨h, rfl⟩ | ⟨h, rfl⟩ | ⟨h, rfl⟩ | ⟨h, h', rfl⟩ |
    ⟨h, h', rfl⟩ | ⟨h, rfl⟩
  case inl => rcases hc with rfl | rfl | rfl | rfl <;> exact exec_malformed ht (parseEmpty_none h) rfl
  case inr.inl =>
    rcases hc with rfl | rfl | rfl | rfl | rfl | rfl
    · exact exec_malformed ht (parseClaim_none h) rfl
    · exact exec_malformed ht (parseAbsent_none h) rfl
    all_goals exact exec_malformed ht (parseTag_none h) rfl
  case inr.inr.inl =>
    rcases hc with rfl | rfl | rfl | rfl
    · exact exec_malformed ht (parseRelease_malformed (.inl h)) rfl
    · exact exec_malformed ht (parseWake_none h) (exec_wake o p a hs)
    · exact exec_malformed ht (parseResyncEnd_none h) rfl
    · exact exec_malformed ht (parseProbe_none h) (exec_probe o t p a hu)
  · exact exec_malformed ht (parseResyncBegin_none h) rfl
  · rcases hc with rfl | rfl | rfl | rfl
    · exact exec_malformed ht (parseMirrorAck_none h) rfl
    all_goals exact exec_malformed ht (parseExtent_none h) rfl
  · exact exec_malformed ht (parseMirrorMiss_none h) rfl
  · exact exec_malformed ht (parseAwake_none h) rfl
  · exact exec_malformed ht (parseData_none h) rfl
  · exact exec_malformed ht (parseDone_none h h') rfl
  · exact exec_malformed ht (parseForward_none h h') rfl
  · exact exec_malformed ht (parseTable_none h) rfl

/-! Outcomes of own messages, and the budget unit: CLAIM, RELEASE and QUERY received and sent, and the ASLEEP of the station. -/

/-! ## Outcomes -/

section
variable {s : State} {x : Sending} {k : Steady} {P : State → Prop}

/-- The line after a spoiled transmission, which counts (R6). -/
def State.lineSpoiled (i : SlotId) (s : State) : State :=
  (s.onBus fun b => { b with sending := none, spoiled := s.sendCount b.spoiled }).putSlot i none

@[simp] theorem steady_lineSpoiled (i : SlotId) :
    (s.lineSpoiled i).steady = { s.steady with line := none, counters := s.sent 2 } := by
  unfold State.lineSpoiled State.sendCount State.sent
  split <;> rfl

/-- R16: SEND_OUTCOME hands the outcome to the owner, with the slot empty. -/
theorem does_sendOutcome {a o : Bool} (hr : s.resetAsserted = false) (hx : s.bus.sending = some x) (hw : x.won = true)
    {u : State} (hu : sendDone x (outcomeOf x.msg a o) (s.lineFreed x.slot) = u) (hk : u.steady = k) (hP : P u) :
    Does (.sendOutcome a o) s k P :=
  does_event hr rfl ((finishSend_won hx hw fun m => outcomeOf m a o).trans hu) hk hP

theorem finishSend_spoiled (hx : s.bus.sending = some x) (hw : x.won = true) :
    finishSend (fun _ => .spoiled) true s = sendDone x .spoiled (s.lineSpoiled x.slot) := by
  simp only [finishSend, hx, hw, if_true]
  rfl

/-- R6: SEND_SPOILED does the same with the outcome SPOILED. -/
theorem does_sendSpoiled (hr : s.resetAsserted = false) (hx : s.bus.sending = some x) (hw : x.won = true)
    {u : State} (hu : sendDone x .spoiled (s.lineSpoiled x.slot) = u) (hk : u.steady = k) (hP : P u) :
    Does .sendSpoiled s k P :=
  does_event hr rfl ((finishSend_spoiled hx hw).trans hu) hk hP

theorem came_of_failed {o : SendOutcome} : ((∃ a, o = .objected a) ∨ o = .spoiled) → o.came = false := by
  rintro (⟨a, rfl⟩ | rfl) <;> rfl

/-- The two ways in which a broadcast fails: an objection, and a spoiled transmission. `u` is what its owner makes of it. -/
theorem fails_of {a : Bool} {k : Steady → Steady} {u : State → State} (hr : s.resetAsserted = false)
    (hx : s.bus.sending = some x) (hw : x.won = true) (hd : x.msg.dest = none)
    (hu : ∀ o, (∃ a, o = .objected a) ∨ o = .spoiled → ∀ v, sendDone x o v = u v)
    (hk : ∀ v, (u v).steady = k v.steady) (h₁ : P (u (s.lineFreed x.slot))) (h₂ : P (u (s.lineSpoiled x.slot))) :
    Does (.sendOutcome a true) s (k { s.steady with line := none }) P
      ∧ Does .sendSpoiled s (k { s.steady with line := none, counters := s.sent 2 }) P := by
  have ho : outcomeOf x.msg a true = .objected a := by simp [outcomeOf, hd]
  exact ⟨does_sendOutcome hr hx hw (by rw [ho]; exact hu _ (.inl ⟨a, rfl⟩) _) (by rw [hk, steady_lineFreed]) h₁,
    does_sendSpoiled hr hx hw (hu _ (.inr rfl) _) (by rw [hk, steady_lineSpoiled]) h₂⟩

end

/-! ## CLAIM received (R46, R47) -/

section
variable {x : Shelf} {n : Station} {u : Nat}

theorem decide_holder (h : x.holdings[n] ≠ 0) : x.decide n u = (.untouched, x) := if_pos h

theorem decide_overBudget (h : x.holdings[n] = 0) (hu : x.budget < u) : x.decide n u = (.refused, x) := by
  rw [Shelf.decide, if_neg (not_not.mpr h), if_pos hu]

theorem decide_admitted (h : x.holdings[n] = 0) (hu : u ≤ x.budget) (ha : x.admits n u = true) : x.decide n u =
    (.admitted, { x with holdings := x.holdings.set n u, waiters := x.waiters.filter fun w => w.station != n }) := by
  rw [Shelf.decide, if_neg (not_not.mpr h), if_neg (Nat.not_lt.mpr hu), if_pos ha]

theorem decide_listed (h : x.holdings[n] = 0) (hu : u ≤ x.budget) (ha : x.admits n u = false) : x.decide n u =
    (.refused, { x with
      waiters :=
        if x.waits n then x.waiters.map fun w => if w.station = n then { w with units := u } else w
        else x.waiters ++ [⟨n, u⟩] }) := by
  rw [Shelf.decide, if_neg (not_not.mpr h), if_neg (Nat.not_lt.mpr hu), if_neg (by simp [ha])]
  split <;> rfl

/-- R46 read with free units as a difference. -/
theorem admits_eq (x : Shelf) (n : Station) (u : Nat) : x.admits n u =
    match x.waiters with
    | [] => decide ((u : Int) ≤ (x.budget : Int) - (sumOf x.holdings : Int))
    | head :: _ =>
      if head.station = n then decide ((u : Int) ≤ (x.budget : Int) - (sumOf x.holdings : Int))
      else decide ((u : Int) ≤ (x.budget : Int) - (sumOf x.holdings : Int) - (head.units : Int)) := by
  unfold Shelf.admits
  cases x.waiters with
  | nil =>
    refine decide_eq_decide.mpr ?_
    omega
  | cons head _ =>
    dsimp only
    split
    · refine decide_eq_decide.mpr ?_
      omega
    · refine decide_eq_decide.mpr ?_
      omega

end

theorem parseClaim_byte {n : Byte} (h : n ≠ 0) : parseClaim [n] = some n.toNat := if_neg h

/-- Settles O18. -/
theorem claimIsDecidedAgainstFreeUnits : Obligations.ClaimIsDecidedAgainstFreeUnits := by
  intro s o n a ht ho hn free fits
  have hr := notReset_of_takesPart ht
  have hfits : fits = s.shelf.admits o n.toNat := (admits_eq s.shelf o n.toNat).symm
  refine ⟨fun ha => ?_, fun ha => ?_, exec_malformed ht rfl rfl⟩
  · refine leaves_of (hearClaim o [n] a) hr rfl ?_
    refine (steady_hear_onShelf (d := .acknowledge) ht ho (parseClaim_byte hn) rfl nofun
      (by rw [broadcastInForce_taken, ha]; rfl)).trans ?_
    rw [hfits]
    by_cases h₀ : s.shelf.holdings[o] = 0
    · by_cases hb : n.toNat ≤ s.shelf.budget
      · rw [if_neg (not_or.mpr ⟨not_not.mpr h₀, Nat.not_lt.mpr hb⟩)]
        cases hadm : s.shelf.admits o n.toNat with
        | true => rw [decide_admitted h₀ hb hadm]; rfl
        | false =>
          rw [decide_listed h₀ hb hadm, if_neg Bool.false_ne_true]
          split <;> rfl
      · rw [decide_overBudget h₀ (Nat.lt_of_not_le hb), if_pos (.inr (Nat.lt_of_not_le hb))]
    · rw [decide_holder h₀, if_pos (.inl h₀)]
  · exact leaves_of (hearClaim o [n] a) hr rfl
      (steady_hear_notInForce (d := .acknowledge) ht ho (parseClaim_byte hn) rfl nofun
        (by rw [broadcastInForce_taken, ha]; rfl))

/-! The station's own RELEASE, QUERY and ASLEEP. -/

/-! ## A message of another station that comes into force, and one that does not -/

section
variable {s t : State} {α : Type} {inForce : Answer → Bool} {o : Station} {body : Option α}
  {judge : α → State → Answer × State} {effect : α → Answer → State → State} {x : α} {d : Answer}

theorem hear_inForce (ht : s.takesPart = true) (ho : o ≠ s.station) (hb : body = some x) (hj : judge x s = (d, t))
    (hf : inForce d = true) : hear inForce o body judge effect s = effect x d (heard o (t.answers d)) := by
  rw [hear_some ht ho hb, hj, if_pos hf]

theorem hear_notInForce (ht : s.takesPart = true) (ho : o ≠ s.station) (hb : body = some x) (hj : judge x s = (d, t))
    (hf : inForce d = false) : hear inForce o body judge effect s = t.answers d := by
  rw [hear_some ht ho hb, hj, if_neg (by simp [hf])]

/-- The claim of a station that has heard a message is as it was. -/
@[simp] theorem claim_heard (o : Station) (s : State) : (heard o s).claim = s.claim := by rw [heard_frame]

theorem steady_answers_acknowledge (s : State) :
    (s.answers .acknowledge).steady = { s.steady with answer := .acknowledge } := rfl

theorem steady_answers_nothing (s : State) : (s.answers .nothing).steady = { s.steady with answer := .nothing } := rfl

theorem steady_heard_unanswered (o : Station) (s : State) :
    (heard o (s.answers .nothing)).steady = { s.steady with answer := .nothing, peers := s.heardFrom o } :=
  steady_heard_answers (d := .nothing) o nofun

end

/-! ## RELEASE sent (R62, R63) -/

section
variable {s : State} {x : Sending} {n : Nat} {w : Bool} {why : ReleaseWhy}

/-- A full RELEASE of `held` units is made ready. -/
def State.GivesAll (held : Nat) (s u : State) : Prop :=
  u.claim.state = .releasing ∧ u.claim.out = s.claim.out ++ [.release held false .full]

/-- R62, R63: what an own RELEASE in force makes of the own claim. -/
theorem ownReleaseOutcome_came (why : ReleaseWhy) (s : State) :
    let u := ownReleaseOutcome why true s
    (why = .settle → s.claim.state = .spinUnits → s.claim.fullWanted = false → u.claim.state = .runUnits)
    ∧ (why ≠ .settle → s.claim.state = .releasing → u.claim.state = .none)
    ∧ (why = .settle → s.claim.fullWanted = true → s.GivesAll s.ownHolding u) := by
  cases why with
  | settle =>
    refine ⟨fun _ hs hf => ?_, fun h => absurd rfl h, fun _ hf => ?_⟩
    · simp [ownReleaseOutcome, hs, hf, setClaim]
    · simp only [ownReleaseOutcome, hf]
      exact ⟨rfl, rfl⟩
  | full =>
    refine ⟨nofun, fun _ hs => ?_, nofun⟩
    simp [ownReleaseOutcome, hs, setClaim]
  | giveUp =>
    refine ⟨nofun, fun _ hs => ?_, nofun⟩
    simp [ownReleaseOutcome, hs, setClaim]

/-- R62, R63: one that came into force nowhere goes again. -/
theorem ownReleaseOutcome_failed (why : ReleaseWhy) (s : State) :
    let u := ownReleaseOutcome why false s
    (why = .settle → s.claim.state = .spinUnits → s.claim.fullWanted = false →
      u.claim.state = .spinUnits ∧ u.claim.out = s.claim.out ++ [.release (s.spinCost - s.runCost) false .settle])
    ∧ (why = .settle → s.claim.fullWanted = true → s.GivesAll s.ownHolding u)
    ∧ (why = .full → s.claim.state = .releasing → s.GivesAll s.ownHolding u)
    ∧ (why = .giveUp → s.claim.state = .releasing →
      u.claim.state = .releasing ∧ u.claim.out = s.claim.out ++ [.release 0 true .giveUp]) := by
  cases why with
  | settle =>
    refine ⟨fun _ hs hf => ?_, fun _ hf => ?_, nofun, nofun⟩
    · simp [ownReleaseOutcome, hs, hf, budgetReady]
    · simp only [ownReleaseOutcome, hf]
      exact ⟨rfl, rfl⟩
  | full =>
    refine ⟨nofun, nofun, fun _ hs => ?_, nofun⟩
    simp only [ownReleaseOutcome, hs]
    exact ⟨rfl, rfl⟩
  | giveUp =>
    refine ⟨nofun, nofun, nofun, fun _ hs => ?_⟩
    simp only [ownReleaseOutcome, hs]
    exact ⟨rfl, rfl⟩

theorem ownHolding_release (s : State) (n : Nat) (w : Bool) :
    (s.onShelf fun y => y.release s.station n w).ownHolding = s.ownHolding - n := Vector.getElem_set_self _

theorem sendDone_release (hm : x.msg = .release n w why) (o : SendOutcome) (s : State) :
    sendDone x o s = releaseOutcome n w why o s := by simp only [sendDone, hm]

/-- A failed RELEASE leaves the tables. -/
theorem sendDone_release_failed (hm : x.msg = .release n w why) {o : SendOutcome} (ho : o.came = false) (s : State) :
    sendDone x o s = ownReleaseOutcome why false s := by
  rw [sendDone_release hm, releaseOutcome, ho]
  rfl

end

/-- Settles O10. -/
theorem ownReleaseLowersAndIsRepeated : Obligations.OwnReleaseLowersAndIsRepeated := by
  intro s x n w why a hr hx hw hm gives again
  have hd : x.msg.dest = none := by rw [hm]; rfl
  refine ⟨does_sendOutcome hr hx hw (sendDone_release hm _ _) ?_ ?_, ?_⟩
  · rw [hm]
    exact (steady_ownReleaseOutcome _ _ _).trans rfl
  · rw [hm]
    obtain ⟨h₁, h₂, h₃⟩ := ownReleaseOutcome_came why ((s.lineFreed x.slot).onShelf fun y => y.release s.station n w)
    refine ⟨h₁, h₂, fun hs hf => ?_⟩
    have hn : ((s.lineFreed x.slot).onShelf fun y => y.release s.station n w).ownHolding = s.ownHolding - n :=
      ownHolding_release _ n w
    have h := h₃ hs hf
    rw [hn] at h
    exact h
  · exact fails_of (k := id) (u := ownReleaseOutcome why false) hr hx hw hd
      (fun _ ho => sendDone_release_failed hm (came_of_failed ho)) (steady_ownReleaseOutcome · why false)
      (ownReleaseOutcome_failed why (s.lineFreed x.slot)) (ownReleaseOutcome_failed why (s.lineSpoiled x.slot))

/-! QUERY, the census, and the station's own ASLEEP. -/

section
variable {s : State} {x : Sending}

/-! ## QUERY (R52, R53) -/

theorem readyTable_pending (q : Station) (s : State) : (readyTable q s).budgetPending (isTableFor q) = true := by
  unfold readyTable
  split
  · assumption
  · simp [State.budgetPending, budgetReady, isTableFor]

@[simp] theorem steady_readyTable (q : Station) (s : State) : (readyTable q s).steady = s.steady := by
  unfold readyTable
  split
  · rfl
  · exact steady_budgetReady s _

@[simp] theorem steady_enterListening (s : State) :
    (enterListening s).steady = { s.steady with power := .listening, listeningSince := s.tick } :=
  steady_placeAwake _

theorem queryAnswer_complete (h : s.shelf.census = .complete) : queryAnswer () s = (.acknowledge, s) := by
  simp [queryAnswer, h]

theorem queryAnswer_incomplete (h : s.shelf.census = .incomplete) : queryAnswer () s = (.nothing, s) := by
  simp [queryAnswer, h]

theorem sendDone_query (hm : x.msg = .query) (o : SendOutcome) {s : State} (h : s.shelf.census = .incomplete) :
    sendDone x o s =
      match o with
      | .inForce false => completeCensus s
      | .inForce true => s.onClaim fun c => { c with tableTimer := some s.tick }
      | .objected _ | .spoiled => readyQuery s
      | .taken | .busy | .unanswered => s := by
  simp only [sendDone, hm, queryOutcome, h]
  rfl

end

/-- Settles O11. -/
theorem queryAndItsOutcome : Obligations.QueryAndItsOutcome := by
  refine ⟨fun s o a ht ho => ?_, fun s x hr hx hw hm hc => ?_⟩
  · have hr := notReset_of_takesPart ht
    refine ⟨fun hc ha => ?_, fun hc ha => ?_, fun hc => ?_⟩
    · refine does_event hr rfl (hear_inForce ht ho rfl (queryAnswer_complete hc) ?_) ?_ (readyTable_pending _ _)
      · rw [broadcastInForce_taken, ha]; rfl
      · exact (steady_readyTable _ _).trans (steady_heard_acknowledged o s)
    · refine leaves_event hr rfl (hear_notInForce ht ho rfl (queryAnswer_complete hc) ?_) (steady_answers_acknowledge s)
      rw [broadcastInForce_taken, ha]; rfl
    · cases ha : a.obj with
      | true =>
        exact does_event hr rfl (hear_notInForce ht ho rfl (queryAnswer_incomplete hc) (by simp [broadcastInForce, ha]))
          (steady_answers_nothing s) rfl
      | false =>
        exact does_event hr rfl (hear_inForce ht ho rfl (queryAnswer_incomplete hc) (by simp [broadcastInForce, ha]))
          (steady_heard_unanswered o s) (claim_heard o _)
  · have hq : ∀ o, sendDone x o (s.lineFreed x.slot) = _ := fun o => sendDone_query hm o hc
    refine ⟨leaves_sendOutcome hr hx hw ?_, leaves_sendOutcome hr hx hw ?_, fun a => ?_, ?_⟩
    · rw [hm, hq]
      exact steady_enterListening _
    · rw [hm, hq]
      rfl
    · exact does_sendOutcome hr hx hw (by rw [hm, hq]; rfl) (steady_readyQuery _) (readyQuery_pending _)
    · exact does_sendSpoiled hr hx hw (sendDone_query hm .spoiled hc)
        ((steady_readyQuery _).trans (steady_lineSpoiled _)) (readyQuery_pending _)

/-! ## ASLEEP sent (R163) -/

section
variable {s : State} {x : Sending}

theorem steady_sleepBudget (s : State) : (sleepBudget s).steady = { s.steady with tableTimer := none } := rfl

theorem steady_sleepMirror (s : State) :
    (sleepMirror s).steady =
      { s.steady with partnerBehind := false, wakeInterval := none, resyncHoldOff := none } := by
  have h : (sleepMirror s).steady =
    { (stopResync false s).steady with partnerBehind := false, wakeInterval := none, resyncHoldOff := none } := rfl
  rw [h, steady_stopResync]

theorem steady_enterSleeping (s : State) :
    (enterSleeping s).steady =
      { s.steady with
        power := .sleeping, line := none, tableTimer := none, partnerBehind := false, wakeInterval := none
        resyncHoldOff := none, listeningSince := 0, sleepRetry := none, takeHold := none } := by
  have h : ∀ v : State,
      ((((v.onBus fun b => { b with slots := .empty, sending := none }).onAnnounce fun a =>
        { a with timer := none, again := false }).onDrive fun d => { d with need := false }).onWatch
          fun _ => .reset).steady =
      { v.steady with line := none, listeningSince := 0, sleepRetry := none, takeHold := none } := fun _ => rfl
  unfold enterSleeping
  refine (congrArg (fun k : Steady => { k with power := .sleeping }) (h _)).trans ?_
  rw [steady_sleepMirror, steady_sleepBudget]

/-- R21, R44, R161, R163: what the units hold when the station has entered SLEEPING. -/
structure Asleep (u : State) : Prop where
  power : u.power = .sleeping
  slots : u.bus.slots = .empty
  claim : u.claim.state = .none
  claimOut : u.claim.out = []
  mirrorOut : u.mirror.out = []
  watch : u.watch = .reset
  engine : u.engine.state = .idle
  timer : u.announce.timer = none
  need : u.drive.need = false

theorem asleep_enterSleeping (s : State) : Asleep (enterSleeping s) := by
  obtain ⟨hf, hi, _⟩ := stopResync_spec (sleepBudget s)
  have hclaim : (stopResync false (sleepBudget s)).claim = (sleepBudget s).claim := by rw [hf]
  exact {
    power := rfl
    slots := rfl
    claim := congrArg ClaimUnit.state hclaim
    claimOut := congrArg ClaimUnit.out hclaim
    mirrorOut := rfl
    watch := rfl
    engine := hi
    timer := rfl
    need := rfl }

/-- A SLEEPING station does nothing after an event (R9). -/
theorem settle_sleeping (b : State) (h : s.power = .sleeping) : settle b s = s := by
  simp [settle, State.takesPart, h]

theorem sendDone_asleep (hm : x.msg = .asleep) (o : SendOutcome) (s : State) : sendDone x o s = asleepOutcome o s := by
  simp only [sendDone, hm]

theorem clearStation_eq (s : State) (n : Station) : s.shelf.clearStation n = s.cleared n := rfl

end

/-- Settles O12. -/
theorem asleepInForcePutsTheStationToSleep : Obligations.AsleepInForcePutsTheStationToSleep := by
  intro s x a hr hx hw hm
  have hd : x.msg.dest = none := by rw [hm]; rfl
  obtain ⟨h₁, h₂⟩ := fails_of (a := a) (P := fun _ => True)
    (k := fun k => { k with sleepRetry := some (k.tick + 100#32) })
    (u := fun v => v.onWatch fun w => { w with sleepRetry := some (tickAfter v.tick Config.holdTicks) }) hr hx hw hd
    (fun o ho v => by rw [sendDone_asleep hm, asleepOutcome, came_of_failed ho]; rfl) (fun _ => rfl) trivial trivial
  refine ⟨?_, leaves_of_does h₁, leaves_of_does h₂⟩
  have hs := asleep_enterSleeping ((s.lineFreed x.slot).onShelf fun y => y.clearStation s.station)
  refine ⟨_, ?_, ?_, hs.slots, hs.claim, hs.claimOut, hs.mirrorOut, ?_, ?_, hs.engine, hs.timer, hs.need⟩
  · refine (exec_event (u := enterSleeping ((s.lineFreed x.slot).onShelf fun y => y.clearStation s.station)) hr rfl ?_).trans
      (congrArg _ (settle_sleeping s hs.power))
    rw [finishSend_won hx hw, sendDone_asleep hm, hm]
    rfl
  · rw [steady_enterSleeping]
    rfl
  · rw [hs.watch]; rfl
  · rw [hs.watch]; rfl

/-! The settings read (R174, R175). -/

section
variable {n : Station} {b : List Byte}

/-- A field of the settings block. -/
def field (b : List Byte) (i : Nat) : Nat := (b.getD i 0).toNat

theorem field_lt (b : List Byte) (i : Nat) : field b i < 256 := (b.getD i 0).isLt

theorem within_iff {lo hi i : Nat} : within lo hi (b.getD i 0) = true ↔ lo ≤ field b i ∧ field b i ≤ hi := by
  simp [within, field]

/-- The bounds of R174. -/
def FieldsGood (n : Station) (x : Nat → Nat) : Prop :=
  1 ≤ x 1 ∧ 1 ≤ x 2 ∧ x 2 ≤ 127 ∧ 1 ≤ x 3 ∧ x 3 ≤ x 2 ∧ x 4 ≤ 2 ∧ (x 4 ≠ 0 → x 5 ≤ 15 ∧ x 5 ≠ n.val) ∧ x 6 ≤ 1
    ∧ 1 ≤ x 7 ∧ 1 ≤ x 9 ∧ x 9 ≤ 24 ∧ x 12 ≤ 15 ∧ 30 ≤ x 13 ∧ x 13 ≤ 80

/-- The settings that a block within the bounds gives. -/
def settingsOf (b : List Byte) (mode : Role) : Settings :=
  { budget := field b 1, spinCost := field b 2, runCost := field b 3, mode := mode, partner := b.getD 5 0
    freshPair := field b 6 = 1, idleLimit := field b 7, sleepDelay := field b 8, watchTerm := field b 9
    runTrip := field b 10, spinTrip := field b 11, filterWidth := field b 12, tempLimit := field b 13
    wakeThreshold := field b 14 }

/-- The test of R175 that follows length, marker and check, for a mode that the mode byte names. -/
theorem testSettings_mode {mode : Role} (hl : b.length = 16) (hm : b.getD 0 0 = 0xE5)
    (hs : (b.map (·.toNat)).sum % 256 = 0xA5) (hr : Role.ofCode (field b 4) = some mode) {ok : Bool}
    (hok : ok = true ↔ FieldsGood n (field b)) (hmode : mode ≠ .notLoaded ↔ field b 4 ≤ 2)
    (hsingle : mode = .single ↔ field b 4 = 0) :
    testSettings n (.bytes b) = if ok then (.good, some (settingsOf b mode)) else (.range, none) := by
  have hfresh : (b.getD 6 0 == 1) = decide (field b 6 = 1) := by
    rw [Bool.eq_iff_iff, beq_iff_eq, decide_eq_true_iff, field]
    bv_omega
  have hr' : Role.ofCode (b.getD 4 0).toNat = some mode := hr
  simp only [testSettings, hl, hm, hs, hr', ne_eq, not_true_eq_false, if_false, hfresh]
  refine if_congr ?_ rfl rfl
  have h1 := field_lt b 1
  have h7 := field_lt b 7
  have hpart : (b.getD 5 0).toNat = field b 5 := rfl
  have hspin : (b.getD 2 0).toNat = field b 2 := rfl
  rw [hok]
  simp only [Bool.and_eq_true, Bool.or_eq_true, within_iff, bne_iff_ne, beq_iff_eq, hmode, hsingle, hpart, hspin, FieldsGood]
  omega

/-- A block whose mode byte names no mode is out of range. -/
theorem testSettings_noMode (hl : b.length = 16) (hm : b.getD 0 0 = 0xE5) (hs : (b.map (·.toNat)).sum % 256 = 0xA5)
    (hr : Role.ofCode (field b 4) = none) : testSettings n (.bytes b) = (.range, none) := by
  have hr' : Role.ofCode (b.getD 4 0).toNat = none := hr
  simp only [testSettings, hl, hm, hs, hr', ne_eq, not_true_eq_false, if_false]

theorem testSettings_eq (hl : b.length = 16) (hm : b.getD 0 0 = 0xE5) (hs : (b.map (·.toNat)).sum % 256 = 0xA5)
    {ok : Bool} (hok : ok = true ↔ FieldsGood n (field b)) :
    testSettings n (.bytes b) =
      if ok then
        (.good, some (settingsOf b (if field b 4 = 0 then .single else if field b 4 = 1 then .primary else .secondary)))
      else (.range, none) := by
  have hno : ¬ field b 4 ≤ 2 → ok = false := fun h => by
    cases ok with
    | false => rfl
    | true => exact absurd (hok.mp rfl).2.2.2.2.2.1 h
  match hc : field b 4 with
  | 0 => exact testSettings_mode hl hm hs (by rw [hc]; rfl) hok (by simp [hc]) (by simp [hc])
  | 1 => exact testSettings_mode hl hm hs (by rw [hc]; rfl) hok (by simp [hc]) (by simp [hc])
  | 2 => exact testSettings_mode hl hm hs (by rw [hc]; rfl) hok (by simp [hc]) (by simp [hc])
  | 3 =>
    rw [testSettings_mode hl hm hs (mode := .notLoaded) (by rw [hc]; rfl) hok (by simp [hc]) (by simp [hc]),
      hno (by simp [hc])]
    rfl
  | k + 4 =>
    rw [testSettings_noMode hl hm hs (by rw [hc]; rfl), hno (by simp [hc])]
    rfl

end

theorem settings_of_notGood {n : Station} {r : SettingsRead} (h : (testSettings n r).1 ≠ .good) :
    (testSettings n r).2 = none := by
  unfold testSettings at h ⊢
  split
  · rfl
  · dsimp only at h ⊢
    (repeat' split) <;> simp_all

/-- R51: what a census begins with. -/
theorem steady_censusStart (s : State) :
    (censusStart s).steady =
      { s.steady with
        holdOff := none, tableTimer := none
        shelf := s.shelf.censusStart (match s.settings with | some c => c.budget | none => 0) } :=
  steady_readyQuery _

theorem settingsRead_eq {s : State} (r : SettingsRead) (hp : s.power = .starting) (hn : s.settingsResult = none) :
    settingsRead r s =
      if (testSettings s.station r).1 = .good then
        censusStart (s.setSettings (testSettings s.station r).1 (testSettings s.station r).2)
      else (s.setSettings (testSettings s.station r).1 (testSettings s.station r).2).setPower .unset :=
  if_pos ⟨hp, hn⟩

theorem claimState_readyQuery (s : State) : (readyQuery s).claim.state = s.claim.state := by
  unfold readyQuery
  split <;> rfl

theorem censusStart_claim (s : State) : (censusStart s).claim.state = .none :=
  claimState_readyQuery _

/-- Settles O5. -/
theorem settingsReadDecidesThePart : Obligations.SettingsReadDecidesThePart := by
  refine ⟨rfl, fun b hl => if_pos ⟨rfl, hl⟩, fun k b h => if_neg ?_, fun _ => rfl, fun n b hl hm => ?_,
    fun n b hl hm hs => ?_, fun n b hl hm hs => ?_, fun r s hr hp hn => ⟨fun ht => ?_, fun c ht => ?_⟩⟩
  · rintro ⟨hk, hl⟩
    exact h.elim (absurd hk) (absurd hl)
  · simp only [testSettings, hl, ne_eq, not_true_eq_false, if_false, if_pos hm]
  · simp only [testSettings, hl, hm, ne_eq, not_true_eq_false, if_false, if_pos hs]
  · exact fun ok hok => testSettings_eq hl hm hs hok
  · refine leaves_event hr rfl ((settingsRead_eq r hp hn).trans (if_neg ht)) ?_
    rw [settings_of_notGood ht]
    rfl
  · refine does_event hr rfl ((settingsRead_eq r hp hn).trans (if_pos (by rw [ht]))) ?_ ?_
    · rw [steady_censusStart, ht]
      rfl
    · exact ⟨censusStart_claim _, readyQuery_pending _⟩

/-! The message that an idle line takes (R2, R18). -/

section
variable {s : State} {c : SlotId × OutMsg}

/-- `c` goes before `d`: its class is lower, or equal and its slot is not the higher one. -/
def GoesBefore (c d : SlotId × OutMsg) : Prop :=
  classOfKind c.2.kind < classOfKind d.2.kind
    ∨ classOfKind c.2.kind = classOfKind d.2.kind ∧ c.1.number ≤ d.1.number

theorem lowerClass_stays {d : SlotId × OutMsg} (h : GoesBefore c d) : lowerClass (some c) d = some c :=
  if_neg (by rcases h with h | h <;> omega)

theorem lowerClass_takes {b : Option (SlotId × OutMsg)}
    (h : ∀ d, b = some d → classOfKind c.2.kind < classOfKind d.2.kind) : lowerClass b c = some c := by
  cases b with
  | none => rfl
  | some d => exact if_pos (h d rfl)

theorem foldl_lowerClass_stays : ∀ {l : List (SlotId × OutMsg)}, (∀ d ∈ l, GoesBefore c d) →
    l.foldl lowerClass (some c) = some c
  | [], _ => rfl
  | d :: l, h => by
    rw [List.foldl_cons, lowerClass_stays (h d List.mem_cons_self)]
    exact foldl_lowerClass_stays fun e he => h e (List.mem_cons_of_mem _ he)

/-- Of messages in slot order, the one that goes before every other is taken. -/
theorem foldl_lowerClass_least {l : List (SlotId × OutMsg)} (hl : l.Pairwise fun a b => a.1.number < b.1.number)
    (hc : c ∈ l) (h : ∀ d ∈ l, GoesBefore c d) : l.foldl lowerClass none = some c := by
  obtain ⟨a, b, rfl⟩ := List.append_of_mem hc
  have hafter : ∀ d ∈ a, d.1.number < c.1.number := fun d hd =>
    (List.pairwise_append.mp hl).2.2 d hd c List.mem_cons_self
  rw [List.foldl_append, List.foldl_cons, lowerClass_takes fun d hd => ?_]
  · exact foldl_lowerClass_stays fun d hd => h d (by simp [hd])
  · have hmem : d ∈ a := (foldl_lowerClass_mem hd).resolve_right (by simp)
    have hn := hafter d hmem
    rcases h d (by simp [hmem]) with hb | hb <;> omega

theorem waiting_ordered (s : State) : s.waiting.Pairwise fun a b => a.1.number < b.1.number := by
  refine List.pairwise_filterMap.mpr (List.Pairwise.imp ?_ (show
    [SlotId.budget, .presence, .watch, .request, .mirror, .resync].Pairwise fun i j => i.number < j.number by decide))
  intro i j hij x hx y hy
  obtain ⟨m, _, rfl⟩ := Option.map_eq_some_iff.mp hx
  obtain ⟨m', _, rfl⟩ := Option.map_eq_some_iff.mp hy
  exact hij

theorem mem_waiting {i : SlotId} {m : OutMsg} (h : s.slot i = some m) : (i, m) ∈ s.waiting :=
  List.mem_filterMap.mpr ⟨i, by cases i <;> decide, by rw [h]; rfl⟩

theorem startSend_some (hb : s.bus.sending = none) (hn : s.nextToSend = some c) :
    startSend s = { s with bus := { s.bus with
      sending := some { slot := c.1, msg := c.2, frame := s.frameFor c.2, won := false, withdrawal := .notAsked }
      idle := false } } := by
  unfold startSend
  rw [hb, hn]
  rfl

theorem startSend_none (hb : s.bus.sending = none) (hn : s.nextToSend = none) :
    startSend s = { s with bus := { s.bus with idle := true } } := by
  unfold startSend
  rw [hb, hn]
  rfl

theorem startSend_sending (hb : s.bus.sending ≠ none) : startSend s = s := by
  obtain ⟨x, hx⟩ := Option.ne_none_iff_exists'.mp hb
  unfold startSend
  rw [hx]

theorem leaves_startSend (hr : s.resetAsserted = false) (hb : s.bus.sending = none) (hn : s.nextToSend = some c) :
    Leaves .lineIdle s { s.steady with line := some (c.1, c.2, s.frameFor c.2, false) } :=
  leaves_event hr rfl (startSend_some hb hn) rfl

theorem does_startNothing (hr : s.resetAsserted = false) (hb : s.bus.sending = none) (hn : s.nextToSend = none) :
    Does .lineIdle s s.steady fun u => u = { s with bus := { s.bus with idle := true } } :=
  does_event hr rfl (startSend_none hb hn) rfl rfl

theorem nextToSend_takesPart (h : s.takesPart = true) : s.nextToSend = s.waiting.foldl lowerClass none := if_pos h

theorem frameFor_header (s : State) (m : OutMsg) : (s.frameFor m).header.origin.toNat = s.station.val
    ∧ (s.frameFor m).header.kind.toNat = m.kind ∧ (s.frameFor m).header.cls.toNat = classOfKind m.kind := by
  have hs := s.station.isLt
  refine ⟨?_, ?_, ?_⟩
  · simp only [State.frameFor, OutMsg.frame, OutMsg.header, BitVec.toNat_ofNat]
    exact Nat.mod_eq_of_lt hs
  · cases m <;> rfl
  · cases m <;> rfl

end

/-- Settles O6. -/
theorem idleLineTakesTheLowestMessage : Obligations.IdleLineTakesTheLowestMessage := by
  refine ⟨fun s i m ht hb hm hmin => ?_, fun s ht hb hnone => ?_, fun s hb hr => ?_, fun s d t i c hr hp hb hm => ?_,
    fun s hr hp hb => ?_, fun c s hr hc => ?_, fun s m => ?_⟩
  · refine leaves_startSend (c := (i, m)) (notReset_of_takesPart ht) hb ((nextToSend_takesPart ht).trans ?_)
    exact foldl_lowerClass_least (waiting_ordered s) (mem_waiting hm) fun d hd => hmin d.1 d.2 (slot_of_waiting hd)
  · refine does_startNothing (notReset_of_takesPart ht) hb ((nextToSend_takesPart ht).trans ?_)
    have hw : s.waiting = [] := by simp [State.waiting, hnone]
    rw [hw]
    rfl
  · exact idles_of startSend hr rfl (startSend_sending hb)
  · have hn : s.nextToSend = some (.request, .report d t i c) := by simp [State.nextToSend, State.takesPart, hp, hm]
    exact leaves_startSend hr hb hn
  · have hn : s.nextToSend = none := by simp [State.nextToSend, State.takesPart, hp]
    exact does_startNothing hr hb hn
  · obtain ⟨t, ht⟩ := answers_exec c s
    obtain ⟨hcarried, hstarted, hleft⟩ := ht.line hr hc
    exact ⟨t, ht.next, hcarried, hstarted, hleft⟩
  · obtain ⟨horigin, hkind, hcls⟩ := frameFor_header s m
    exact ⟨horigin, hkind, hcls, rfl, fun h => h ▸ rfl, fun q h => h ▸ rfl⟩

/-! Requests taken and refused (R103 to R105), and the take checks. -/

/-! ## A targeted message taken or refused -/

/-- The state with the parts that hearing a station touches replaced. -/
def State.hearing (b : BusPort) (p : Vector PresenceEntry 16) (w : WatchUnit) (s : State) : State :=
  { s with bus := b, peers := p, watch := w }

theorem heard_answers_eq (o : Station) (d : Answer) (s : State) :
    heard o (s.answers d) = s.hearing (heard o (s.answers d)).bus (heard o (s.answers d)).peers
      (heard o (s.answers d)).watch := heard_frame _ _

/-- A station that is heard keeps its presence state. -/
theorem peerState_heardFrom (o n : Station) (s : State) : (s.heardFrom o)[n].state = s.peers[n].state := by
  unfold State.heardFrom
  by_cases h : n = o
  · rw [h]
    simp
  · have hv : n.val ≠ o.val := fun hv => h (Fin.ext hv)
    simp [Vector.getElem_set_ne _ _ (Ne.symm hv)]

theorem peerState_heard (o n : Station) (d : Answer) (s : State) :
    (heard o (s.answers d)).peers[n].state = s.peers[n].state := by
  have h : (heard o (s.answers d)).peers = (s.answers d).heardFrom o := congrArg Steady.peers (steady_heard o)
  rw [h, peerState_heardFrom]
  rfl

section
variable {s : State} {c : Instr} {α : Type} {o : Station} {a : AnswerSlot} {body : Option α}
  {judge : α → State → Answer × State} {effect : α → Answer → State → State} {x : α} {P : State → Prop}

/-- The steady part after a taken message. -/
def State.got (o : Station) (s : State) : Steady := { s.steady with answer := .acknowledge, peers := s.heardFrom o }

/-- R13: a message that the station takes comes into force. -/
theorem does_taken (ht : s.takesPart = true) (ho : o ≠ s.station) (hb : body = some x)
    (hj : judge x s = (.acknowledge, s)) (ha : a.ack = true ∨ a.ownFails = false)
    (hc : exec c s = takeEvent (hear (targetedInForce · a) o body judge effect) s) {u : State → State}
    (hu : ∀ v : State, v.station = s.station → effect x .acknowledge v = u v)
    (hk : ∀ v : State, (u v).steady = v.steady)
    (hP : ∀ b p w, (∀ n : Station, p[n].state = s.peers[n].state) → P (u (s.hearing b p w))) :
    Does c s (s.got o) P := by
  refine does_event (notReset_of_takesPart ht) hc
    ((hear_inForce ht ho hb hj (targetedInForce_acknowledge ha)).trans (hu _ (by simp))) ?_ ?_
  · rw [hk, steady_heard_acknowledged]
    rfl
  · rw [heard_answers_eq]
    exact hP _ _ _ fun n => peerState_heard o n _ s

/-- R12: a message without room is answered BUSY, which counts; heard it is all the same if another station takes it. -/
theorem leaves_busy (ht : s.takesPart = true) (ho : o ≠ s.station) (hb : body = some x) (hj : judge x s = (.busy, s))
    (he : ∀ v : State, v.station = s.station → effect x .busy v = v)
    (hc : exec c s = takeEvent (hear (targetedInForce · a) o body judge effect) s) :
    Leaves c s
      { s.steady with answer := .busy, counters := s.counted 1, peers := if a.ack then s.heardFrom o else s.peers } := by
  refine leaves_event (notReset_of_takesPart ht) hc (hear_some ht ho hb) ?_
  rw [hj, targetedInForce_busy]
  dsimp only
  rw [he _ (by simp)]
  cases a.ack
  · exact steady_answers .busy
  · exact steady_heard o

end

/-! ## The room for a request (R103) -/

section
variable {s : State} {o : Station} {tag : Tag} {n : Nat}

theorem room_false {k : Key} (h : (16 ≤ s.request.queue.length ∨ ∃ e ∈ s.request.queue, e.key = k)
    ∨ s.freePages.length < n) : s.room k n = false := by
  refine Bool.eq_false_iff.mpr (mt room_iff.mp ?_)
  rintro ⟨hl, hn, hk⟩
  rcases h with (h | ⟨e, he, h⟩) | h
  · exact absurd hl (Nat.not_lt.mpr h)
  · exact hk e he h
  · exact absurd hn (Nat.not_le.mpr h)

theorem queueAnswer_own (o : Station) (tag : Tag) (n : Nat) (s : State) :
    queueAnswer o s.station tag n s = (takeOrBusy (s.room ⟨o, tag⟩ n), s) := if_pos rfl

theorem readAnswer_own (o : Station) (b : Tag × Extent) (s : State) :
    readAnswer o s.station b s = (takeOrBusy (s.room ⟨o, b.1⟩ b.2.count), s) := if_pos rfl

theorem word16_epoch {ep : Nat} (h : ep ≤ 65535) :
    word16 (BitVec.ofNat 8 (ep / 256)) (BitVec.ofNat 8 ep) = ep := by
  simp only [word16, BitVec.toNat_ofNat]
  omega

theorem parseResyncBegin_epoch {ep : Nat} (tag : Tag) (h₁ : 1 ≤ ep) (h₂ : ep ≤ 65535) :
    parseResyncBegin [tag, BitVec.ofNat 8 (ep / 256), BitVec.ofNat 8 ep] = some (tag, ep) := by
  rw [parseResyncBegin, word16_epoch h₂, if_neg (by omega)]

theorem parseResyncEnd_epoch {ep : Nat} (h₁ : 1 ≤ ep) (h₂ : ep ≤ 65535) :
    parseResyncEnd [BitVec.ofNat 8 (ep / 256), BitVec.ofNat 8 ep] = some ep := by
  rw [parseResyncEnd, word16_epoch h₂, if_neg (by omega)]

end

/-- Settles O28. -/
theorem requestsWithoutRoomAreBusy : Obligations.RequestsWithoutRoomAreBusy := by
  intro s o tag p x ep a ht ho hp h₁ h₂ full busy
  refine ⟨fun h => ?_, fun h => ?_⟩
  · have hr : s.room ⟨o, tag⟩ x.count = false := room_false h
    refine ⟨leaves_busy ht ho hp ?_ (fun _ _ => rfl) rfl, leaves_busy ht ho hp ?_ (fun v hv => ?_) rfl,
      leaves_busy ht ho hp ?_ (fun _ _ => rfl) rfl⟩
    · rw [readAnswer_own, hr]
      rfl
    · rw [queueAnswer_own, hr]
      rfl
    · exact if_pos hv.symm
    · rw [queueAnswer_own, hr]
      rfl
  · have hr : s.room ⟨o, tag⟩ 0 = false := room_false (.inl h)
    have hj : queueAnswer o s.station tag 0 s = (.busy, s) := by
      rw [queueAnswer_own, hr]
      rfl
    exact ⟨leaves_busy ht ho (parseTag_byte tag) hj (fun _ _ => rfl) rfl,
      leaves_busy ht ho (parseTag_byte tag) hj (fun _ _ => rfl) rfl,
      leaves_busy ht ho (parseResyncBegin_epoch tag h₁ h₂) hj (fun _ _ => rfl) rfl⟩

/-! ## New entries (R104, R105) -/

section
variable {s : State} {k : Key} {kind : EntryKind} {ext : Option Extent} {fwd : Option Station} {e : Entry} {st : Status}

@[simp] theorem steady_enqueue (e : Entry) (s : State) : (enqueue e s).steady = s.steady := rfl

@[simp] theorem steady_handWrite (k : Key) (x : Extent) (s : State) : (handWrite k x s).steady = s.steady := by
  unfold handWrite
  split
  · dsimp only
    split <;> rfl
  · rfl

@[simp] theorem steady_createEntry (k : Key) (kind : EntryKind) (ext : Option Extent) (fwd : Option Station) (s : State) :
    (createEntry k kind ext fwd s).steady = s.steady := by
  unfold createEntry
  dsimp only
  split
  · simp
  · split <;> simp

@[simp] theorem steady_createMirrorEntry (k : Key) (kind : EntryKind) (s : State) :
    (createMirrorEntry k kind s).steady = s.steady := by
  unfold createMirrorEntry
  dsimp only
  split <;> simp

theorem createEntry_failed (h : s.takeFailure (newEntry k kind ext fwd s) = some st) :
    createEntry k kind ext fwd s = endEntry k st (enqueue (newEntry k kind ext fwd s) s) := by
  unfold createEntry
  dsimp only
  rw [h]

theorem createEntry_passed (h : s.takeFailure (newEntry k kind ext fwd s) = none) (hk : kind ≠ .write) :
    createEntry k kind ext fwd s = enqueue (newEntry k kind ext fwd s) s := by
  unfold createEntry
  dsimp only
  rw [h]
  dsimp only
  split
  · exact absurd rfl hk
  · rfl

theorem createEntry_write {x : Extent} (h : s.takeFailure (newEntry k .write (some x) fwd s) = none) :
    createEntry k .write (some x) fwd s = handWrite k x (enqueue (newEntry k .write (some x) fwd s) s) := by
  unfold createEntry
  dsimp only
  rw [h]

/-- The take checks of R105, for an entry whose extent fits. -/
theorem takeFailure_fits (h : ∀ x, e.extent = some x → s.passesSize x = false) : s.takeFailure e =
    if s.mirror.role ≠ .notLoaded ∧ s.runFailure e = some .role then some .role
    else if s.mirror.role ≠ .notLoaded ∧ s.runFailure e = some .stale then some .stale
    else if s.drive.state = .fault then some .driveFault
    else none := by
  unfold State.takeFailure
  refine if_neg ?_
  split
  · rename_i x hx
    simp [h x hx]
  · simp

/-- An entry that passes the run checks ends only in FAULT. -/
theorem takeFailure_runs (h : ∀ x, e.extent = some x → s.passesSize x = false)
    (hr : s.mirror.role ≠ .notLoaded → s.runFailure e = none) :
    s.takeFailure e = if s.drive.state = .fault then some .driveFault else none := by
  rw [takeFailure_fits h, if_neg, if_neg]
  · exact fun ⟨hl, hs⟩ => by simp [hr hl] at hs
  · exact fun ⟨hl, hs⟩ => by simp [hr hl] at hs

theorem takeFailure_range {x : Extent} (he : e.extent = some x) (h : s.passesSize x = true) :
    s.takeFailure e = some .range := by
  unfold State.takeFailure
  rw [he]
  exact if_pos h

theorem passesSize_iff {x : Extent} :
    s.passesSize x = true ↔ s.drive.usable ≠ 0 ∧ s.drive.usable.toNat < x.start.toNat + x.count := by
  simp [State.passesSize]

theorem passesSize_false {x : Extent} (h : s.drive.usable = 0 ∨ x.start.toNat + x.count ≤ s.drive.usable.toNat) :
    s.passesSize x = false :=
  Bool.eq_false_iff.mpr (mt passesSize_iff.mp fun ⟨h0, hlt⟩ => h.elim h0 (Nat.not_le.mpr hlt))

/-- When a READ, a WRITE or a RESYNC-WRITE passes the run checks (R111). -/
theorem runFailure_read (x : Option Extent) (h : s.mirror.role = .secondary → s.mirror.behind = false) :
    s.runFailure (newEntry k .read x fwd s) = none :=
  if_neg fun ⟨hs, hb⟩ => by simp [h hs] at hb

theorem runFailure_write (x : Option Extent) (h : s.mirror.role ≠ .secondary) :
    s.runFailure (newEntry k .write x fwd s) = none := if_neg h

theorem runFailure_resyncIn (x : Option Extent)
    (h : (s.mirror.role = .secondary ∧ s.partner = some k.origin) ∨ s.mirror.role = .notLoaded)
    (hl : s.mirror.role ≠ .notLoaded) : s.runFailure (newEntry k .resyncIn x fwd s) = none := by
  obtain ⟨hs, hp⟩ := h.resolve_right hl
  exact if_neg fun hn => hn.elim (absurd hs) (absurd hp.symm)

end

/-! Requests that join the queue, and those that a take check ends (R104, R105). -/

section
variable {s : State} {k : Key} {x : Extent}

/-! ## A PRIMARY's WRITE at the mirror unit (R131, R150) -/

@[simp] theorem request_handWrite (k : Key) (x : Extent) (s : State) : (handWrite k x s).request = s.request := by
  unfold handWrite
  split
  · dsimp only
    split <;> rfl
  · rfl

theorem together_iff (l : Link) : l.together = true ↔ l = .inStep ∨ l = .resyncing := by cases l <;> simp [Link.together]

theorem copies_handWrite (k : Key) (x : Extent) (s : State) : (handWrite k x s).mirror.copies =
    if s.mirror.role = .primary ∧ s.mirror.link ≠ .inStep ∧ s.mirror.link ≠ .resyncing then
      s.mirror.copies ++ [{ key := k, extent := x, state := .notExpected }]
    else s.mirror.copies := by
  unfold handWrite
  by_cases hp : s.mirror.role = .primary
  · have hl : (s.mirror.role = .primary ∧ s.mirror.link ≠ .inStep ∧ s.mirror.link ≠ .resyncing) ↔
        ¬ s.mirror.link.together = true := by simp [together_iff, hp]
    rw [if_pos hp]
    simp only [hl, ite_not, onEngine_mirror]
    split <;> rfl
  · rw [if_neg hp, if_neg fun h => hp h.1]

theorem redo_handWrite (k : Key) (x : Extent) (s : State) : (handWrite k x s).engine.redo = true ↔ s.engine.redo = true
    ∨ s.mirror.role = .primary ∧ ∃ r, s.engine.region = some r ∧ (s.regions x).getLsbD r.val = true := by
  have hcore : ∀ v : State, v.engine = s.engine → v.regions x = s.regions x →
      ((v.onEngine fun e => { e with
        redo := e.redo || (match e.region with | some r => (v.regions x).getLsbD r.val | none => false) }).engine.redo = true
        ↔ s.engine.redo = true ∨ ∃ r, s.engine.region = some r ∧ (s.regions x).getLsbD r.val = true) := by
    intro v he hx
    rw [onEngine_engine, he, hx]
    cases s.engine.region <;> simp
  unfold handWrite
  by_cases hp : s.mirror.role = .primary
  · simp only [hp, if_true, true_and]
    split
    · exact hcore s rfl rfl
    · exact hcore _ rfl rfl
  · simp [hp]

theorem queue_createEntry {kind : EntryKind} {ext : Option Extent} {fwd : Option Station}
    (h : s.takeFailure (newEntry k kind ext fwd s) = none) (hk : kind ≠ .write) :
    (createEntry k kind ext fwd s).request.queue = s.request.queue ++ [newEntry k kind ext fwd s] := by
  rw [createEntry_passed h hk]
  rfl

theorem queue_createMirrorEntry {kind : EntryKind} (h : s.drive.state ≠ .fault) :
    (createMirrorEntry k kind s).request.queue = s.request.queue ++ [newEntry k kind none none s] := by
  unfold createMirrorEntry
  dsimp only
  rw [if_neg (by exact h)]
  rfl

/-! ## The end of an entry -/

@[simp] theorem request_markRegions (m : BitVec 256) (s : State) : (markRegions m s).request = s.request := by
  unfold markRegions
  split <;> rfl

@[simp] theorem request_readWake (s : State) : (readWake s).request = s.request := by
  unfold readWake
  split
  · split <;> rfl
  · rfl

/-- R118: the entry as it ends. -/
def Entry.over (st : Status) (e : Entry) : Entry := { e with state := .ending, status := some st, send := none }

/-- R115, R118: the request unit after the end of an entry. -/
theorem request_endEntry {e : Entry} (he : s.entry k = some e) (st : Status) : (endEntry k st s).request =
    { (s.onEntry k (Entry.over st)).request with out := s.request.out ++ [.entryDone k] } := by
  unfold endEntry
  simp only [he]
  (repeat' split) <;> simp [Entry.over, dropCopy, markExtent, onEntry_eq]

theorem entry_of_request {u v : State} (h : u.request.queue = v.request.queue) (k : Key) : u.entry k = v.entry k := by
  unfold State.entry
  rw [h]

theorem entry_endEntry {e : Entry} (he : s.entry k = some e) (st : Status) :
    (endEntry k st s).entry k = some (e.over st) := by
  rw [entry_of_request (v := s.onEntry k (Entry.over st)) (by rw [request_endEntry he]) k,
    entry_onEntry k k (Entry.over st) (fun _ => rfl), he, Option.map_some, if_pos (entry_key he)]

theorem out_endEntry {e : Entry} (he : s.entry k = some e) (st : Status) :
    (endEntry k st s).request.out = s.request.out ++ [.entryDone k] := by rw [request_endEntry he]

/-- A new entry is found by its name. -/
theorem entry_enqueue {e : Entry} (h : ∀ g ∈ s.request.queue, g.key ≠ e.key) : (enqueue e s).entry e.key = some e := by
  have hn : s.request.queue.find? (fun g => g.key == e.key) = none := by
    simpa [List.find?_eq_none] using h
  simp [State.entry, enqueue, hn]

theorem room_true {n : Nat} (hl : s.request.queue.length < 16) (hk : ∀ e ∈ s.request.queue, e.key ≠ k)
    (hn : n ≤ s.freePages.length) : s.room k n = true := room_iff.mpr ⟨hl, hn, hk⟩

end

/-- Settles O29. -/
theorem takenRequestsJoinTheQueue : Obligations.TakenRequestsJoinTheQueue := by
  intro s o tag p x ep a ht ho hp h₁ h₂ hl hk hn ha hf hu got entry
  have hj : ∀ n ≤ s.freePages.length, queueAnswer o s.station tag n s = (.acknowledge, s) := fun n hn => by
    rw [queueAnswer_own, room_true hl hk hn]
    rfl
  have hj₀ := hj 0 (Nat.zero_le _)
  have hjr : readAnswer o s.station (tag, x) s = (.acknowledge, s) := by
    rw [readAnswer_own, room_true hl hk hn]
    rfl
  have hsize : s.passesSize x = false := passesSize_false hu
  have hpass : ∀ e : Entry, (e.extent = some x ∨ e.extent = none) → (s.mirror.role ≠ .notLoaded → s.runFailure e = none) →
      s.takeFailure e = none := fun e he hr => by
    rw [takeFailure_runs ?_ hr, if_neg hf]
    intro y hy
    rcases he with he | he
    · cases he.symm.trans hy
      exact hsize
    · cases he.symm.trans hy
  refine ⟨fun hb => ?read, fun hr => ?write, fun hr => ?resyncWrite, ?sync, ?promote, ?resyncBegin⟩
  case read =>
    have hc := hpass _ (.inl rfl) fun _ => runFailure_read (k := ⟨o, tag⟩) (fwd := none) (some x) hb
    refine does_taken (u := createEntry ⟨o, tag⟩ .read (some x) none) ht ho hp hjr ha rfl (fun _ hv => (if_pos rfl).trans (if_pos hv.symm))
      (steady_createEntry _ _ _ _) fun b p w _ => ?_
    exact queue_createEntry (kind := .read) (s := s.hearing b p w) hc nofun
  case write =>
    have hc := hpass _ (.inl rfl) fun _ => runFailure_write (k := ⟨o, tag⟩) (fwd := none) (some x) hr
    refine does_taken (u := createEntry ⟨o, tag⟩ .write (some x) none) ht ho hp (hj _ hn) ha rfl
      (fun _ hv => (if_pos hv.symm).trans (if_pos rfl))
      (steady_createEntry _ _ _ _) fun b p w _ => ?_
    rw [createEntry_write (s := s.hearing b p w) hc, request_handWrite]
    exact ⟨rfl, copies_handWrite _ _ _, redo_handWrite _ _ _⟩
  case resyncWrite =>
    refine does_taken (u := createEntry ⟨o, tag⟩ .resyncIn (some x) none) ht ho hp (hj _ hn) ha rfl
      (fun _ _ => if_pos rfl) (steady_createEntry _ _ _ _) fun b p w _ => ?_
    have hc := hpass _ (.inl rfl) (runFailure_resyncIn (k := ⟨o, tag⟩) (fwd := none) (some x) hr)
    exact queue_createEntry (kind := .resyncIn) (s := s.hearing b p w) hc nofun
  case sync =>
    refine does_taken ht ho (parseTag_byte tag) hj₀ ha rfl (fun _ _ => if_pos rfl) (steady_createEntry _ _ _ _) fun b p w _ => ?_
    have hc := hpass (newEntry ⟨o, tag⟩ .sync none none s) (.inr rfl) fun _ => rfl
    exact queue_createEntry (kind := .sync) (s := s.hearing b p w) hc nofun
  case promote =>
    refine does_taken ht ho (parseTag_byte tag) hj₀ ha rfl (fun _ _ => if_pos rfl) (steady_createMirrorEntry _ _) fun b p w _ => ?_
    exact queue_createMirrorEntry (s := s.hearing b p w) hf
  case resyncBegin =>
    refine does_taken ht ho (parseResyncBegin_epoch tag h₁ h₂) hj₀ ha rfl (fun _ _ => if_pos rfl)
      (steady_createMirrorEntry _ _)      fun b p w _ => ?_
    exact queue_createMirrorEntry (s := s.hearing b p w) hf

/-! The take checks that end an entry (R105). -/

section
variable {s : State} {k : Key} {kind : EntryKind} {ext : Option Extent} {fwd : Option Station} {st : Status}

/-! ## The read wake (R155) -/

theorem readWake_wakes {p : Station} (hp : s.partner = some p) (hr : s.mirror.role = .secondary)
    (hl : (s.presence p).state ≠ .listening) (hw : s.mirror.readWake = false) : readWake s =
    { s with mirror := { s.mirror with
        readWake := true, out := s.mirror.out ++ [.wake (1#16 <<< p.val) .read] } } := by
  unfold readWake
  rw [hp]
  exact if_pos ⟨hr, hl, hw⟩

theorem readWake_waits {p : Station} (hp : s.partner = some p) (h : s.mirror.role ≠ .secondary
    ∨ (s.presence p).state = .listening ∨ s.mirror.readWake = true) : readWake s = s := by
  unfold readWake
  rw [hp]
  refine if_neg fun ⟨hr, hl, hw⟩ => ?_
  rcases h with h | h | h
  · exact h hr
  · exact hl h
  · simp [hw] at h

/-- The state with the parts replaced that an end without marks touches. -/
def State.withEnd (r : RequestUnit) (c : List CopyItem) (s : State) : State :=
  { s with request := r, mirror := { s.mirror with copies := c } }

/-- A STALE end is followed by the test for a read wake. -/
theorem endEntry_stale {e : Entry} (he : s.entry k = some e) : ∃ r c, endEntry k .stale s = readWake (s.withEnd r c) := by
  unfold endEntry
  simp only [he, marksAtEnd, Bool.false_eq_true, and_false, if_false, if_true]
  split
  · exact ⟨_, _, rfl⟩
  · exact ⟨_, s.mirror.copies, rfl⟩

theorem stale_wakes {e : Entry} {p : Station} (he : s.entry k = some e) (hp : s.partner = some p)
    (hr : s.mirror.role = .secondary) (hl : (s.presence p).state ≠ .listening) (hw : s.mirror.readWake = false) :
    (endEntry k .stale s).mirror.readWake = true
      ∧ (endEntry k .stale s).mirror.out = s.mirror.out ++ [.wake (1#16 <<< p.val) .read] := by
  obtain ⟨r, c, h⟩ := endEntry_stale he
  rw [h, readWake_wakes (s := s.withEnd r c) hp hr hl hw]
  exact ⟨rfl, rfl⟩

theorem stale_waits {e : Entry} {p : Station} (he : s.entry k = some e) (hp : s.partner = some p)
    (h : s.mirror.role ≠ .secondary ∨ (s.presence p).state = .listening ∨ s.mirror.readWake = true) :
    (endEntry k .stale s).mirror.readWake = s.mirror.readWake ∧ (endEntry k .stale s).mirror.out = s.mirror.out := by
  obtain ⟨r, c, heq⟩ := endEntry_stale he
  rw [heq, readWake_waits (s := s.withEnd r c) hp h]
  exact ⟨rfl, rfl⟩

theorem presenceState_hearing {b : BusPort} {p : Vector PresenceEntry 16} {w : WatchUnit}
    (h : ∀ n : Station, p[n].state = s.peers[n].state) (n : Station) :
    ((s.hearing b p w).presence n).state = (s.presence n).state := by
  unfold State.presence
  split
  · rw [if_pos (by assumption)]
    rfl
  · rw [if_neg (by assumption)]
    exact h n

/-! ## A new entry that ends -/

/-- The entry of a name stands in ENDING with a status, and its DONE has joined the outgoing list. -/
def State.EndsNew (k : Key) (st : Status) (s u : State) : Prop :=
  (u.entry k).map (fun e => (e.state, e.status)) = some (.ending, some st)
    ∧ u.request.out = s.request.out ++ [.entryDone k]

theorem endsNew_endEntry {e : Entry} (hk : ∀ g ∈ s.request.queue, g.key ≠ e.key) :
    s.EndsNew e.key st (endEntry e.key st (enqueue e s)) := by
  have he := entry_enqueue hk
  refine ⟨?_, out_endEntry he st⟩
  rw [entry_endEntry he]
  rfl

theorem endsNew_createEntry (h : s.takeFailure (newEntry k kind ext fwd s) = some st)
    (hk : ∀ g ∈ s.request.queue, g.key ≠ k) : s.EndsNew k st (createEntry k kind ext fwd s) := by
  rw [createEntry_failed h]
  exact endsNew_endEntry (e := newEntry k kind ext fwd s) hk

theorem endsNew_createMirrorEntry (h : s.drive.state = .fault) (hk : ∀ g ∈ s.request.queue, g.key ≠ k) :
    s.EndsNew k .driveFault (createMirrorEntry k kind s) := by
  unfold createMirrorEntry
  dsimp only
  rw [if_pos (by exact h)]
  exact endsNew_endEntry (e := newEntry k kind none none s) hk

/-- R136: a WRITE that ends DRIVE_FAULT marks its extent on a PRIMARY. -/
theorem dirty_createEntry_fault {x : Extent}
    (h : s.takeFailure (newEntry k .write (some x) fwd s) = some .driveFault) (hk : ∀ g ∈ s.request.queue, g.key ≠ k) :
    (createEntry k .write (some x) fwd s).mirror.dirty =
      if s.mirror.role = .primary then s.mirror.dirty ||| s.regions x else s.mirror.dirty := by
  rw [createEntry_failed h]
  exact (ended_endEntry (st := .driveFault) (entry_enqueue (e := newEntry k .write (some x) fwd s) hk) nofun nofun).dirty

/-! ## The run checks that fail (R111) -/

theorem takeFailure_role {e : Entry} (hs : ∀ x, e.extent = some x → s.passesSize x = false)
    (hl : s.mirror.role ≠ .notLoaded) (h : s.runFailure e = some .role) : s.takeFailure e = some .role := by
  rw [takeFailure_fits hs, if_pos ⟨hl, h⟩]

theorem takeFailure_stale {e : Entry} (hs : ∀ x, e.extent = some x → s.passesSize x = false)
    (hl : s.mirror.role ≠ .notLoaded) (h : s.runFailure e = some .stale) : s.takeFailure e = some .stale := by
  rw [takeFailure_fits hs, h, if_neg (fun h => by simp at h), if_pos ⟨hl, rfl⟩]

end

/-- Settles O30. -/
theorem takeChecksEndTheEntry : Obligations.TakeChecksEndTheEntry := by
  intro s o tag p x a ht ho hp hl hk hn ha got ends passes
  have hj : ∀ n ≤ s.freePages.length, queueAnswer o s.station tag n s = (.acknowledge, s) := fun n hn => by
    rw [queueAnswer_own, room_true hl hk hn]
    rfl
  have hj₀ := hj 0 (Nat.zero_le _)
  have hjr : readAnswer o s.station (tag, x) s = (.acknowledge, s) := by
    rw [readAnswer_own, room_true hl hk hn]
    rfl
  have hread : ∀ {P : State → Prop}, (∀ b p w, (∀ n : Station, p[n].state = s.peers[n].state) →
      P (createEntry ⟨o, tag⟩ .read (some x) none (s.hearing b p w))) →
      Does (.readReceived o s.station p a) s got P :=
    does_taken ht ho hp hjr ha rfl (fun _ hv => (if_pos rfl).trans (if_pos hv.symm)) (steady_createEntry _ _ _ _)
  have hwrite : ∀ {P : State → Prop}, (∀ b p w, (∀ n : Station, p[n].state = s.peers[n].state) →
      P (createEntry ⟨o, tag⟩ .write (some x) none (s.hearing b p w))) →
      Does (.writeReceived o s.station p a) s got P :=
    does_taken ht ho hp (hj _ hn) ha rfl (fun _ hv => (if_pos hv.symm).trans (if_pos rfl)) (steady_createEntry _ _ _ _)
  have hresync : ∀ {P : State → Prop}, (∀ b p w, (∀ n : Station, p[n].state = s.peers[n].state) →
      P (createEntry ⟨o, tag⟩ .resyncIn (some x) none (s.hearing b p w))) →
      Does (.resyncWriteReceived o s.station p a) s got P :=
    does_taken ht ho hp (hj _ hn) ha rfl (fun _ _ => if_pos rfl) (steady_createEntry _ _ _ _)
  have hfit : ∀ e : Entry, e.extent = some x → ¬ passes → ∀ y, e.extent = some y → s.passesSize y = false := by
    rintro e he hnp y hy
    cases he.symm.trans hy
    exact Bool.eq_false_iff.mpr (mt passesSize_iff.mp hnp)
  have hends : ∀ kind st, s.takeFailure (newEntry ⟨o, tag⟩ kind (some x) none s) = some st →
      ∀ b p w, (∀ n : Station, p[n].state = s.peers[n].state) →
        ends st (createEntry ⟨o, tag⟩ kind (some x) none (s.hearing b p w)) :=
    fun _ _ h b p w _ => endsNew_createEntry (s := s.hearing b p w) h hk
  have hfault : s.drive.state = .fault → ¬ passes → ∀ kind,
      (s.mirror.role ≠ .notLoaded → s.runFailure (newEntry ⟨o, tag⟩ kind (some x) none s) = none) →
      s.takeFailure (newEntry ⟨o, tag⟩ kind (some x) none s) = some .driveFault := fun hf hnp kind h => by
    rw [takeFailure_runs (hfit _ rfl hnp) h, if_pos hf]
  refine ⟨fun hpass c hc => ?range, fun hnp hs => ?writeRole, fun hnp hnl hr => ?resyncRole, fun hnp hs hb => ?stale,
    fun hf hnp => ⟨fun hb => ?readFault, fun hr => ?writeFault, fun hr => ?resyncFault⟩,
    fun hf => ⟨?syncFault, ?promoteFault, fun ep h₁ h₂ => ?beginFault⟩⟩
  case range =>
    have h : ∀ kind, s.takeFailure (newEntry ⟨o, tag⟩ kind (some x) none s) = some .range :=
      fun kind => takeFailure_range rfl (passesSize_iff.mpr hpass)
    simp only [List.mem_cons, List.not_mem_nil, or_false] at hc
    rcases hc with rfl | rfl | rfl
    · exact hread (hends _ _ (h .read))
    · exact hwrite (hends _ _ (h .write))
    · exact hresync (hends _ _ (h .resyncIn))
  case writeRole =>
    exact hwrite (hends _ _ (takeFailure_role (hfit _ rfl hnp) (by simp [hs]) (if_pos hs)))
  case resyncRole =>
    refine hresync (hends _ _ (takeFailure_role (hfit _ rfl hnp) hnl (if_pos ?_)))
    exact hr.imp_right fun h => Ne.symm h
  case stale =>
    have hst : s.takeFailure (newEntry ⟨o, tag⟩ .read (some x) none s) = some .stale :=
      takeFailure_stale (hfit _ rfl hnp) (by simp [hs]) (if_pos ⟨hs, hb⟩)
    refine hread fun b p w hpeers => ⟨hends _ _ hst b p w hpeers, fun n hpn hln hw => ?_⟩
    rw [createEntry_failed (s := s.hearing b p w) hst]
    refine stale_wakes (p := n) (entry_enqueue (e := newEntry ⟨o, tag⟩ .read (some x) none s) hk) hpn hs ?_ hw
    exact fun hl => hln ((presenceState_hearing (b := b) (w := w) hpeers n).symm.trans hl)
  case readFault =>
    exact hread (hends _ _ (hfault hf hnp _ fun _ => runFailure_read _ hb))
  case writeFault =>
    have h := hfault hf hnp .write fun _ => runFailure_write _ hr
    exact hwrite fun b p w hs => ⟨hends _ _ h b p w hs, dirty_createEntry_fault (s := s.hearing b p w) h hk⟩
  case resyncFault =>
    exact hresync (hends _ _ (hfault hf hnp _ (runFailure_resyncIn _ hr)))
  case syncFault =>
    refine does_taken ht ho (parseTag_byte tag) hj₀ ha rfl (fun _ _ => if_pos rfl) (steady_createEntry _ _ _ _)
      fun b p w _ => ?_
    refine endsNew_createEntry (s := s.hearing b p w) ?_ hk
    exact (takeFailure_runs (s := s) (e := newEntry ⟨o, tag⟩ .sync none none s) nofun fun _ => rfl).trans (if_pos hf)
  case promoteFault =>
    exact does_taken ht ho (parseTag_byte tag) hj₀ ha rfl (fun _ _ => if_pos rfl) (steady_createMirrorEntry _ _)
      fun b p w _ => endsNew_createMirrorEntry (s := s.hearing b p w) hf hk
  case beginFault =>
    exact does_taken ht ho (parseResyncBegin_epoch tag h₁ h₂) hj₀ ha rfl (fun _ _ => if_pos rfl)
      (steady_createMirrorEntry _ _) fun b p w _ => endsNew_createMirrorEntry (s := s.hearing b p w) hf hk

/-! CANCEL and DATA at their target (R107, R119). -/

section
variable {s : State} {k : Key} {e : Entry}

/-- An entry changed in place is found by its name. -/
theorem entry_onEntry_same (he : s.entry k = some e) (f : Entry → Entry) (hf : ∀ e, (f e).key = e.key) :
    (s.onEntry k f).entry k = some (f e) := by
  rw [entry_onEntry k k f hf, he, Option.map_some, if_pos (entry_key he)]

/-! ## CANCEL (R119) -/

/-- The pending promotion is that of this entry (R159). -/
def State.promotes (k : Key) (s : State) : Prop := ∃ p, s.mirror.promotion = some p ∧ p.key = k

theorem cancelEntry_eq (he : s.entry k = some e) (hr : e.kind ≠ .replica) :
    (e.state = .dataIn ∨ e.state = .queued ∧ s.mirror.promotion = none → cancelEntry k s = endEntry k .cancelled s)
    ∧ (e.state ≠ .dataIn → e.state ≠ .queued ∨ s.promotes k →
      cancelEntry k s = s.onEntry k fun e => { e with cancelLate := true }) := by
  unfold cancelEntry
  simp only [he, if_neg hr]
  refine ⟨fun h => if_pos (h.imp_right fun ⟨hq, hp⟩ => ⟨hq, ?_⟩), fun hd h => if_neg (not_or.mpr ⟨hd, fun ⟨hq, hp⟩ => ?_⟩)⟩
  · rw [hp]
  · obtain ⟨p, hs, hk⟩ := h.resolve_left (not_not.mpr hq)
    simp [hs, hk] at hp

theorem cancelEntry_replica (he : s.entry k = some e) (hr : e.kind = .replica) : cancelEntry k s = s := by
  unfold cancelEntry
  simp only [he, if_pos hr]

theorem cancelEntry_none (he : s.entry k = none) : cancelEntry k s = s := by
  unfold cancelEntry
  simp only [he]

@[simp] theorem steady_cancelEntry (k : Key) (s : State) : (cancelEntry k s).steady = s.steady := by
  unfold cancelEntry
  split
  · rfl
  · split
    · rfl
    · extract_lets promoting
      split
      · exact steady_endEntry _ _ _
      · rfl

end

/-- Settles O34. -/
theorem cancelEndsOrMarks : Obligations.CancelEndsOrMarks := by
  intro s o tag a ht ho ha got
  have htaken : ∀ {P : State → Prop}, (∀ b p w, P (cancelEntry ⟨o, tag⟩ (s.hearing b p w))) →
      Does (.cancelReceived o s.station [tag] a) s got P := fun h =>
    does_taken (x := tag) ht ho (parseTag_byte tag) (if_pos rfl) ha rfl
      (fun _ hv => (if_pos rfl).trans (if_pos hv.symm)) (steady_cancelEntry _) fun b p w _ => h b p w
  refine ⟨fun e he hr => ⟨fun h => htaken fun b p w => ?ends, fun hd h => htaken fun b p w => ?late⟩,
    fun e he hr => htaken fun b p w => ?replica, fun he => htaken fun b p w => ?absent⟩
  case ends =>
    have hk := entry_key he
    have hend := ended_endEntry (s := s.hearing b p w) (st := .cancelled) (e := e) (by rw [hk]; exact he) hr nofun
    rw [hk] at hend
    rw [(cancelEntry_eq (s := s.hearing b p w) he hr).1 h]
    refine ⟨entry_endEntry (s := s.hearing b p w) he _, out_endEntry (s := s.hearing b p w) he _, hend.dirty, fun hw => ?_⟩
    rw [hend.copies, if_pos]
    simp [hw, hk]
  case late =>
    rw [(cancelEntry_eq (s := s.hearing b p w) he hr).2 hd h]
    exact ⟨entry_onEntry_same (s := s.hearing b p w) he _ fun _ => rfl, rfl⟩
  case replica =>
    rw [cancelEntry_replica (s := s.hearing b p w) he hr]
    rfl
  case absent =>
    rw [cancelEntry_none (s := s.hearing b p w) he]
    rfl

/-! ## DATA (R107, R108) -/

section
variable {s : State} {k : Key} {e : Entry}

theorem pieceFits_iff {kind : EntryKind} {i : Nat} : s.pieceFits k kind i = true ↔
    ∃ e x, s.entry k = some e ∧ e.state = .dataIn ∧ e.kind = kind ∧ e.extent = some x ∧ i < x.count := by
  unfold State.pieceFits
  cases s.entry k with
  | none => simp
  | some e => cases hx : e.extent <;> simp [hx, and_assoc]

/-- R107: the state with a page filled, and the entry that the piece gives. -/
theorem fillPiece_duplicate (he : s.entry k = some e) {i : Nat} (hi : i ∈ e.pieces) (bs : List Byte) :
    fillPiece k i bs s = s := by
  unfold fillPiece
  simp [he, hi]

theorem steady_enterQueued (k : Key) (s : State) : (enterQueued k s).steady = s.steady := by
  unfold enterQueued callForQueued
  split <;> rfl

theorem entry_enterQueued (he : s.entry k = some e) :
    (enterQueued k s).entry k = some { e with state := .queued, queued := some s.tick } := by
  have h := entry_onEntry_same he (fun e => { e with state := .queued, queued := some s.tick }) fun _ => rfl
  unfold enterQueued callForQueued
  split
  · exact h
  · exact h

theorem steady_fillPiece (he : s.entry k = some e) {i : Nat} (hi : i ∉ e.pieces) (bs : List Byte) :
    (fillPiece k i bs s).steady = { s.steady with buffer := writePage s.buffer (e.pages.getD i 0) bs } := by
  unfold fillPiece
  have hc : e.pieces.contains i = false := by simpa using hi
  simp only [he, hc, Bool.false_eq_true, if_false]
  split
  · rw [steady_enterQueued]
    rfl
  · rfl

theorem entry_fillPiece (he : s.entry k = some e) {i : Nat} {x : Extent} (hi : i ∉ e.pieces) (hs : e.state = .dataIn)
    (hx : e.extent = some x) (bs : List Byte) : (fillPiece k i bs s).entry k = some { e with
      pieces := e.pieces ++ [i], lastPiece := some s.tick
      state := if e.pieces.length + 1 = x.count then .queued else .dataIn
      queued := if e.pieces.length + 1 = x.count then some s.tick else e.queued } := by
  have hc : e.pieces.contains i = false := by simpa using hi
  have hpiece := entry_onEntry_same (s := s.onBuffer fun m => writePage m (e.pages.getD i 0) bs) he
    (fun e => { e with pieces := e.pieces ++ [i], lastPiece := some s.tick }) fun _ => rfl
  unfold fillPiece
  have hcount : (e.extent.getD ⟨0, 0⟩).count = x.count := by rw [hx]; rfl
  simp only [he, hc, Bool.false_eq_true, if_false, hcount]
  by_cases hl : e.pieces.length + 1 = x.count
  · simp only [if_pos hl]
    exact entry_enterQueued hpiece
  · simp only [if_neg hl]
    exact hpiece.trans (by rw [hs])

end

theorem parseData_bytes {p : List Byte} {b : DataBody} (h : parseData p = some b) : b.bytes.length = 512 := by
  unfold parseData at h
  split at h
  · split at h
    · split at h
      · rename_i hl
        cases h
        simp only [Bool.and_eq_true, decide_eq_true_eq] at hl
        exact hl.1
      · cases h
    · cases h
  · cases h

section
variable (m : List Host.Cell) (n : Page) {bs : List Byte} {i : Nat}

theorem readByte_writePage_inside (h : bs.length = 512) (hi : i < 512) :
    readByte (writePage m n bs) (n * 512 + i) = bs.getD i 0 := by
  rw [writePage, fit_of_length bs h]
  exact readByte_writeRun_inside m _ bs i (by omega)

theorem readByte_writePage_outside (h : bs.length = 512) (hi : i < n * 512 ∨ n * 512 + 512 ≤ i) :
    readByte (writePage m n bs) i = readByte m i := by
  rw [writePage, fit_of_length bs h]
  exact readByte_writeRun_outside m (pageBase n) bs i (by rw [h]; exact hi)

end

/-- Settles O32. -/
theorem dataFillsItsPage : Obligations.DataFillsItsPage := by
  intro s o p b a ht ho hp
  have hr := notReset_of_takesPart ht
  have hlen := parseData_bytes hp
  have hanswer : ∀ d, s.pieceFits ⟨o, b.tag⟩ b.entryKind b.index = d →
      dataAnswer o s.station b s = (takeOrNothing d, s) := fun d hd => by
    rw [dataAnswer, hd]
    simp
  refine ⟨fun e x ha he hs hkind hx hi => ?_, fun hno hack => ?_⟩
  · have hj : dataAnswer o s.station b s = (.acknowledge, s) :=
      hanswer true (pieceFits_iff.mpr ⟨e, x, he, hs, hkind, hx, hi⟩)
    have hheard : hearData o s.station p a s = fillPiece ⟨o, b.tag⟩ b.index b.bytes (heard o (s.answers .acknowledge)) := by
      refine (hear_inForce ht ho hp hj (targetedInForce_acknowledge ha)).trans ?_
      exact (if_pos (by simp)).trans (if_pos rfl)
    have hv : (heard o (s.answers .acknowledge)).entry ⟨o, b.tag⟩ = some e :=
      (entry_of_request (by simp) _).trans he
    refine ⟨fun hn => ⟨?_, ?_⟩, fun hm => ?_⟩
    · have hst := steady_fillPiece hv hn b.bytes
      rw [steady_heard_acknowledged] at hst
      have hset := (steady_settle (s := fillPiece ⟨o, b.tag⟩ b.index b.bytes (heard o (s.answers .acknowledge))) s).trans hst
      have hbuf : (settle s (fillPiece ⟨o, b.tag⟩ b.index b.bytes (heard o (s.answers .acknowledge)))).buffer =
          writePage s.buffer (e.pages.getD b.index 0) b.bytes := by
        refine (congrArg Steady.buffer hset).trans ?_
        rw [heard_frame]
        rfl
      refine ⟨_, exec_event hr rfl hheard, hset.trans (by rw [hbuf, heard_frame]; rfl), fun i hi => ?_, fun i hi => ?_⟩
      · rw [hbuf, readByte_writePage_inside _ _ hlen hi]
      · rw [hbuf, readByte_writePage_outside _ _ hlen hi]
    · refine ⟨_, exec_event hr rfl hheard, ?_⟩
      rw [entry_fillPiece hv hn hs hx]
      simp
    · refine does_event hr rfl (hheard.trans (fillPiece_duplicate hv hm _)) (steady_heard_acknowledged o s) (by simp)
  · have hj : dataAnswer o s.station b s = (.nothing, s) := by
      refine hanswer false (Bool.eq_false_iff.mpr (mt pieceFits_iff.mp ?_))
      rintro ⟨e, x, he, hs, -⟩
      exact (hno e (entry_mem he)).elim (absurd (entry_key he)) (absurd hs)
    exact leaves_event hr rfl (hear_notInForce (d := .nothing) ht ho hp hj (by simp [targetedInForce, hack]))
      (steady_answers_nothing s)

/-! PROBE, FORWARD and the REPORT (R106, R176, R177). -/

/-! ## Bytes -/

/-- The bytes of a 32-bit word by division. -/
theorem be32_eq (v : BitVec 32) : be32 v =
    [BitVec.ofNat 8 (v.toNat / 16777216), BitVec.ofNat 8 (v.toNat / 65536), BitVec.ofNat 8 (v.toNat / 256),
      BitVec.ofNat 8 v.toNat] := by
  simp only [be32, BitVec.extractLsb', Nat.shiftRight_eq_div_pow, Nat.reducePow, Nat.div_one]

theorem settingsCode_eq (x : SettingsResult) : x.code = [SettingsResult.good, .missing, .marker, .check, .range].idxOf x := by
  cases x <;> rfl

theorem powerCode_eq (x : PowerState) : x.code = [PowerState.starting, .unset, .listening, .sleeping, .resuming].idxOf x := by
  cases x <;> rfl

theorem driveCode_eq (x : DriveState) : x.code = [DriveState.off, .spinUp, .ready, .spinDown, .fault].idxOf x := by
  cases x <;> rfl

theorem causeCode_eq (x : Option FaultCause) : causeCode x =
    [none, some FaultCause.overcurrent, some .spinUpFail, some .driveTimeout, some .size, some .expelled].idxOf x := by
  cases x with
  | none => rfl
  | some x => cases x <;> rfl

theorem roleCode_eq (x : Role) : x.code = [Role.single, .primary, .secondary, .notLoaded].idxOf x := by
  cases x <;> rfl

theorem linkCode_eq (x : Link) :
    x.code = [Link.none, .unloaded, .apart, .resyncing, .inStep, .mismatched, .following].idxOf x := by
  cases x <;> rfl

theorem claimCode_eq (x : ClaimState) :
    x.code = [ClaimState.none, .asking, .waiting, .spinUnits, .runUnits, .releasing].idxOf x := by
  cases x <;> rfl

theorem censusCode_eq (x : Census) : x.code = [Census.incomplete, .complete].idxOf x := by
  cases x <;> rfl

theorem presenceCode_eq (x : PresenceState) : x.code = [PresenceState.unknown, .listening, .sleeping, .absent].idxOf x := by
  cases x <;> rfl

theorem kindCode_eq (x : StationKind) : x.code = [StationKind.bay, .other].idxOf x := by
  cases x <;> rfl

theorem gainCode_eq (x : Gain) : x.code = [Gain.x4, .x1].idxOf x := by
  cases x <;> rfl

/-! ## The REQUEST slot (R115) -/

section
variable {s : State}

theorem placeRequest_next {m : ReqOut} (hs : s.slot .request = none) (hm : nextRequestOut s.request.out = some m) :
    (placeRequest s).slot .request = s.fillRequest m ∧ (placeRequest s).request.out = s.request.out.erase m := by
  unfold placeRequest
  rw [hs, hm]
  cases m <;> exact ⟨rfl, rfl⟩

/-- R9: an UNSET station only sends. -/
theorem settle_unset (b : State) (hp : s.power = .unset) : settle b s = placeRequest s := by
  have ht : s.takesPart = false := by simp [State.takesPart, hp]
  simp [settle, ht, hp]

/-! ## PROBE (R176) -/

theorem parseProbe_item {tag item : Byte} (h : item.toNat ≤ 4) : parseProbe [tag, item] = some (tag, item.toNat) :=
  if_pos h

theorem probeAnswer_own (o : Station) (b : Tag × Nat) (s : State) :
    probeAnswer o s.station b s = (takeOrBusy (s.reports < 4), s) := if_pos rfl

theorem steady_readyReport (k : Key) (i : Nat) (s : State) : (readyReport k i s).steady = s.steady := rfl

theorem exec_unsetProbe (o t : Station) (p : List Byte) (a : AnswerSlot) (hp : s.power = .unset) :
    exec (.probeReceived o t p a) s = takeEvent (unsetProbe o t p a) s := by
  simp only [exec, execProbeReceived, takeEvent, event, hearProbe, if_pos hp]

end

/-! ## FORWARD (R106) -/

section
variable {s : State} {o : Station} {k : Key} {p : List Byte} {a : AnswerSlot}

theorem forwardAnswer_probe (i : Nat) (s : State) :
    forwardAnswer s.station (k, .probe i) s = (takeOrBusy (s.reports < 4), s) := if_pos rfl

theorem forwardAnswer_read (st : BlockNo) (c : Nat) (s : State) :
    forwardAnswer s.station (k, .read st c) s = (takeOrBusy (s.room k c), s) := if_pos rfl

end

/-- Settles O31. -/
theorem probesAndForwardsAreTaken : Obligations.ProbesAndForwardsAreTaken := by
  unfold Obligations.ProbesAndForwardsAreTaken
  intro one two four flag drives roles
  refine ⟨fun s m => placeRequest_next, fun b s m hr hp hs hm => ?_, fun s k i => ⟨fun hp => ?_, fun hp => ?_⟩,
    fun s => ⟨?summary, ?holdings, ?presence, ?samples, rfl⟩, fun s o tag item a ht ho hi => ?probe,
    fun s o tag item a hr hp ho hi ha => ?unset, fun s o p k q a ht ho hp => ?forward⟩
  · rw [settle_unset b hp]
    exact (placeRequest_next hs hm).1
  · simp only [State.fillRequest, State.itemFor, if_pos hp]
  · simp only [State.fillRequest, State.itemFor, if_neg hp]
  case summary =>
    simp only [State.reportItem, State.summary, be32_eq, powerCode_eq, driveCode_eq, causeCode_eq, roleCode_eq,
      linkCode_eq, claimCode_eq, censusCode_eq]
    cases s.settingsResult with
    | none => rfl
    | some r =>
      dsimp only
      rw [settingsCode_eq]
      rfl
  case holdings =>
    simp only [State.reportItem, State.holdingsItem, censusCode_eq]
    cases s.shelf.watch <;> rfl
  case presence =>
    simp only [State.reportItem, State.presenceItem, PresenceEntry.bytes, be32_eq, presenceCode_eq, kindCode_eq,
      driveCode_eq, roleCode_eq]
    cases s.shelf.watch <;> rfl
  case samples =>
    have hl : s.supply.records.toList = (List.finRange 6).map fun c => s.supply.records[c] :=
      List.ext_getElem (by simp) fun i _ _ => by simp
    simp only [State.reportItem, State.samplesItem, SampleRecord.bytes, gainCode_eq, hl, List.flatMap_map]
    rfl
  case probe =>
    have hu := (power_of_takesPart ht).2
    refine ⟨fun hn ha => ?_, fun hn => ?_⟩
    · have hj : probeAnswer o s.station (tag, item.toNat) s = (.acknowledge, s) := by
        rw [probeAnswer_own, decide_eq_true hn]
        rfl
      exact does_taken ht ho (parseProbe_item hi) hj ha (exec_probe _ _ _ _ hu)
        (fun _ hv => (if_pos rfl).trans (if_pos hv.symm)) (steady_readyReport ⟨o, tag⟩ item.toNat) fun _ _ _ _ => rfl
    · have hj : probeAnswer o s.station (tag, item.toNat) s = (.busy, s) := by
        rw [probeAnswer_own, decide_eq_false (Nat.not_lt.mpr hn)]
        rfl
      exact leaves_busy ht ho (parseProbe_item hi) hj (fun _ _ => rfl) (exec_probe _ _ _ _ hu)
  case unset =>
    refine ⟨fun hn => ?_, fun hn => ?_⟩
    · refine does_event (u := readyReport ⟨o, tag⟩ item.toNat (s.answers .acknowledge)) hr
        (exec_unsetProbe _ _ _ _ hp) ?_ rfl rfl
      simp only [unsetProbe, parseProbe_item hi]
      exact (if_pos ⟨ho, trivial, hn⟩).trans (if_pos (targetedInForce_acknowledge ha))
    · refine leaves_event (u := s.answers .nothing) hr (exec_unsetProbe _ _ _ _ hp) ?_ rfl
      simp only [unsetProbe, parseProbe_item hi]
      exact if_neg fun h => absurd h.2.2 (Nat.not_lt.mpr hn)
  case forward =>
    intro refused
    refine ⟨?_, ?_, ?_⟩
    · rintro i rfl hn ha
      have hj : forwardAnswer s.station (k, .probe i) s = (.acknowledge, s) := by
        rw [forwardAnswer_probe, decide_eq_true hn]
        rfl
      exact does_taken ht ho hp hj ha rfl (fun _ _ => if_pos rfl) (steady_readyReport k i) fun _ _ _ _ => rfl
    · rintro i rfl hn
      have hj : forwardAnswer s.station (k, .probe i) s = (.busy, s) := by
        rw [forwardAnswer_probe, decide_eq_false (Nat.not_lt.mpr hn)]
        rfl
      exact leaves_busy ht ho hp hj (fun _ _ => rfl) rfl
    · rintro st c rfl
      refine ⟨fun ha hl hk hc hf hu hb => ?_, fun h => ?_⟩
      · have hj : forwardAnswer s.station (k, .read st c) s = (.acknowledge, s) := by
          rw [forwardAnswer_read, room_true hl hk hc]
          rfl
        have hpass : s.takeFailure (newEntry k .read (some ⟨st, c⟩) (some o) s) = none := by
          refine (takeFailure_runs (fun x hx => ?_) fun _ => runFailure_read _ hb).trans (if_neg hf)
          cases hx
          exact passesSize_false hu
        exact does_taken ht ho hp hj ha rfl (fun _ _ => if_pos rfl) (steady_createEntry k .read (some ⟨st, c⟩) (some o))
          fun b p w _ => queue_createEntry (kind := .read) (s := s.hearing b p w) hpass nofun
      · have hj : forwardAnswer s.station (k, .read st c) s = (.busy, s) := by
          rw [forwardAnswer_read, room_false (or_assoc.mpr h)]
          rfl
        exact leaves_busy ht ho hp hj (fun _ _ => rfl) rfl

/-! MIRROR-ACK and MIRROR-MISS at a PRIMARY (R129, R133, R134). -/

section
variable {s : State} {k : Key} {e : Entry} {x : Extent}

/-! ## The WRITE that waits -/

theorem writeEntry_some {st : BlockNo} (he : s.entry k = some e) (hw : e.kind = .write)
    (hx : e.extent = some x) (hst : x.start = st) : s.writeEntry k st = some e := by
  unfold State.writeEntry
  simp only [he]
  exact if_pos ⟨hw, by rw [hx, ← hst]; rfl⟩

theorem writeEntry_none {st : BlockNo} (h : ∀ e, s.entry k = some e → e.kind ≠ .write ∨ e.extent.map (·.start) ≠ some st) :
    s.writeEntry k st = none := by
  unfold State.writeEntry
  cases he : s.entry k with
  | none => rfl
  | some e => exact if_neg fun ⟨hw, hx⟩ => (h e he).elim (absurd hw) (absurd hx)

/-- An end that marks nothing and wakes nobody. -/
theorem endEntry_unmarked {st : Status} (he : s.entry k = some e) (hm : marksAtEnd st = false) (hs : st ≠ .stale) :
    ∃ r c, endEntry k st s = s.withEnd r c := by
  unfold endEntry
  simp only [he, hm, if_neg hs, Bool.false_eq_true, and_false, if_false]
  split
  · exact ⟨_, _, rfl⟩
  · exact ⟨_, s.mirror.copies, rfl⟩

theorem copyState_setCopy (item : CopyItem) (s : State) : (setCopy item s).copyState item.key = some item.state := by
  have hn : (s.mirror.copies.filter fun c => c.key != item.key).find? (fun c => c.key == item.key) = none := by
    simp [List.find?_eq_none]
  simp [State.copyState, setCopy, hn]

/-! ## The marks of a miss (R122, R142, R150) -/

/-- An extent has been marked on a PRIMARY. -/
def State.Marked (x : Extent) (s u : State) : Prop :=
  u.mirror.dirty = s.mirror.dirty ||| s.regions x
    ∧ (u.mirror.calls.mark = true ↔ s.mirror.calls.mark = true
      ∨ s.mirror.cond = .closed ∧ u.mirror.dirty ≠ s.mirror.dirty)
    ∧ (u.engine.redo = true ↔ s.engine.redo = true
      ∨ ∃ r, s.engine.region = some r ∧ (s.regions x).getLsbD r.val = true)

theorem redo_markExtent (hp : s.mirror.role = .primary) (x : Extent) : (markExtent x s).engine.redo = true ↔
    s.engine.redo = true ∨ ∃ r, s.engine.region = some r ∧ (s.regions x).getLsbD r.val = true := by
  unfold markExtent markRegions
  by_cases hm : s.regions x = 0
  · simp [hm]
  · rw [if_pos ⟨hp, hm⟩]
    dsimp only
    rw [onEngine_engine]
    cases hr : s.engine.region <;> simp [hr]

theorem marked_markExtent (hp : s.mirror.role = .primary) (x : Extent) : s.Marked x (markExtent x s) := by
  have h : markExtent x s = _ := markRegions_eq (s := s) (s.regions x)
  refine ⟨(congrArg (·.mirror.dirty) h).trans (if_pos hp), ?_, redo_markExtent hp x⟩
  have hmark : (markExtent x s).mirror.calls.mark =
      (s.mirror.calls.mark || (s.mirror.cond == .closed && (markExtent x s).mirror.dirty != s.mirror.dirty)) :=
    congrArg (·.mirror.calls.mark) h
  simp [hmark]

theorem request_markExtent (x : Extent) (s : State) : (markExtent x s).request = s.request := request_markRegions _ s

/-! ## What the two answers do in force -/

theorem mirrorAnswerTaken_iff {o : Station} :
    mirrorAnswerTaken o s.station s = true ↔ s.mirror.role = .primary ∧ s.partner = some o := by
  simp [mirrorAnswerTaken]

@[simp] theorem steady_mirrorAckInForce (k : Key) (st : BlockNo) (s : State) :
    (mirrorAckInForce k st s).steady = s.steady := by
  unfold mirrorAckInForce
  split
  · split
    · exact steady_endEntry _ _ _
    all_goals rfl
  · rfl

@[simp] theorem steady_mirrorMissInForce (k : Key) (x : Extent) (s : State) :
    (mirrorMissInForce k x s).steady = s.steady := by
  have hm : (markExtent x s).steady = s.steady := steady_markExtent _ _
  unfold mirrorMissInForce
  dsimp only
  split
  · split
    · exact (steady_endEntry _ _ _).trans hm
    all_goals exact hm
  · exact hm

end

/-! ## The two answers received -/

section
variable {s : State} {o : Station} {p : List Byte} {k : Key} {a : AnswerSlot}

/-- A message whose answer is an acknowledgement on a condition and that does nothing otherwise: one that the station does not
take, and that nobody else takes, draws no answer. -/
theorem leaves_notTaken {c : Instr} {α : Type} {body : Option α} {judge : α → State → Answer × State}
    {effect : α → Answer → State → State} {x : α} (ht : s.takesPart = true) (ho : o ≠ s.station) (hb : body = some x)
    (hj : judge x s = (.nothing, s)) (ha : a.ack = false)
    (hc : exec c s = takeEvent (hear (targetedInForce · a) o body judge effect) s) :
    Leaves c s { s.steady with answer := .nothing } :=
  leaves_event (notReset_of_takesPart ht) hc
    (hear_notInForce (d := .nothing) ht ho hb hj (by simp [targetedInForce, ha])) (steady_answers_nothing s)

theorem mirrorAnswer_taken (hp : s.mirror.role = .primary) (hn : s.partner = some o) :
    (takeOrNothing (mirrorAnswerTaken o s.station s), s) = (Answer.acknowledge, s) := by
  rw [mirrorAnswerTaken_iff.mpr ⟨hp, hn⟩]
  rfl

theorem mirrorAnswer_notTaken (h : s.mirror.role ≠ .primary ∨ s.partner ≠ some o) :
    (takeOrNothing (mirrorAnswerTaken o s.station s), s) = (Answer.nothing, s) := by
  rw [Bool.eq_false_iff.mpr (mt mirrorAnswerTaken_iff.mp fun ⟨hp, hn⟩ => h.elim (absurd hp) (absurd hn))]
  rfl

end

/-- Settles O37. -/
theorem mirrorAnswersEndTheWait : Obligations.MirrorAnswersEndTheWait := by
  refine ⟨fun s o p k st a ht ho hb => ?ack, fun s o p k x a ht ho hb => ?miss⟩
  case ack =>
    refine ⟨fun hp hn ha => ?_, fun h hack => leaves_notTaken ht ho hb (mirrorAnswer_notTaken h) hack rfl⟩
    have htaken : ∀ {P : State → Prop}, (∀ b q w, P (mirrorAckInForce k st (s.hearing b q w))) →
        Does (.mirrorAckReceived o s.station p a) s (s.got o) P := fun h =>
      does_taken ht ho hb (mirrorAnswer_taken hp hn) ha rfl (fun _ _ => if_pos rfl) (steady_mirrorAckInForce k st)
        fun b q w _ => h b q w
    refine ⟨fun e x he hw hx hst => ⟨fun hs => htaken fun b q w => ?_, fun hs => htaken fun b q w => ?_⟩,
      fun h => htaken fun b q w => ?_⟩
    · have heq : mirrorAckInForce k st (s.hearing b q w) = endEntry k .ok (s.hearing b q w) := by
        simp only [mirrorAckInForce, writeEntry_some (s := s.hearing b q w) he hw hx hst, hs]
      obtain ⟨r, c, hend⟩ := endEntry_unmarked (s := s.hearing b q w) (st := .ok) he rfl nofun
      rw [heq]
      refine ⟨entry_endEntry (s := s.hearing b q w) he _, ?_, out_endEntry (s := s.hearing b q w) he _⟩
      rw [hend]
      rfl
    · have heq : mirrorAckInForce k st (s.hearing b q w) =
          (s.hearing b q w).onEntry k fun e => { e with ackEarly := true } := by
        rcases hs with hs | hs | hs <;>
          simp only [mirrorAckInForce, writeEntry_some (s := s.hearing b q w) he hw hx hst, hs]
      rw [heq]
      exact ⟨entry_onEntry_same (s := s.hearing b q w) he _ fun _ => rfl, rfl, rfl⟩
    · have heq : mirrorAckInForce k st (s.hearing b q w) = s.hearing b q w := by
        simp only [mirrorAckInForce, writeEntry_none (s := s.hearing b q w) h]
      rw [heq]
      exact ⟨rfl, rfl⟩
  case miss =>
    refine ⟨fun hp hn ha => ?_, fun h hack => leaves_notTaken ht ho hb (mirrorAnswer_notTaken h) hack rfl⟩
    have htaken : ∀ {P : State → Prop}, (∀ b q w, P (mirrorMissInForce k x (s.hearing b q w))) →
        Does (.mirrorMissReceived o s.station p a) s (s.got o) P := fun h =>
      does_taken ht ho hb (mirrorAnswer_taken hp hn) ha rfl (fun _ _ => if_pos rfl) (steady_mirrorMissInForce k x)
        fun b q w _ => h b q w
    have hmarked : ∀ b q w, s.Marked x (markExtent x (s.hearing b q w)) := fun b q w =>
      marked_markExtent (s := s.hearing b q w) hp x
    have hreq : ∀ b q w, (markExtent x (s.hearing b q w)).request = s.request := fun b q w => request_markExtent x _
    have hentry : ∀ b q w, (markExtent x (s.hearing b q w)).entry k = s.entry k := fun b q w =>
      entry_of_request (by rw [hreq]) k
    refine ⟨fun e y he hw hy hst => ⟨fun hs => htaken fun b q w => ?_, fun hs => htaken fun b q w => ?_⟩,
      fun h => htaken fun b q w => ?_⟩
    · have hv := (hentry b q w).trans he
      have heq : mirrorMissInForce k x (s.hearing b q w) = endEntry k .okDegraded (markExtent x (s.hearing b q w)) := by
        simp only [mirrorMissInForce, writeEntry_some hv hw hy hst, hs]
      obtain ⟨r, c, hend⟩ := endEntry_unmarked (st := .okDegraded) hv rfl nofun
      rw [heq]
      refine ⟨entry_endEntry hv _, ?_⟩
      rw [hend]
      exact hmarked b q w
    · have hv := (hentry b q w).trans he
      have heq : mirrorMissInForce k x (s.hearing b q w) =
          setCopy { key := k, extent := e.extent.getD x, state := .missHeard } (markExtent x (s.hearing b q w)) := by
        rcases hs with hs | hs | hs <;> simp only [mirrorMissInForce, writeEntry_some hv hw hy hst, hs]
      rw [heq]
      exact ⟨copyState_setCopy { key := k, extent := e.extent.getD x, state := .missHeard } _, hreq b q w, hmarked b q w⟩
    · have heq : mirrorMissInForce k x (s.hearing b q w) = markExtent x (s.hearing b q w) := by
        simp only [mirrorMissInForce, writeEntry_none (s := markExtent x (s.hearing b q w)) (by rw [hentry]; exact h)]
      rw [heq]
      exact ⟨hreq b q w, hmarked b q w⟩

/-! The watch station answers for sleeping stations (R170). -/

section
variable {s v : State} {o n : Station} {k : Key} {e : ProxyEntry}

/-! ## What hearing a station leaves of the watch unit -/

theorem heardFrom_of_steady {u : State} (h : u.steady = s.steady) (o : Station) : u.heardFrom o = s.heardFrom o := by
  have hp : u.peers = s.peers := congrArg Steady.peers h
  have ht : u.tick = s.tick := congrArg Steady.tick h
  simp only [State.heardFrom, hp, ht]

/-- Hearing a station changes the waking marks and takes an ABSENT back. -/
theorem watch_heard (o : Station) (s : State) : (heard o s).watch.proxy = s.watch.proxy
    ∧ ∀ n : Station, (heard o s).watch.marks[n].wakeWanted = s.watch.marks[n].wakeWanted := by
  unfold heard
  dsimp only
  rw [(watchRetract_spec _ _).1]
  dsimp only
  split
  · refine ⟨rfl, fun n => ?_⟩
    by_cases h : n = o
    · rw [h]
      simp [onMarks, State.onWatch, State.onPeers]
    · have hv : n.val ≠ o.val := fun hv => h (Fin.ext hv)
      simp [onMarks, State.onWatch, State.onPeers, Vector.getElem_set_ne _ _ (Ne.symm hv)]
  · exact ⟨rfl, fun _ => rfl⟩

theorem proxyEntry_of_proxy (h : v.watch.proxy = s.watch.proxy) (n : Station) (k : Key) :
    v.proxyEntry n k = s.proxyEntry n k := by
  unfold State.proxyEntry
  rw [h]

/-! ## The proxy queue -/

theorem proxyEntry_target (h : s.proxyEntry n k = some e) : e.target = n ∧ e.key = k := by
  simpa using List.find?_some h

theorem proxyEntry_onProxy (n m : Station) (k j : Key) (f : ProxyEntry → ProxyEntry)
    (hf : ∀ e, (f e).target = e.target ∧ (f e).key = e.key) (s : State) :
    (onProxy m j f s).proxyEntry n k = (s.proxyEntry n k).map fun e => if e.target = m ∧ e.key = j then f e else e := by
  have hfind : ((fun e : ProxyEntry => e.target == n && e.key == k) ∘
      fun e => if e.target = m ∧ e.key = j then f e else e) = fun e => e.target == n && e.key == k := by
    funext g
    simp only [Function.comp_apply]
    split
    · rw [(hf g).1, (hf g).2]
    · rfl
  simp only [State.proxyEntry, onProxy, onWatch_watch]
  rw [List.find?_map, hfind]

theorem proxyEntry_onProxy_same (h : s.proxyEntry n k = some e) (f : ProxyEntry → ProxyEntry)
    (hf : ∀ e, (f e).target = e.target ∧ (f e).key = e.key) : (onProxy n k f s).proxyEntry n k = some (f e) := by
  rw [proxyEntry_onProxy n n k k f hf, h, Option.map_some, if_pos (proxyEntry_target h)]

theorem proxyEntry_leaveProxy (n : Station) (k : Key) (s : State) : (leaveProxy n k s).proxyEntry n k = none := by
  simp only [State.proxyEntry, leaveProxy, onWatch_watch, List.find?_eq_none, List.mem_filter]
  rintro x ⟨_, hx⟩
  simpa using (Bool.not_eq_true' _).mp hx

theorem proxyEntry_leaveProxy_other {m : Station} {j : Key} (h : m ≠ n ∨ j ≠ k) (s : State) :
    (leaveProxy m j s).proxyEntry n k = s.proxyEntry n k := by
  simp only [State.proxyEntry, leaveProxy, onWatch_watch, List.find?_filter]
  congr 1
  funext e
  by_cases he : e.target = n ∧ e.key = k
  · obtain ⟨ht, hk⟩ := he
    have hne : (n == m && k == j) = false := by
      rcases h with h | h
      · simp [Ne.symm h]
      · simp [Ne.symm h]
    simp [ht, hk, hne]
  · have hb : (e.target == n && e.key == k) = false := by simpa using he
    simp [hb]

/-! ## Requests for a sleeping station -/

theorem wakeWanted_wantWake (n : Station) (s : State) : (wantWake n s).watch.marks[n].wakeWanted = true := by
  simp [wantWake, onMarks, State.onWatch]

theorem readAnswer_other {b : Tag × Extent} (hn : n ≠ s.station) : readAnswer o n b s = proxyHold n ⟨o, b.1⟩ s := if_neg hn

theorem probeAnswer_other {b : Tag × Nat} (hn : n ≠ s.station) : probeAnswer o n b s = proxyHold n ⟨o, b.1⟩ s := if_neg hn

theorem proxyHold_room (ha : s.answersFor n = true) (hr : (s.proxyEntry n k).isSome = true ∨ s.proxyLoad < 8) :
    proxyHold n k s = (.acknowledge, wantWake n s) := by
  unfold proxyHold
  rw [if_pos ha]
  exact Prod.ext (if_pos hr) rfl

theorem proxyHold_full (ha : s.answersFor n = true) (hp : s.proxyEntry n k = none) (hl : 8 ≤ s.proxyLoad) :
    proxyHold n k s = (.busy, wantWake n s) := by
  unfold proxyHold
  rw [if_pos ha]
  refine Prod.ext (if_neg ?_) rfl
  rw [hp]
  exact fun h => h.elim nofun (Nat.not_lt.mpr hl)

theorem proxyHold_not (ha : s.answersFor n = false) : proxyHold n k s = (.nothing, s) := if_neg (by simp [ha])

theorem proxyRefuse_sleeper (ha : s.answersFor n = true) : proxyRefuse n s = (.busy, wantWake n s) := if_pos ha

theorem proxyRefuse_not (ha : s.answersFor n = false) : proxyRefuse n s = (.nothing, s) := if_neg (by simp [ha])

theorem queueAnswer_other {tag : Tag} {c : Nat} (hn : n ≠ s.station) : queueAnswer o n tag c s = proxyRefuse n s := if_neg hn

theorem clearFaultAnswer_other {tag : Tag} (hn : n ≠ s.station) : clearFaultAnswer n tag s = proxyRefuse n s := if_neg hn

theorem resyncEndAnswer_other {ep : Nat} (hn : n ≠ s.station) : resyncEndAnswer o n ep s = proxyRefuse n s := if_neg hn

theorem heldEntry_false (h : ∀ e, s.proxyEntry n k = some e → e.state ≠ .held) : s.heldEntry n k = false := by
  unfold State.heldEntry
  cases hp : s.proxyEntry n k with
  | none => rfl
  | some e => simpa using h e hp

/-- R173: a CANCEL in force ends the held request that it names. -/
def cancelProxy (n : Station) (k : Key) (s : State) : State :=
  match s.proxyEntry n k with
  | some e => endProxy .cancelled e s
  | none => s

theorem steady_cancelProxy (n : Station) (k : Key) (s : State) : (cancelProxy n k s).steady = s.steady := by
  unfold cancelProxy
  split <;> rfl

theorem steady_proxyTake (n : Station) (k : Key) (q : ProxyReq) (s : State) : (proxyTake n k q s).steady = s.steady := by
  unfold proxyTake
  split <;> rfl

end

section
variable {s t : State} {c : Instr} {α : Type} {o n : Station} {a : AnswerSlot} {body : Option α}
  {judge : α → State → Answer × State} {effect : α → Answer → State → State} {x : α} {P : State → Prop}

/-- R13, R170: a message that the station takes, for itself or for another, comes into force. -/
theorem does_takenFor (ht : s.takesPart = true) (ho : o ≠ s.station) (hb : body = some x)
    (hj : judge x s = (.acknowledge, t)) (hst : t.steady = s.steady) (ha : a.ack = true ∨ a.ownFails = false)
    (hc : exec c s = takeEvent (hear (targetedInForce · a) o body judge effect) s) {u : State → State}
    (hu : ∀ v : State, v.station = s.station → effect x .acknowledge v = u v)
    (hk : ∀ v : State, (u v).steady = v.steady) (hP : P (u (heard o (t.answers .acknowledge)))) :
    Does c s (s.got o) P := by
  have hstation : (heard o (t.answers .acknowledge)).station = s.station := by
    rw [station_heard, answers_station]
    exact congrArg Steady.station hst
  refine does_event (notReset_of_takesPart ht) hc
    ((hear_inForce ht ho hb hj (targetedInForce_acknowledge ha)).trans (hu _ hstation)) ?_ hP
  rw [hk, steady_heard_acknowledged, hst, heardFrom_of_steady hst]
  rfl

/-- R170: a request for a sleeping station that the holder refuses wakes it all the same. -/
theorem does_sleeperBusy (ht : s.takesPart = true) (ho : o ≠ s.station) (hb : body = some x)
    (hj : judge x s = (.busy, wantWake n s)) (ha : a.ack = false)
    (hc : exec c s = takeEvent (hear (targetedInForce · a) o body judge effect) s) :
    Does c s { s.steady with answer := .busy, counters := s.counted 1 } fun u =>
      u.watch.marks[n].wakeWanted = true ∧ u.watch.proxy = s.watch.proxy :=
  does_event (notReset_of_takesPart ht) hc
    (hear_notInForce (d := .busy) ht ho hb hj (by rw [targetedInForce_busy, ha]))
    ((steady_answers .busy).trans rfl) ⟨wakeWanted_wantWake n s, rfl⟩

end

/-- Settles O36. -/
theorem watchStationAnswersForSleepers : Obligations.WatchStationAnswersForSleepers := by
  intro s o t tag a ht ho hts k got busy
  have hu := (power_of_takesPart ht).2
  refine ⟨fun hans => ⟨fun p q c hc => ?held, fun p x ep hp h₁ h₂ ha => ?refused, fun e he hh ha => ?cancelled,
    fun hno ha => ?notHeld⟩, fun hans ha p x i hp hi c hc => ?unanswered⟩
  case held =>
    have htaken : (s.proxyEntry t k).isSome = true ∨ s.proxyLoad < 8 → a.ack = true ∨ a.ownFails = false →
        ∀ {P : State → Prop}, P (proxyTake t k q (heard o ((wantWake t s).answers .acknowledge))) → Does c s got P := by
      intro hr ha P hP
      have hj := proxyHold_room hans hr
      rcases hc with ⟨x, hp, rfl, rfl⟩ | ⟨i, hp, rfl, rfl⟩
      · exact does_takenFor ht ho hp ((readAnswer_other hts).trans hj) rfl ha rfl
          (fun v hv => (if_pos rfl).trans (if_neg fun h => hts (h.trans hv))) (steady_proxyTake t k _) hP
      · exact does_takenFor ht ho hp ((probeAnswer_other hts).trans hj) rfl ha (exec_probe _ _ _ _ hu)
          (fun v hv => (if_pos rfl).trans (if_neg fun h => hts (h.trans hv))) (steady_proxyTake t k _) hP
    obtain ⟨hproxy, hwanted⟩ := watch_heard o ((wantWake t s).answers .acknowledge)
    have hwake := (hwanted t).trans (wakeWanted_wantWake t s)
    have hentry := proxyEntry_of_proxy (s := s) hproxy t k
    refine ⟨fun he hl ha => htaken (.inr hl) ha ?_, fun e he ha => htaken (.inl (by rw [he]; rfl)) ha ?_,
      fun he hl ha => ?_⟩
    · unfold proxyTake
      rw [hentry, he, if_neg (by simp), onWatch_watch]
      refine ⟨hwake, ?_⟩
      dsimp only
      rw [hproxy, tick_heard]
      rfl
    · unfold proxyTake
      rw [hentry, he, if_pos (by rfl)]
      exact ⟨hwake, proxyEntry_onProxy_same (hentry.trans he) _ fun _ => ⟨rfl, rfl⟩⟩
    · have hj := proxyHold_full hans he hl
      rcases hc with ⟨x, hp, rfl, rfl⟩ | ⟨i, hp, rfl, rfl⟩
      · exact does_sleeperBusy ht ho hp ((readAnswer_other hts).trans hj) ha rfl
      · exact does_sleeperBusy ht ho hp ((probeAnswer_other hts).trans hj) ha (exec_probe _ _ _ _ hu)
  case refused =>
    intro e c hc
    have hj := proxyRefuse_sleeper hans
    have hend : parseResyncEnd e = some ep := parseResyncEnd_epoch h₁ h₂
    simp only [List.mem_cons, List.not_mem_nil, or_false] at hc
    rcases hc with rfl | rfl | rfl | rfl | rfl | rfl | rfl
    · exact does_sleeperBusy ht ho hp ((queueAnswer_other hts).trans hj) ha rfl
    · exact does_sleeperBusy ht ho hp ((queueAnswer_other hts).trans hj) ha rfl
    · exact does_sleeperBusy ht ho (parseTag_byte tag) ((queueAnswer_other hts).trans hj) ha rfl
    · exact does_sleeperBusy ht ho (parseTag_byte tag) ((queueAnswer_other hts).trans hj) ha rfl
    · exact does_sleeperBusy ht ho (parseTag_byte tag) ((clearFaultAnswer_other hts).trans hj) ha rfl
    · exact does_sleeperBusy ht ho (parseResyncBegin_epoch tag h₁ h₂) ((queueAnswer_other hts).trans hj) ha rfl
    · exact does_sleeperBusy ht ho hend ((resyncEndAnswer_other hts).trans hj) ha rfl
  case cancelled =>
    have hj : cancelAnswer o t tag s = (.acknowledge, s) := by
      have hheld : s.heldEntry t k = true := by simp [State.heldEntry, he, hh]
      unfold cancelAnswer
      rw [if_neg hts, hans, hheld]
      rfl
    obtain ⟨htarget, hkey⟩ := proxyEntry_target he
    have hv : (heard o (s.answers .acknowledge)).proxyEntry t k = some e :=
      (proxyEntry_of_proxy (s := s) (watch_heard o (s.answers .acknowledge)).1 t k).trans he
    refine does_takenFor (u := cancelProxy t k) ht ho (parseTag_byte tag) hj rfl ha rfl
      (fun v hv => (if_pos rfl).trans (if_neg fun h => hts (h.trans hv))) (steady_cancelProxy t k) ?_
    simp only [cancelProxy, hv, endProxy, htarget, hkey]
    exact ⟨proxyEntry_leaveProxy t k _, List.mem_append_right _ List.mem_cons_self⟩
  case notHeld =>
    have hj : cancelAnswer o t tag s = (.nothing, s) := by
      unfold cancelAnswer
      rw [if_neg hts, heldEntry_false hno, Bool.and_false]
      rfl
    exact leaves_notTaken ht ho (parseTag_byte tag) hj ha rfl
  case unanswered =>
    have hhold : proxyHold t k s = (.nothing, s) := proxyHold_not hans
    have hj := proxyRefuse_not hans
    simp only [List.mem_cons, List.not_mem_nil, or_false] at hc
    rcases hc with rfl | rfl | rfl | rfl | rfl | rfl | rfl | rfl
    · exact leaves_notTaken ht ho hp ((readAnswer_other hts).trans hhold) ha rfl
    · exact leaves_notTaken ht ho hp ((queueAnswer_other hts).trans hj) ha rfl
    · exact leaves_notTaken ht ho hp ((queueAnswer_other hts).trans hj) ha rfl
    · exact leaves_notTaken ht ho (parseTag_byte tag) ((queueAnswer_other hts).trans hj) ha rfl
    · exact leaves_notTaken ht ho (parseTag_byte tag) ((queueAnswer_other hts).trans hj) ha rfl
    · exact leaves_notTaken ht ho (parseTag_byte tag) ((clearFaultAnswer_other hts).trans hj) ha rfl
    · have hcancel : cancelAnswer o t tag s = (.nothing, s) := by
        unfold cancelAnswer
        rw [if_neg hts, hans]
        rfl
      exact leaves_notTaken ht ho (parseTag_byte tag) hcancel ha rfl
    · exact leaves_notTaken ht ho (parseProbe_item hi) ((probeAnswer_other hts).trans hhold) ha (exec_probe _ _ _ _ hu)

/-! The resync engine's answers, and a DONE at the holder (R147 to R153, R173). -/

section
variable {s : State} {c : Instr} {α : Type} {o : Station} {a : AnswerSlot} {body : Option α}
  {judge : α → State → Answer × State} {effect : α → Answer → State → State} {x : α} {P : State → Prop}

/-- A message that the station takes, and whose effect moves the steady part. -/
theorem does_takenMoves {k : Steady} (ht : s.takesPart = true) (ho : o ≠ s.station) (hb : body = some x)
    (hj : judge x s = (.acknowledge, s)) (ha : a.ack = true ∨ a.ownFails = false)
    (hc : exec c s = takeEvent (hear (targetedInForce · a) o body judge effect) s) {u : State → State}
    (hu : ∀ v : State, v.station = s.station → effect x .acknowledge v = u v)
    (hP : ∀ b p w, (s.hearing b p w).steady = s.got o →
      (u (s.hearing b p w)).steady = k ∧ P (u (s.hearing b p w))) : Does c s k P := by
  have hst := steady_heard_acknowledged o s
  rw [heard_answers_eq] at hst
  obtain ⟨hk, hp⟩ := hP _ _ _ (hst.trans rfl)
  refine does_event (notReset_of_takesPart ht) hc
    ((hear_inForce ht ho hb hj (targetedInForce_acknowledge ha)).trans (hu _ (by simp))) ?_ ?_
  · rw [heard_answers_eq]
    exact hk
  · rw [heard_answers_eq]
    exact hp

end

/-! ## RESYNC-END (R152) -/

section
variable {s : State} {o : Station}

theorem resyncEndAnswer_own (o : Station) (ep : Nat) (s : State) : resyncEndAnswer o s.station ep s =
    (takeOrNothing (s.mirror.role == .secondary && s.partner == some o), s) := if_pos rfl

theorem steady_resyncEndInForce (ep : Nat) (s : State) : (resyncEndInForce ep s).steady = s.steady := by
  unfold resyncEndInForce
  split <;> rfl

theorem behind_resyncEndInForce (ep : Nat) (s : State) : (resyncEndInForce ep s).mirror.behind =
    if ep = s.mirror.epoch ∧ s.mirror.behindAnnounced = true then false else s.mirror.behind := by
  unfold resyncEndInForce
  split <;> rfl

/-! ## The engine stops (R153) -/

/-- The resync has stopped. -/
structure State.EngineStopped (u : State) : Prop where
  idle : u.engine.state = .idle
  region : u.engine.region = none
  chunk : u.engine.chunk = none
  outstanding : u.engine.outstanding = none
  replyWait : u.engine.replyWait = none

theorem withdrawEngine_frame (s : State) : ∃ b l, withdrawEngine s =
    { s with bus := b, mirror := { s.mirror with out := l } } := by
  unfold withdrawEngine
  dsimp only
  rw [(withdraw_spec .resync _ _).1.frame, (withdraw_spec .mirror _ _).1.frame]
  exact ⟨_, _, rfl⟩

theorem stopResync_hold (hn : s.engine.state ≠ .idle) :
    (stopResync true s).steady = { s.steady with resyncHoldOff := some (s.tick + 500#32) }
      ∧ (stopResync true s).EngineStopped ∧ (stopResync true s).mirror.dirty = s.mirror.dirty := by
  have hst : (withdrawEngine s).steady = s.steady := steady_withdrawEngine _
  obtain ⟨b, l, hw⟩ := withdrawEngine_frame s
  unfold stopResync
  rw [if_neg hn]
  dsimp only
  rw [hw] at hst ⊢
  have hstop : ∀ r h, (({ s with bus := b, mirror := { s.mirror with out := l } } : State).onEngine fun e =>
      e.halt r h).steady = { s.steady with resyncHoldOff := h } := fun r h =>
    (congrArg (fun k : Steady => { k with resyncHoldOff := h }) hst)
  split
  · exact ⟨hstop _ _, ⟨rfl, rfl, rfl, rfl, rfl⟩, rfl⟩
  · exact ⟨hstop _ _, ⟨rfl, rfl, rfl, rfl, rfl⟩, rfl⟩

/-! ## The engine goes on (R148, R151) -/

/-- The state with the engine and the map replaced. -/
def State.working (e : ResyncEngine) (d : BitVec 256) (s : State) : State :=
  { s with engine := e, mirror := { s.mirror with dirty := d } }

/-- R148, R151: with marks `marks` and the cursor the engine chooses its next region, or ends. -/
def State.GoesOn (o : Station) (marks : BitVec 256) (cursor : Fin 256) (s u : State) : Prop :=
  let size := s.mirror.regionSize
  let usable := s.drive.usable.toNat
  let left : BitVec 256 := marks &&& ~~~ (emptyRegions size usable)
  u.mirror.dirty = left
  ∧ (∀ r : Fin 256, left.getLsbD r.val = true →
      (cursor ≤ r ∧ ∀ q : Fin 256, cursor ≤ q → q < r → left.getLsbD q.val = false)
        ∨ ((∀ q : Fin 256, cursor ≤ q → left.getLsbD q.val = false)
            ∧ ∀ q : Fin 256, q < r → left.getLsbD q.val = false) →
      u.engine.state = .copying ∧ u.engine.region = some r
        ∧ u.engine.chunk =
          some { start := r.val * size, count := min 64 (min ((r.val + 1) * size) usable - r.val * size)
                 step := .waitPages, pages := [], sendPos := none }
        ∧ (u.engine.redo = true ↔ ∃ e ∈ s.request.queue, e.kind = .write ∧ e.outstanding = true
            ∧ ∃ x, e.extent = some x ∧ (s.regions x).getLsbD r.val = true))
  ∧ (left = 0 → u.engine.state = .ending ∧ u.engine.region = none ∧ u.engine.chunk = none
      ∧ u.mirror.out = s.mirror.out ++ [.resyncEnd o s.mirror.epoch false])

theorem writeTouches_iff {r : Fin 256} : s.writeTouches r = true ↔
    ∃ e ∈ s.request.queue, e.kind = .write ∧ e.outstanding = true
      ∧ ∃ x, e.extent = some x ∧ (s.regions x).getLsbD r.val = true := by
  unfold State.writeTouches
  rw [List.any_eq_true]
  refine exists_congr fun e => and_congr_right fun _ => ?_
  cases hx : e.extent <;> simp [and_assoc]

/-- What the choice of the next region keeps of the engine. -/
theorem nextRegion_keeps (s : State) : (nextRegion s).steady = s.steady
    ∧ (nextRegion s).engine.outstanding = s.engine.outstanding ∧ (nextRegion s).engine.replyWait = s.engine.replyWait
    ∧ (nextRegion s).engine.cursor = s.engine.cursor := by
  unfold nextRegion
  dsimp only
  split
  · exact ⟨rfl, rfl, rfl, rfl⟩
  · split <;> exact ⟨rfl, rfl, rfl, rfl⟩

/-- The marks left once those of regions without a block are gone. -/
def State.marksLeft (d : BitVec 256) (s : State) : BitVec 256 :=
  d &&& ~~~ (emptyRegions s.mirror.regionSize s.drive.usable.toNat)

theorem nextRegion_some {r : Fin 256} (h : chooseRegion (s.marksLeft s.mirror.dirty) s.engine.cursor = some r) :
    nextRegion s = s.working
      { s.engine with
        state := .copying, region := some r, redo := s.writeTouches r
        chunk := some (chunkAt s.mirror.regionSize s.drive.usable.toNat r (r.val * s.mirror.regionSize)) }
      (s.marksLeft s.mirror.dirty) := by
  unfold nextRegion
  dsimp only
  split
  · rename_i hc
    cases hc.symm.trans h
    rfl
  · rename_i hc
    cases hc.symm.trans h

theorem nextRegion_none (hp : s.partner = some o)
    (h : chooseRegion (s.marksLeft s.mirror.dirty) s.engine.cursor = none) :
    nextRegion s = mirrorReady (.resyncEnd o s.mirror.epoch false) (s.working
      { s.engine with state := .ending, region := none, chunk := none, redo := false }
      (s.marksLeft s.mirror.dirty)) := by
  unfold nextRegion
  dsimp only
  split
  · rename_i hc
    cases hc.symm.trans h
  · split
    · rename_i hn
      cases hn.symm.trans hp
      rfl
    · rename_i hn
      cases hn.symm.trans hp

theorem dirty_nextRegion (s : State) : (nextRegion s).mirror.dirty = s.marksLeft s.mirror.dirty := by
  unfold nextRegion
  dsimp only
  split
  · rfl
  · split <;> rfl

theorem goesOn_nextRegion {e : ResyncEngine} {d : BitVec 256} (hp : s.partner = some o) :
    s.GoesOn o d e.cursor (nextRegion (s.working e d)) := by
  refine ⟨dirty_nextRegion _, fun r hr h => ?_, fun h => ?_⟩
  · rw [nextRegion_some (s := s.working e d) (r := r) (chooseRegion_some hr h)]
    exact ⟨rfl, rfl, rfl, writeTouches_iff (s := s)⟩
  · have hc : chooseRegion ((s.working e d).marksLeft d) e.cursor = none := by
      have h0 : (s.working e d).marksLeft d = 0 := h
      rw [h0]
      exact chooseRegion_none _
    rw [nextRegion_none (s := s.working e d) hp hc]
    exact ⟨rfl, rfl, rfl, rfl⟩

/-! ## A DONE that the engine waits for (R147) -/

/-- The engine no longer waits for the DONE. -/
def State.doneTaken (s : State) : State :=
  s.working { s.engine with replyWait := none, outstanding := none } s.mirror.dirty

theorem engineDone_failed {st : Status} (h : st ≠ .ok) : engineDone st s =
    stopResync true s.doneTaken := if_pos h

theorem engineDone_begun (h : s.engine.state = .beginWait) : engineDone .ok s =
    nextRegion s.doneTaken := by
  unfold engineDone
  rw [if_neg (by simp), h]
  rfl

theorem engineDone_copying (h : s.engine.state = .copying) : engineDone .ok s =
    chunkDone s.doneTaken := by
  unfold engineDone
  rw [if_neg (by simp), h]
  rfl

section
variable {r : Fin 256} {k : Chunk}

theorem chunkDone_goesOn (hr : s.engine.region = some r) (hc : s.engine.chunk = some k)
    (h : k.start + k.count < min ((r.val + 1) * s.mirror.regionSize) s.drive.usable.toNat) : chunkDone s =
      s.working { s.engine with
        chunk := some (chunkAt s.mirror.regionSize s.drive.usable.toNat r (k.start + k.count)) } s.mirror.dirty := by
  unfold chunkDone
  split
  · rename_i hr' hc'
    cases hr'.symm.trans hr
    cases hc'.symm.trans hc
    exact if_pos h
  · rename_i hn
    exact (hn _ _ hr hc).elim

theorem chunkDone_copied (hr : s.engine.region = some r) (hc : s.engine.chunk = some k)
    (h : min ((r.val + 1) * s.mirror.regionSize) s.drive.usable.toNat ≤ k.start + k.count)
    (hd : s.engine.redo = false) : chunkDone s = nextRegion
      (s.working { s.engine with redo := false, cursor := r + 1, chunk := none } (s.mirror.dirty &&& ~~~ (1#256 <<< r.val))) := by
  unfold chunkDone
  simp only [hr, hc]
  rw [if_neg (Nat.not_lt.mpr h), hd]
  rfl

theorem chunkDone_redo (hr : s.engine.region = some r) (hc : s.engine.chunk = some k)
    (h : min ((r.val + 1) * s.mirror.regionSize) s.drive.usable.toNat ≤ k.start + k.count)
    (hd : s.engine.redo = true) : chunkDone s = nextRegion
      (s.working { s.engine with redo := false, cursor := r + 1, chunk := none, redoCount := satInc s.engine.redoCount }
        s.mirror.dirty) := by
  unfold chunkDone
  simp only [hr, hc]
  rw [if_neg (Nat.not_lt.mpr h), hd]
  rfl

end

/-- R173: what a DONE that the holder sees does is done to the watch unit. -/
theorem proxyDoneSeen_frame (o n : Station) (tag : Tag) (s : State) : ∃ w, proxyDoneSeen o n tag s = { s with watch := w } := by
  have hfold : ∀ (l : List ProxyEntry) (v : State), (∃ w, v = { s with watch := w }) →
      ∃ w, l.foldl (fun s e => sendForward e s) v = { s with watch := w } := by
    intro l
    induction l with
    | nil => exact fun v hv => hv
    | cons e l ih =>
      rintro v ⟨w, rfl⟩
      exact ih _ ⟨_, rfl⟩
  unfold proxyDoneSeen
  split
  · exact hfold _ _ ⟨_, rfl⟩
  · exact ⟨s.watch, rfl⟩

theorem steady_proxyDoneSeen (o n : Station) (tag : Tag) (s : State) : (proxyDoneSeen o n tag s).steady = s.steady := by
  unfold proxyDoneSeen
  split
  · exact steady_foldl (fun s e => sendForward e s) (fun _ _ => rfl) _ _
  · rfl

theorem doneAnswer_taken {b : DoneBody} (h : s.engineTakes o b.tag = true) :
    doneAnswer o s.station b s = (.acknowledge, s) := by
  rw [doneAnswer, h]
  simp [takeOrNothing]

theorem emptyRegions_usable {size usable : Nat} {r : Fin 256} (h : r.val * size < usable) :
    (emptyRegions size usable).getLsbD r.val = false := by
  unfold emptyRegions
  split
  · simp
  · rename_i hs
    have hlt : r.val < (usable + size - 1) / size := by
      refine (Nat.le_div_iff_mul_le (Nat.pos_of_ne_zero hs)).mpr ?_
      rw [Nat.succ_mul]
      omega
    simp [hlt]

/-! ## A DONE that the holder sees (R172, R173) -/

/-- A request whose FORWARD goes again. -/
def ProxyEntry.resent (e : ProxyEntry) : ProxyEntry := { e with state := .sending, expired := false, recalled := false }

theorem proxyEntry_resendAll (n : Station) (k : Key) : ∀ (l : List ProxyEntry) (s : State),
    (l.foldl (fun s e => sendForward e s) s).proxyEntry n k = (s.proxyEntry n k).map fun g =>
      if ∃ e ∈ l, e.target = n ∧ e.key = k then g.resent else g
  | [], s => by simp
  | e :: l, s => by
    have hone : (sendForward e s).proxyEntry n k = (s.proxyEntry n k).map fun g =>
        if g.target = e.target ∧ g.key = e.key then g.resent else g :=
      proxyEntry_onProxy n e.target k e.key ProxyEntry.resent (fun _ => ⟨rfl, rfl⟩) s
    rw [List.foldl_cons, proxyEntry_resendAll n k l, hone]
    cases hg : s.proxyEntry n k with
    | none => rfl
    | some g =>
      obtain ⟨ht, hk⟩ := proxyEntry_target hg
      by_cases he : e.target = n ∧ e.key = k
      · simp [he, ht, hk, ProxyEntry.resent]
      · have hne : ¬ (n = e.target ∧ k = e.key) := fun h => he ⟨h.1.symm, h.2.symm⟩
        simp [he, ht, hk, hne]

theorem out_resendAll : ∀ (l : List ProxyEntry) (s : State), (l.foldl (fun s e => sendForward e s) s).watch.out =
    s.watch.out ++ l.map fun e => .forward e.target e.key e.req
  | [], s => by simp
  | e :: l, s => by
    rw [List.foldl_cons, out_resendAll l]
    simp [sendForward, watchReady, onProxy]

/-- The FORWARDs that wait in step RETRY for a target. -/
def State.retrying (o : Station) (s : State) : List ProxyEntry :=
  s.watch.proxy.filter fun e =>
    e.target == o && (match e.state with | .retry _ => true | .held | .sending => false)

theorem mem_retrying {e : ProxyEntry} : e ∈ s.retrying o ↔ e ∈ s.watch.proxy ∧ e.target = o ∧ ∃ t, e.state = .retry t := by
  unfold State.retrying
  rw [List.mem_filter]
  cases he : e.state <;> simp

theorem proxyDoneSeen_holder (hd : s.duty = true) (o n : Station) (tag : Tag) : proxyDoneSeen o n tag s =
    ((leaveProxy o ⟨n, tag⟩ s).retrying o).foldl (fun s e => sendForward e s) (leaveProxy o ⟨n, tag⟩ s) := if_pos hd

theorem proxyEntry_mem {n : Station} {k : Key} {e : ProxyEntry} (h : s.proxyEntry n k = some e) : e ∈ s.watch.proxy :=
  List.mem_of_find?_eq_some h

/-- What a DONE does to the requests that the holder keeps. -/
theorem proxyDoneSeen_spec (hd : s.duty = true) (o n : Station) (tag : Tag) :
    let u := proxyDoneSeen o n tag s
    u.proxyEntry o ⟨n, tag⟩ = none ∧ (∀ m k, m ≠ o → u.proxyEntry m k = s.proxyEntry m k)
      ∧ ∀ k f, k ≠ ⟨n, tag⟩ → s.proxyEntry o k = some f →
        (∀ t0, f.state = .retry t0 → u.proxyEntry o k = some f.resent ∧ OutMsg.forward o k f.req ∈ u.watch.out)
        ∧ (f.state = .held ∨ f.state = .sending → (s.watch.proxy.map fun e => (e.target, e.key)).Nodup →
          u.proxyEntry o k = some f) := by
  intro u
  have hu : u = _ := proxyDoneSeen_holder hd o n tag
  have hentry := fun m k => proxyEntry_resendAll m k ((leaveProxy o ⟨n, tag⟩ s).retrying o) (leaveProxy o ⟨n, tag⟩ s)
  rw [← hu] at hentry
  refine ⟨?_, fun m k hm => ?_, fun k f hk hf => ?_⟩
  · rw [hentry, proxyEntry_leaveProxy]
    rfl
  · rw [hentry, proxyEntry_leaveProxy_other (.inl (Ne.symm hm))]
    have hnone : ¬ ∃ e ∈ (leaveProxy o ⟨n, tag⟩ s).retrying o, e.target = m ∧ e.key = k := by
      rintro ⟨e, he, ht, _⟩
      exact hm (ht.symm.trans (mem_retrying.mp he).2.1)
    simp [hnone]
  · have hf' : (leaveProxy o ⟨n, tag⟩ s).proxyEntry o k = some f :=
      (proxyEntry_leaveProxy_other (.inr (Ne.symm hk)) s).trans hf
    obtain ⟨ht, hkey⟩ := proxyEntry_target hf
    refine ⟨fun t0 hs => ?_, fun hs hn => ?_⟩
    · have hmem : f ∈ (leaveProxy o ⟨n, tag⟩ s).retrying o := mem_retrying.mpr ⟨proxyEntry_mem hf', ht, t0, hs⟩
      refine ⟨?_, ?_⟩
      · rw [hentry, hf', Option.map_some, if_pos ⟨f, hmem, ht, hkey⟩]
      · rw [hu, out_resendAll]
        refine List.mem_append_right _ (List.mem_map.mpr ⟨f, hmem, ?_⟩)
        rw [ht, hkey]
    · rw [hentry, hf', Option.map_some, if_neg]
      rintro ⟨e, he, het, hek⟩
      obtain ⟨hmem, _, t0, hst⟩ := mem_retrying.mp he
      have hsame : e = f := by
        refine List.inj_on_of_nodup_map hn ?_ (proxyEntry_mem hf) (by rw [het, hek, ht, hkey])
        exact List.mem_of_mem_filter hmem
      rw [hsame] at hst
      rcases hs with hs | hs <;> cases hs.symm.trans hst

end

/-! RESYNC-END, DONE and REPORT received (R147 to R152, R173, R22). -/

section
variable {s : State}

/-! ## What a DONE for the engine leaves -/

/-- The state with the parts that the resync engine works on replaced. -/
def State.engineWork (b : BusPort) (e : ResyncEngine) (m : MirrorUnit) (d : DrivePort) (s : State) : State :=
  { s with bus := b, engine := e, mirror := m, drive := d }

theorem stopResync_frame (h : Bool) (s : State) : ∃ b e m d, stopResync h s = s.engineWork b e m d := by
  obtain ⟨b, l, hw⟩ := withdrawEngine_frame s
  unfold stopResync
  dsimp only
  rw [hw]
  split
  · exact ⟨s.bus, s.engine, s.mirror, s.drive, rfl⟩
  · split
    · exact ⟨_, _, _, _, rfl⟩
    · exact ⟨_, _, _, s.drive, rfl⟩

theorem nextRegion_frame (s : State) : ∃ e m, nextRegion s = s.engineWork s.bus e m s.drive := by
  unfold nextRegion
  dsimp only
  split
  · exact ⟨_, _, rfl⟩
  · split <;> exact ⟨_, _, rfl⟩

theorem chunkDone_frame (s : State) : ∃ e m, chunkDone s = s.engineWork s.bus e m s.drive := by
  unfold chunkDone
  split
  · dsimp only
    split
    · exact ⟨_, s.mirror, rfl⟩
    · split
      · obtain ⟨e, m, h⟩ := nextRegion_frame (s.working _ s.mirror.dirty)
        exact ⟨e, m, h⟩
      · obtain ⟨e, m, h⟩ := nextRegion_frame (s.working _ _)
        exact ⟨e, m, h⟩
  · exact ⟨s.engine, s.mirror, rfl⟩

theorem engineDone_frame (st : Status) (s : State) : ∃ b e m d, engineDone st s = s.engineWork b e m d := by
  by_cases hst : st = .ok
  · unfold engineDone
    dsimp only
    rw [if_neg (not_not.mpr hst)]
    split
    · obtain ⟨e, m, h⟩ := nextRegion_frame (s.working _ s.mirror.dirty)
      exact ⟨_, e, m, _, h⟩
    · obtain ⟨e, m, h⟩ := chunkDone_frame (s.working _ s.mirror.dirty)
      exact ⟨_, e, m, _, h⟩
    all_goals exact ⟨s.bus, _, s.mirror, s.drive, rfl⟩
  · rw [engineDone_failed hst]
    obtain ⟨b, e, m, d, h⟩ := stopResync_frame true (s.working _ s.mirror.dirty)
    exact ⟨b, e, m, d, h⟩

section
variable {o : Station} {p : List Byte} {b : DoneBody} {a : AnswerSlot} {k : Steady} {P : State → Prop}

/-- A DONE that the engine takes: its effect on the engine, whatever the watch unit makes of it. -/
theorem does_doneTaken (ht : s.takesPart = true) (ho : o ≠ s.station) (hb : parseDone p = some b)
    (hn : s.partner = some o) (hout : s.engine.outstanding = some b.tag)
    (hs : s.engine.state = .beginWait ∨ ∃ c, s.engine.chunk = some c ∧ c.step = .reply)
    (ha : a.ack = true ∨ a.ownFails = false) (hP : ∀ v w, P v → P { v with watch := w })
    (h : ∀ c q w, (s.hearing c q w).steady = s.got o →
      (engineDone b.status (s.hearing c q w)).steady = k ∧ P (engineDone b.status (s.hearing c q w))) :
    Does (.doneReceived o s.station p a) s k P := by
  have htake : s.engineTakes o b.tag = true := by
    rcases hs with hs | ⟨c, hc, hs⟩
    · simp [State.engineTakes, hn, hout, hs]
    · simp [State.engineTakes, hn, hout, hc, hs]
  refine does_takenMoves (u := fun v => proxyDoneSeen o s.station b.tag (engineDone b.status v)) ht ho hb
    (doneAnswer_taken htake) ha rfl (fun v _ => congrArg (proxyDoneSeen o s.station b.tag) (if_pos rfl)) fun c q w hgot => ?_
  obtain ⟨hk, hp⟩ := h c q w hgot
  obtain ⟨w', hw⟩ := proxyDoneSeen_frame o s.station b.tag (engineDone b.status (s.hearing c q w))
  refine ⟨(steady_proxyDoneSeen _ _ _ _).trans hk, ?_⟩
  rw [hw]
  exact hP _ _ hp

theorem doneAnswer_notTaken (h : s.partner ≠ some o ∨ s.engine.outstanding ≠ some b.tag) :
    doneAnswer o s.station b s = (.nothing, s) := by
  have htake : s.engineTakes o b.tag = false := by
    rcases h with h | h
    · simp [State.engineTakes, Ne.symm h]
    · simp [State.engineTakes, h]
  rw [doneAnswer, htake]
  simp [takeOrNothing]

end

/-- Every DONE in force ends as what the holder sees of it. -/
theorem doneInForce_eq (o n : Station) (b : DoneBody) (d : Answer) (s : State) : ∃ v, doneInForce o n b d s =
    proxyDoneSeen o n b.tag v ∧ v.duty = s.duty ∧ v.watch = s.watch := by
  unfold doneInForce
  dsimp only
  split
  · obtain ⟨c, e, m, d, h⟩ := engineDone_frame b.status s
    refine ⟨_, rfl, ?_, ?_⟩ <;> rw [h] <;> rfl
  · exact ⟨s, rfl, rfl, rfl⟩

theorem duty_heard (o : Station) (s : State) : (heard o s).duty = s.duty := by
  rw [heard_frame]
  rfl

end

/-- Settles O38. -/
theorem resyncMessages : Obligations.ResyncMessages := by
  refine ⟨fun s o p ep a ht ho hp => ⟨fun hr hn ha => ?end_taken, fun h hack => ?end_not⟩,
    fun s o p b a ht ho hp => ?done, fun s o t p b a ht ho hp hd hack => ?holder, fun s o t p a ht ho => ?report⟩
  case end_taken =>
    have hj : resyncEndAnswer o s.station ep s = (.acknowledge, s) := by
      rw [resyncEndAnswer_own, hr, hn]
      simp [takeOrNothing]
    exact does_taken ht ho hp hj ha rfl (fun _ _ => if_pos rfl) (steady_resyncEndInForce ep) fun b q w _ =>
      behind_resyncEndInForce ep (s.hearing b q w)
  case end_not =>
    have hj : resyncEndAnswer o s.station ep s = (.nothing, s) := by
      rw [resyncEndAnswer_own]
      rcases h with h | h <;> simp [takeOrNothing, h]
    exact leaves_notTaken ht ho hp hj hack rfl
  case done =>
    intro got size usable goesOn
    refine ⟨fun hn hout ha => ⟨fun hs hst => ?_, fun hs hst => ?_, fun r c hs hr hc hstep => ?_⟩,
      fun h hack => leaves_notTaken ht ho hp (doneAnswer_notTaken h) hack rfl⟩
    · refine does_doneTaken ht ho hp hn hout (.inl hs) ha (fun _ _ h => h) fun l q w hgot => ?_
      obtain ⟨hk, hstop, _⟩ := stopResync_hold (s := (s.hearing l q w).doneTaken) fun h => by cases hs.symm.trans h
      rw [engineDone_failed hst]
      exact ⟨hk.trans (congrArg (fun k : Steady => { k with resyncHoldOff := some (s.tick + 500#32) }) hgot),
        hstop.idle, hstop.outstanding, hstop.replyWait⟩
    · refine does_doneTaken ht ho hp hn hout (.inl hs) ha (fun _ _ h => h) fun l q w hgot => ?_
      obtain ⟨hk, ho', hw', _⟩ := nextRegion_keeps (s.hearing l q w).doneTaken
      rw [hst, engineDone_begun (s := s.hearing l q w) hs]
      exact ⟨hk.trans hgot, ho', hw', goesOn_nextRegion (s := s.hearing l q w) hn⟩
    · have hdone := fun {k : Steady} {P : State → Prop} => does_doneTaken (k := k) (P := P) ht ho hp hn hout
        (.inr ⟨c, hc, hstep⟩) ha
      intro stop
      refine ⟨fun hst => ?_, fun hst hlt => ?_, fun hst hle hredo => ?_, fun hst hle hredo => ?_⟩
      · refine hdone (fun _ _ h => h) fun l q w hgot => ?_
        obtain ⟨hk, hstop, hdirty⟩ := stopResync_hold (s := (s.hearing l q w).doneTaken) fun h => by cases hs.symm.trans h
        rw [engineDone_failed hst]
        exact ⟨hk.trans (congrArg (fun k : Steady => { k with resyncHoldOff := some (s.tick + 500#32) }) hgot),
          hstop.idle, hstop.chunk, hstop.region, hdirty⟩
      · refine hdone (fun _ _ h => h) fun l q w hgot => ?_
        rw [hst, engineDone_copying (s := s.hearing l q w) hs,
          chunkDone_goesOn (s := (s.hearing l q w).doneTaken) hr hc hlt]
        exact ⟨hgot, hr, rfl, rfl⟩
      · refine hdone (fun _ _ h => h) fun l q w hgot => ?_
        rw [hst, engineDone_copying (s := s.hearing l q w) hs,
          chunkDone_copied (s := (s.hearing l q w).doneTaken) hr hc hle hredo]
        have hgoes := goesOn_nextRegion (s := s.hearing l q w) (d := s.mirror.dirty &&& ~~~ (1#256 <<< r.val))
          (e := { s.engine with
            replyWait := none, outstanding := none, redo := false, cursor := r + 1, chunk := none }) hn
        obtain ⟨hk, _, _, hcursor⟩ := nextRegion_keeps ((s.hearing l q w).working
          { s.engine with replyWait := none, outstanding := none, redo := false, cursor := r + 1, chunk := none }
          (s.mirror.dirty &&& ~~~ (1#256 <<< r.val)))
        refine ⟨hk.trans hgot, ?_, hcursor, hgoes⟩
        have hleft : (s.mirror.dirty &&& ~~~ (1#256 <<< r.val) &&& ~~~ (emptyRegions size usable)).getLsbD r.val = false := by
          simp
        exact (congrArg (·.getLsbD r.val) hgoes.1).trans hleft
      · refine hdone (fun _ _ h => h) fun l q w hgot => ?_
        rw [hst, engineDone_copying (s := s.hearing l q w) hs,
          chunkDone_redo (s := (s.hearing l q w).doneTaken) hr hc hle hredo]
        have hgoes := goesOn_nextRegion (s := s.hearing l q w) (d := s.mirror.dirty)
          (e := { s.engine with
            replyWait := none, outstanding := none, redo := false, cursor := r + 1, chunk := none
            redoCount := satInc s.engine.redoCount }) hn
        obtain ⟨hk, _, _, hcursor⟩ := nextRegion_keeps ((s.hearing l q w).working
          { s.engine with
            replyWait := none, outstanding := none, redo := false, cursor := r + 1, chunk := none
            redoCount := satInc s.engine.redoCount } s.mirror.dirty)
        refine ⟨hk.trans ?_, hcursor, hgoes, fun hu => ?_⟩
        · exact congrArg (fun k : Steady => { k with counters := k.counters.modify 5 satInc }) hgot
        · have hleft : (s.mirror.dirty &&& ~~~ (emptyRegions size usable)).getLsbD r.val = s.mirror.dirty.getLsbD r.val := by
            rw [BitVec.getLsbD_and, BitVec.getLsbD_not, emptyRegions_usable hu]
            simp
          exact (congrArg (·.getLsbD r.val) hgoes.1).trans hleft
  case holder =>
    have hr := notReset_of_takesPart ht
    obtain ⟨d, hd'⟩ : ∃ d, doneAnswer o t b s = (d, s) := ⟨_, rfl⟩
    have hf : targetedInForce d a = true := by simp [targetedInForce, hack]
    obtain ⟨v, hv, hduty, hwatch⟩ := doneInForce_eq o t b d (heard o (s.answers d))
    have hproxy : v.watch.proxy = s.watch.proxy := by
      rw [hwatch]
      exact (watch_heard o (s.answers d)).1
    have hspec := proxyDoneSeen_spec (hduty.trans ((duty_heard o _).trans hd)) o t b.tag
    simp only [proxyEntry_of_proxy hproxy, hproxy] at hspec
    exact ⟨_, exec_event hr rfl ((hear_inForce ht ho hp hd' hf).trans hv), hspec⟩
  case report =>
    have hr := notReset_of_takesPart ht
    cases hack : a.ack with
    | false =>
      exact leaves_event hr rfl (hear_notInForce (d := .nothing) ht ho (x := p) rfl rfl (by simp [targetedInForce, hack]))
        (steady_answers_nothing s)
    | true =>
      exact leaves_event hr rfl (hear_inForce (d := .nothing) ht ho (x := p) rfl rfl (by simp [targetedInForce, hack]))
        (steady_heard_unanswered o s)

/-! The partner's AWAKE at the mirror unit (R137, R154, R156, R157). -/

section
variable {s u : State} {st : Status}

/-! ## Several ends in one event -/

/-- What `endWaits` does with one entry. -/
def endWait (st : Status) (mark : Bool) (s : State) (e : Entry) : State :=
  endEntry e.key st (if mark then (match e.extent with | some x => markExtent x s | none => s) else s)

theorem endWaits_eq (st : Status) (mark : Bool) (s : State) : endWaits st mark s =
    (s.request.queue.filter fun e => e.state == .waitMirror).foldl (endWait st mark) s := rfl

theorem request_marked (mark : Bool) (e : Entry) (s : State) :
    (if mark then (match e.extent with | some x => markExtent x s | none => s) else s).request = s.request := by
  split
  · split
    · exact request_markExtent _ s
    · rfl
  · rfl

theorem queue_endWait {e g : Entry} {mark : Bool} (he : s.entry e.key = some g) : (endWait st mark s e).request.queue =
    s.request.queue.map fun g => if g.key = e.key then g.over st else g := by
  have hreq := request_marked mark e s
  have he' := (entry_of_request (congrArg RequestUnit.queue hreq) e.key).trans he
  refine (congrArg RequestUnit.queue (request_endEntry he' st)).trans ?_
  rw [onEntry_eq]
  simp only [onRequest_request]
  rw [hreq]

theorem entry_of_key_mem {k : Key} (h : k ∈ s.request.queue.map (·.key)) : ∃ e, s.entry k = some e := by
  obtain ⟨e, he, hk⟩ := List.mem_map.mp h
  refine Option.isSome_iff_exists.mp (List.find?_isSome.mpr ⟨e, he, ?_⟩)
  simpa using hk

/-- Ends with one status, one after the other. -/
theorem queue_endWait_foldl (mark : Bool) : ∀ (l : List Entry) (s : State),
    (∀ e ∈ l, e.key ∈ s.request.queue.map (·.key)) → (l.foldl (endWait st mark) s).request.queue =
      s.request.queue.map fun g => if ∃ e ∈ l, e.key = g.key then g.over st else g
  | [], s, _ => by simp
  | e :: l, s, h => by
    obtain ⟨g, hg⟩ := entry_of_key_mem (h e List.mem_cons_self)
    have hone := queue_endWait (st := st) (mark := mark) hg
    have hkeys : (endWait st mark s e).request.queue.map (·.key) = s.request.queue.map (·.key) := by
      rw [hone, List.map_map]
      refine List.map_congr_left fun g _ => ?_
      simp only [Function.comp_apply]
      split <;> rfl
    rw [List.foldl_cons, queue_endWait_foldl mark l _ fun e' he' => hkeys ▸ h e' (List.mem_cons_of_mem _ he'),
      hone, List.map_map]
    refine List.map_congr_left fun g _ => ?_
    simp only [Function.comp_apply]
    by_cases hk : g.key = e.key
    · have hmem : ∃ e' ∈ e :: l, e'.key = g.key := ⟨e, List.mem_cons_self, hk.symm⟩
      simp only [if_pos hk, if_pos hmem]
      split <;> rfl
    · have hiff : (∃ e' ∈ e :: l, e'.key = g.key) ↔ ∃ e' ∈ l, e'.key = g.key := by simp [Ne.symm hk]
      simp only [if_neg hk, hiff]

/-- No entry waits for the mirror any more. -/
theorem noWaits_endWaits (st : Status) (mark : Bool) (s : State) :
    ∀ e ∈ (endWaits st mark s).request.queue, e.state ≠ .waitMirror := by
  rw [endWaits_eq, queue_endWait_foldl mark _ s fun e he => List.mem_map_of_mem (List.mem_of_mem_filter he)]
  intro e he
  obtain ⟨g, hg, rfl⟩ := List.mem_map.mp he
  split
  · nofun
  · rename_i hn
    intro hw
    exact hn ⟨g, List.mem_filter.mpr ⟨hg, by simp [hw]⟩, rfl⟩

/-- Ends that mark nothing touch the queue, the outgoing list and the copy items. -/
theorem endWaits_frame (hm : marksAtEnd st = false) (hs : st ≠ .stale) (s : State) :
    ∃ r c, endWaits st false s = s.withEnd r c := by
  have hone : ∀ (e : Entry) (v : State), ∃ r c, endWait st false v e = v.withEnd r c := by
    intro e v
    unfold endWait
    rw [if_neg (by simp)]
    cases he : v.entry e.key with
    | none =>
      refine ⟨v.request, v.mirror.copies, ?_⟩
      simp only [endEntry, he]
      rfl
    | some g => exact endEntry_unmarked he hm hs
  have hfold : ∀ (l : List Entry) (v : State), ∃ r c, l.foldl (endWait st false) v = v.withEnd r c := by
    intro l
    induction l with
    | nil => exact fun v => ⟨v.request, v.mirror.copies, rfl⟩
    | cons e l ih =>
      intro v
      obtain ⟨r, c, h⟩ := hone e v
      obtain ⟨r', c', h'⟩ := ih (v.withEnd r c)
      exact ⟨r', c', by rw [List.foldl_cons, h, h']; rfl⟩
  exact hfold _ s

/-! ## A change of role (R156, R157) -/

/-- What the role test gives: role, epoch and map as told, the behind flag as R156 gives it, and, at a PRIMARY, the request
unit, the slots and the outgoing list as they were. -/
structure State.RoleTaken (now : Role × Nat) (map : BitVec 256) (s u : State) : Prop where
  steady : u.steady =
    { s.steady with
      role := now.1, epoch := now.2
      wakeInterval := if s.mirror.role = .primary ∧ now.1 ≠ .primary then none else s.mirror.wakeInterval }
  behind : u.mirror.behind = settledBehind (s.mirror.role, s.mirror.epoch) now s.mirror.behind
  dirty : u.mirror.dirty = map
  watch : u.watch = s.watch
  slot : u.slot .watch = s.slot .watch
  kept : now.1 = .primary → u.request = s.request ∧ u.bus = s.bus ∧ u.mirror.out = s.mirror.out

theorem State.RoleTaken.same (s : State) : s.RoleTaken (s.mirror.role, s.mirror.epoch) s.mirror.dirty s where
  steady := by
    rw [if_neg fun h => h.2 h.1]
    rfl
  behind := (if_neg fun h => h rfl).symm
  dirty := rfl
  watch := rfl
  slot := rfl
  kept _ := ⟨rfl, rfl, rfl⟩

/-- Marks at a PRIMARY. -/
theorem markRegions_frame (m : BitVec 256) (s : State) : ∃ c r, markRegions m s =
    { s with
      mirror := { s.mirror with dirty := (markRegions m s).mirror.dirty, calls := c }
      engine := { s.engine with redo := r } } := by
  unfold markRegions
  split
  · exact ⟨_, _, rfl⟩
  · exact ⟨s.mirror.calls, s.engine.redo, rfl⟩

theorem dirty_markRegions (hp : s.mirror.role = .primary) (m : BitVec 256) :
    (markRegions m s).mirror.dirty = s.mirror.dirty ||| m := by
  rw [markRegions_eq]
  exact if_pos hp

theorem State.RoleTaken.marked (hp : s.mirror.role = .primary) :
    s.RoleTaken (s.mirror.role, s.mirror.epoch) (BitVec.allOnes 256) (markAll s) := by
  obtain ⟨c, r, h⟩ := markRegions_frame (BitVec.allOnes 256) s
  have hm : markAll s = _ := h
  have hsame := State.RoleTaken.same s
  exact
    { steady := (steady_markRegions s _).trans hsame.steady
      behind := by rw [hm]; exact hsame.behind
      dirty := (dirty_markRegions hp _).trans BitVec.or_allOnes
      watch := by rw [hm]
      slot := by rw [hm]; rfl
      kept := fun _ => by rw [hm]; exact ⟨rfl, rfl, rfl⟩ }

theorem State.RoleTaken.toPrimary {f : Nat} (hn : ((.primary, f) : Role × Nat) ≠ (s.mirror.role, s.mirror.epoch)) :
    s.RoleTaken (.primary, f) (BitVec.allOnes 256) (changeRole .primary f (BitVec.allOnes 256) false s) := by
  have heq : changeRole .primary f (BitVec.allOnes 256) false s = markRegions (BitVec.allOnes 256)
      (s.onMirror fun x => { x with
        role := .primary, epoch := f, dirty := BitVec.allOnes 256, behind := false
        calls := { x.calls with roleChange := true } }) := by
    unfold changeRole
    simp only [ne_eq, not_true_eq_false, and_false, if_false, Bool.false_and, Bool.false_eq_true]
    exact if_neg (by decide)
  obtain ⟨c, r, h⟩ := markRegions_frame (BitVec.allOnes 256) (s.onMirror fun x => { x with
    role := .primary, epoch := f, dirty := BitVec.allOnes 256, behind := false
    calls := { x.calls with roleChange := true } })
  rw [heq]
  exact
    { steady := by
        rw [steady_markRegions, if_neg fun h => h.2 rfl]
        rfl
      behind := by
        rw [h, settledBehind, if_pos hn]
        rfl
      dirty := (dirty_markRegions rfl _).trans BitVec.or_allOnes
      watch := by rw [h]; rfl
      slot := by rw [h]; rfl
      kept := fun _ => by rw [h]; exact ⟨rfl, rfl, rfl⟩ }

theorem slot_withdraw_other {i j : SlotId} (h : j ≠ i) (p : OutMsg → Bool) (s : State) :
    (withdraw i p s).2.slot j = s.slot j := by
  rw [(withdraw_spec i p s).1.frame]
  exact slots_get_set_other _ _ h

/-- R153: a stop of the resync withdraws from the MIRROR and RESYNC slots alone. -/
theorem slot_stopResync {i : SlotId} (h₁ : i ≠ .mirror) (h₂ : i ≠ .resync) (hold : Bool) (s : State) :
    (stopResync hold s).slot i = s.slot i := by
  have hw : (withdrawEngine s).slot i = s.slot i :=
    (slot_withdraw_other h₂ _ _).trans (slot_withdraw_other h₁ _ _)
  unfold stopResync
  split
  · rfl
  · dsimp only
    split <;> exact hw

theorem State.RoleTaken.toSecondary {f : Nat} (hn : ((.secondary, f) : Role × Nat) ≠ (s.mirror.role, s.mirror.epoch)) :
    s.RoleTaken (.secondary, f) 0 (changeRole .secondary f 0 true s) := by
  by_cases hp : s.mirror.role = .primary
  · have heq : changeRole .secondary f 0 true s = (endWaits .role false (stopResync false s)).onMirror fun x =>
        { x with
          role := .secondary, epoch := f, dirty := 0, behind := true
          behindAnnounced := if true && !x.behind then false else x.behindAnnounced
          copies := [], wakeInterval := none, calls := { x.calls with roleChange := true } } := by
      unfold changeRole
      simp [hp]
    obtain ⟨r, c, hw⟩ := endWaits_frame (st := .role) rfl nofun (stopResync false s)
    obtain ⟨hs, -, -⟩ := stopResync_spec s
    have hslot := slot_stopResync (i := .watch) nofun nofun false s
    have hst := (steady_endWaits (stopResync false s) .role false).trans (steady_stopResync s)
    rw [heq]
    rw [hw] at hst ⊢
    generalize stopResync false s = v at hs hslot hst ⊢
    exact
      { steady := by
          rw [if_pos ⟨hp, nofun⟩]
          exact congrArg (fun k : Steady => { k with role := .secondary, epoch := f, wakeInterval := none }) hst
        behind := by
          rw [settledBehind, if_pos hn]
          rfl
        dirty := rfl
        watch := by
          have h : v.watch = s.watch := by rw [hs]
          exact h
        slot := hslot
        kept := nofun }
  · have heq : changeRole .secondary f 0 true s = s.onMirror fun x =>
        { x with
          role := .secondary, epoch := f, dirty := 0, behind := true
          behindAnnounced := if true && !x.behind then false else x.behindAnnounced
          calls := { x.calls with roleChange := true } } := by
      unfold changeRole
      simp [hp]
    rw [heq]
    exact
      { steady := by
          rw [if_neg fun h => hp h.1]
          rfl
        behind := by
          rw [settledBehind, if_pos hn]
          rfl
        dirty := rfl
        watch := rfl
        slot := rfl
        kept := nofun }

section
variable {o : Station} {role : Role} {f : Nat}

theorem roleTest_unused (hp : s.partner = some o) (hu : s.recordInUse = false) : roleTest role f s = s := by
  unfold roleTest
  simp only [hp, hu]
  rfl

theorem roleTest_uncompared (h : ¬ ((s.mirror.role = .primary ∨ s.mirror.role = .secondary)
    ∧ (role = .primary ∨ role = .secondary))) : roleTest role f s = s := by
  unfold roleTest
  split
  · rfl
  · split
    · rfl
    · dsimp only
      split
      case h_5 => rfl
      all_goals
        rename_i hr
        exact absurd ⟨by simp [hr], by simp⟩ h

theorem roleTest_primary_primary (hp : s.partner = some o) (hu : s.recordInUse = true) (hr : s.mirror.role = .primary) :
    roleTest .primary f s =
      if s.mirror.epoch < f then changeRole .secondary f 0 true s
      else if f < s.mirror.epoch then markAll s
      else if s.station < o then markAll s
      else changeRole .secondary s.mirror.epoch 0 true s := by
  unfold roleTest
  simp only [hp, hu, hr]
  rfl

theorem roleTest_primary_secondary (hp : s.partner = some o) (hu : s.recordInUse = true)
    (hr : s.mirror.role = .secondary) :
    roleTest .primary f s = if s.mirror.epoch < f then changeRole .secondary f 0 true s else s := by
  unfold roleTest
  simp only [hp, hu, hr]
  rfl

theorem roleTest_secondary_primary (hp : s.partner = some o) (hu : s.recordInUse = true)
    (hr : s.mirror.role = .primary) :
    roleTest .secondary f s =
      if s.mirror.epoch < f then changeRole .primary f (BitVec.allOnes 256) false s
      else if f < s.mirror.epoch then markAll s
      else s := by
  unfold roleTest
  simp only [hp, hu, hr]
  rfl

theorem roleTest_secondary_secondary (hp : s.partner = some o) (hu : s.recordInUse = true)
    (hr : s.mirror.role = .secondary) :
    roleTest .secondary f s =
      if s.mirror.epoch < f then changeRole .primary f (BitVec.allOnes 256) false s
      else if f < s.mirror.epoch then s
      else if s.station < o then changeRole .primary (min (s.mirror.epoch + 1) 65535) (BitVec.allOnes 256) false s
      else s := by
  unfold roleTest
  simp only [hp, hu, hr]
  rfl

theorem settledRole_uncompared {lower : Bool} {mine theirs : Role × Nat} (h : ¬ ((mine.1 = .primary ∨ mine.1 = .secondary)
    ∧ (theirs.1 = .primary ∨ theirs.1 = .secondary))) : settledRole lower mine theirs = mine := if_pos h

theorem settledMap_uncompared {mine theirs : Role × Nat} (h : ¬ ((mine.1 = .primary ∨ mine.1 = .secondary)
    ∧ (theirs.1 = .primary ∨ theirs.1 = .secondary))) (map : BitVec 256) : settledMap mine theirs mine map = map := by
  rw [settledMap, if_neg fun h => h rfl, if_neg]
  rintro ⟨hm, ht⟩
  exact h ⟨.inl hm, ht.imp_right And.left⟩

theorem State.RoleTaken.cast {now now' theirs : Role × Nat} {map : BitVec 256} (h : s.RoleTaken now map u) (hn : now' = now)
    (hm : settledMap (s.mirror.role, s.mirror.epoch) theirs now s.mirror.dirty = map) :
    s.RoleTaken now' (settledMap (s.mirror.role, s.mirror.epoch) theirs now' s.mirror.dirty) u := by
  rw [hn, hm]
  exact h

/-- R156: the role test gives what its table says. -/
theorem roleTaken_compared (hp : s.partner = some o) (hu : s.recordInUse = true) :
    s.RoleTaken (settledRole (s.station < o) (s.mirror.role, s.mirror.epoch) (role, f))
      (settledMap (s.mirror.role, s.mirror.epoch) (role, f)
        (settledRole (s.station < o) (s.mirror.role, s.mirror.epoch) (role, f)) s.mirror.dirty)
      (roleTest role f s) := by
  by_cases hc : (s.mirror.role = .primary ∨ s.mirror.role = .secondary) ∧ (role = .primary ∨ role = .secondary)
  · obtain ⟨hr | hr, rfl | rfl⟩ := hc
    · rw [roleTest_primary_primary hp hu hr]
      by_cases h₁ : s.mirror.epoch < f
      · rw [if_pos h₁]
        exact (State.RoleTaken.toSecondary (by simp [hr])).cast (by simp [settledRole, hr, h₁]) (by simp [settledMap, hr])
      · rw [if_neg h₁]
        by_cases h₂ : f < s.mirror.epoch
        · rw [if_pos h₂]
          exact (State.RoleTaken.marked hr).cast (by simp [settledRole, hr, h₁, h₂]) (by simp [settledMap, hr])
        · rw [if_neg h₂]
          by_cases hl : s.station < o
          · rw [if_pos hl]
            exact (State.RoleTaken.marked hr).cast (by simp [settledRole, hr, h₁, h₂, hl]) (by simp [settledMap, hr])
          · rw [if_neg hl]
            exact (State.RoleTaken.toSecondary (by simp [hr])).cast (by simp [settledRole, hr, h₁, h₂, hl])
              (by simp [settledMap, hr])
    · rw [roleTest_secondary_primary hp hu hr]
      by_cases h₁ : s.mirror.epoch < f
      · rw [if_pos h₁]
        exact (State.RoleTaken.toPrimary (by simp [hr, Nat.ne_of_gt h₁])).cast (by simp [settledRole, hr, h₁])
          (by simp [settledMap, hr, Nat.ne_of_gt h₁])
      · rw [if_neg h₁]
        by_cases h₂ : f < s.mirror.epoch
        · rw [if_pos h₂]
          exact (State.RoleTaken.marked hr).cast (by simp [settledRole, hr, h₁, h₂]) (by simp [settledMap, hr, h₂])
        · rw [if_neg h₂]
          exact (State.RoleTaken.same s).cast (by simp [settledRole, hr, h₁]) (by simp [settledMap, hr, h₂])
    · rw [roleTest_primary_secondary hp hu hr]
      by_cases h₁ : s.mirror.epoch < f
      · rw [if_pos h₁]
        exact (State.RoleTaken.toSecondary (by simp [hr, Nat.ne_of_gt h₁])).cast (by simp [settledRole, hr, h₁])
          (by simp [settledMap, hr, Nat.ne_of_gt h₁])
      · rw [if_neg h₁]
        exact (State.RoleTaken.same s).cast (by simp [settledRole, hr, h₁]) (by simp [settledMap, hr])
    · rw [roleTest_secondary_secondary hp hu hr]
      by_cases h₁ : s.mirror.epoch < f
      · rw [if_pos h₁]
        exact (State.RoleTaken.toPrimary (by simp [hr])).cast (by simp [settledRole, hr, h₁]) (by simp [settledMap, hr])
      · rw [if_neg h₁]
        by_cases h₂ : f < s.mirror.epoch
        · rw [if_pos h₂]
          exact (State.RoleTaken.same s).cast (by simp [settledRole, hr, h₁, h₂]) (by simp [settledMap, hr])
        · rw [if_neg h₂]
          by_cases hl : s.station < o
          · rw [if_pos hl]
            exact (State.RoleTaken.toPrimary (by simp [hr])).cast (by simp [settledRole, hr, h₁, h₂, hl])
              (by simp [settledMap, hr])
          · rw [if_neg hl]
            exact (State.RoleTaken.same s).cast (by simp [settledRole, hr, h₁, h₂, hl]) (by simp [settledMap, hr])
  · rw [roleTest_uncompared hc, settledRole_uncompared hc, settledMap_uncompared hc]
    exact State.RoleTaken.same s

end

end

/-! AWAKE in force (R33, R137, R154, R172). -/

section
variable {s u : State} {o : Station}

/-! ## What hearing a station leaves in the watch unit's list and slot -/

theorem slotHolds_of_slot {i : SlotId} (h : u.slot i = s.slot i) (p : OutMsg → Bool) : u.slotHolds i p = s.slotHolds i p := by
  unfold State.slotHolds
  rw [h]

theorem slotHolds_watchRetract {p q : OutMsg → Bool} (h : ∀ m, q m = true → p m = false) (s : State) :
    (watchRetract q s).2.slotHolds .watch p = s.slotHolds .watch p := by
  obtain ⟨-, -, hbus, htaken, -⟩ := watchRetract_spec q s
  cases ha : s.watch.out.any q with
  | true => exact slotHolds_of_slot (congrArg (·.slots.get .watch) (hbus ha)) p
  | false =>
    have hslot := (htaken ha).slot
    by_cases hq : s.slotHolds .watch q = true ∧ s.onLine .watch = false
    · rw [if_pos hq] at hslot
      obtain ⟨m, hm⟩ : ∃ m, s.slot .watch = some m := by
        cases hm : s.slot .watch with
        | none => simp [State.slotHolds, hm] at hq
        | some m => exact ⟨m, rfl⟩
      have hqm : q m = true := by simpa [State.slotHolds, hm] using hq.1
      simp [State.slotHolds, hslot, hm, h m hqm]
    · rw [if_neg hq] at hslot
      exact slotHolds_of_slot hslot p

theorem watch_markOrNot (c : Prop) [Decidable c] (n : Station) (f : WatchMarks → WatchMarks) (s : State) :
    (if c then onMarks n f s else s).watch.out = s.watch.out ∧ (if c then onMarks n f s else s).bus = s.bus := by
  split <;> exact ⟨rfl, rfl⟩

theorem out_heard (o : Station) (s : State) : (heard o s).watch.out = s.watch.out.filter fun m => !isAbsentFor o m := by
  unfold heard
  dsimp only
  rw [(watchRetract_spec _ _).2.1]
  split <;> rfl

theorem slotHolds_heard {p : OutMsg → Bool} (h : ∀ m, isAbsentFor o m = true → p m = false) (s : State) :
    (heard o s).slotHolds .watch p = s.slotHolds .watch p := by
  unfold heard
  dsimp only
  rw [slotHolds_watchRetract h]
  split <;> rfl

theorem isForwardTo_of_absent {n : Station} {m : OutMsg} (h : isAbsentFor o m = true) : isForwardTo n m = false := by
  cases m <;> simp_all [isAbsentFor, isForwardTo]

theorem watchPending_heard (n : Station) (s : State) :
    (heard o s).watchPending (isForwardTo n) = s.watchPending (isForwardTo n) := by
  unfold State.watchPending
  rw [slotHolds_heard fun m => isForwardTo_of_absent, out_heard, List.any_filter]
  have hfun : (fun m => !isAbsentFor o m && isForwardTo n m) = isForwardTo n := by
    funext m
    cases h : isAbsentFor o m with
    | false => rfl
    | true => simp [isForwardTo_of_absent (n := n) h]
  rw [hfun]

/-! ## The partner-behind note and the rejoin test (R137, R154) -/

/-- The state with the request unit, the mirror unit and the redo mark replaced. -/
def State.noting (q : RequestUnit) (m : MirrorUnit) (r : Bool) (s : State) : State :=
  { s with request := q, mirror := m, engine := { s.engine with redo := r } }

theorem noteBehind_plain {b : Bool} (h : (b && !s.mirror.partnerBehind && s.mirror.role == .primary) = false) :
    noteBehind b s = s.onMirror fun x => { x with partnerBehind := b } := by
  unfold noteBehind
  dsimp only
  rw [if_neg (by simpa using h)]

/-- Marks of the extents of some entries. -/
def markEntries (l : List Entry) (s : State) : State :=
  l.foldl (fun s e => match e.extent with | some x => markExtent x s | none => s) s

theorem markEntries_frame (l : List Entry) : ∀ s : State, ∃ c r, markEntries l s = s.noting s.request
    { s.mirror with dirty := (markEntries l s).mirror.dirty, calls := c } r := by
  induction l with
  | nil => exact fun s => ⟨s.mirror.calls, s.engine.redo, rfl⟩
  | cons e l ih =>
    intro s
    cases hx : e.extent with
    | none =>
      have hs : markEntries (e :: l) s = markEntries l s := by simp only [markEntries, List.foldl_cons, hx]
      rw [hs]
      exact ih s
    | some x =>
      have hs : markEntries (e :: l) s = markEntries l (markExtent x s) := by simp only [markEntries, List.foldl_cons, hx]
      obtain ⟨c, r, h⟩ := ih (markExtent x s)
      obtain ⟨c', r', h'⟩ := markRegions_frame (s.regions x) s
      have hm : markExtent x s = _ := h'
      refine ⟨c, r, ?_⟩
      rw [hs, h, hm]
      rfl

theorem dirty_markEntries (l : List Entry) : ∀ s : State, s.mirror.role = .primary → (markEntries l s).mirror.dirty =
    (l.filterMap (·.extent)).foldl (fun d x => d ||| s.regions x) s.mirror.dirty := by
  induction l with
  | nil => exact fun _ _ => rfl
  | cons e l ih =>
    intro s hp
    cases hx : e.extent with
    | none =>
      have hs : markEntries (e :: l) s = markEntries l s := by simp only [markEntries, List.foldl_cons, hx]
      rw [hs, ih s hp, List.filterMap_cons_none hx]
    | some x =>
      have hs : markEntries (e :: l) s = markEntries l (markExtent x s) := by simp only [markEntries, List.foldl_cons, hx]
      obtain ⟨c, r, h⟩ := markRegions_frame (s.regions x) s
      have hm : markExtent x s = _ := h
      have hrole : (markExtent x s).mirror.role = .primary := by rw [hm]; exact hp
      have hreg : ∀ y, (markExtent x s).regions y = s.regions y := fun y => by rw [hm]; rfl
      rw [hs, ih _ hrole, List.filterMap_cons_some hx, List.foldl_cons]
      simp only [hreg]
      congr 1
      exact dirty_markRegions hp _

/-- The WRITEs whose extents a PRIMARY marks when its partner is newly behind (R137). -/
def State.copied (s : State) : List Entry :=
  s.request.queue.filter fun e => e.kind == .write && (e.outstanding || e.state == .waitMirror)

theorem noteBehind_noted (hp : s.mirror.role = .primary) (hn : s.mirror.partnerBehind = false) : noteBehind true s =
    (endWaits .okDegraded false (markEntries s.copied s)).onMirror fun x => { x with partnerBehind := true } := by
  unfold noteBehind
  dsimp only
  rw [if_pos (by simp [hp, hn])]
  rfl

/-- What the partner-behind note gives. -/
structure State.Noted (b : Bool) (s u : State) : Prop where
  frame : ∃ q m r, u = s.noting q m r
  steady : u.steady = { s.steady with partnerBehind := b }
  behind : u.mirror.behind = s.mirror.behind
  out : u.mirror.out = s.mirror.out
  dirty : u.mirror.dirty =
    if (b && !s.mirror.partnerBehind && s.mirror.role == .primary) = true then
      (s.copied.filterMap (·.extent)).foldl (fun d x => d ||| s.regions x) s.mirror.dirty
    else s.mirror.dirty
  noWaits : (b && !s.mirror.partnerBehind && s.mirror.role == .primary) = true →
    ∀ e ∈ u.request.queue, e.state ≠ .waitMirror

theorem noted_noteBehind (b : Bool) (s : State) : s.Noted b (noteBehind b s) := by
  cases h : b && !s.mirror.partnerBehind && s.mirror.role == .primary with
  | false =>
    rw [noteBehind_plain h]
    exact
      { frame := ⟨_, _, s.engine.redo, rfl⟩
        steady := rfl
        behind := rfl
        out := rfl
        dirty := by rw [if_neg (by simp [h])]; rfl
        noWaits := fun hn => absurd (h.symm.trans hn) nofun }
  | true =>
    obtain ⟨⟨rfl, hn⟩, hp⟩ : (b = true ∧ s.mirror.partnerBehind = false) ∧ s.mirror.role = .primary := by simpa using h
    have hw := noWaits_endWaits .okDegraded false (markEntries s.copied s)
    obtain ⟨c, r, hm⟩ := markEntries_frame s.copied s
    obtain ⟨q, c', he⟩ := endWaits_frame (st := .okDegraded) rfl nofun (markEntries s.copied s)
    have hst : (markEntries s.copied s).steady = s.steady := by
      refine steady_foldl _ (fun v e => ?_) _ s
      split
      · exact steady_markExtent v _
      · rfl
    have hst' := (steady_endWaits (markEntries s.copied s) .okDegraded false).trans hst
    have hd := dirty_markEntries s.copied s hp
    rw [noteBehind_noted hp hn]
    rw [he] at hst' hw ⊢
    generalize markEntries s.copied s = v at hm hst' hw hd ⊢
    exact
      { frame := by rw [hm]; exact ⟨_, _, _, rfl⟩
        steady := congrArg (fun k : Steady => { k with partnerBehind := true }) hst'
        behind := by
          have hv : v.mirror.behind = s.mirror.behind := by rw [hm]; rfl
          exact hv
        out := by
          have hv : v.mirror.out = s.mirror.out := by rw [hm]; rfl
          exact hv
        dirty := by rw [if_pos h]; exact hd
        noWaits := fun _ => hw }

/-- R154: the rejoin test adds at most one RESYNC-END. -/
theorem rejoinTest_frame (role : Role) (f : Nat) (b : Bool) (s : State) : ∃ l, rejoinTest role f b s =
    s.onMirror fun x => { x with out := x.out ++ l } := by
  unfold rejoinTest
  split
  · split
    · exact ⟨_, rfl⟩
    · exact ⟨[], by simp only [List.append_nil]; rfl⟩
  · exact ⟨[], by simp only [List.append_nil]; rfl⟩

theorem rejoinTest_rejoins (hp : s.partner = some o) (hr : s.mirror.role = .primary) (hd : s.mirror.dirty = 0)
    (ho : s.mirror.out.any isResyncEnd = false) (hs : s.slotHolds .mirror isResyncEnd = false) :
    OutMsg.resyncEnd o s.mirror.epoch true ∈ (rejoinTest .secondary s.mirror.epoch true s).mirror.out := by
  unfold rejoinTest
  simp only [hp]
  rw [if_pos ⟨hr, hd, trivial, trivial, trivial, by simp [ho, hs]⟩]
  exact List.mem_append_right _ List.mem_cons_self

/-! ## The entry that an AWAKE sets (R33) -/

/-- The station after an AWAKE's own entry is set, before the mirror unit and the watch unit turn to it. -/
def State.awakened (o : Station) (x : Announcement) (s : State) : State :=
  clearWaking o (countMismatch x.budget (s.onPeers fun v => v.set o (v[o].announce x s.tick)))

theorem awakeInForce_eq (o : Station) (x : Announcement) (s : State) :
    awakeInForce o x s = forwardNext o (partnerAwake o x (s.awakened o x)) := rfl

theorem awakened_frame (o : Station) (x : Announcement) (s : State) : ∃ a, s.awakened o x =
    { s with
      peers := s.peers.set o (x.entry s.tick), announce := a
      watch := { s.watch with marks := s.watch.marks.set o { s.watch.marks[o] with waking := none } } } := by
  unfold State.awakened countMismatch
  split <;> exact ⟨_, rfl⟩

theorem steady_awakened (o : Station) (x : Announcement) (s : State) : (s.awakened o x).steady =
    { s.steady with peers := s.peers.set o (x.entry s.tick), counters := s.mismatched x.budget } := by
  unfold State.awakened countMismatch State.mismatched
  by_cases h : s.shelf.census = .complete ∧ x.budget ≠ s.shelf.budget
  · rw [if_pos (by exact h), if_pos h]
    rfl
  · rw [if_neg (by exact h), if_neg h]
    rfl

theorem steady_forwardNext (n : Station) (s : State) : (forwardNext n s).steady = s.steady := by
  unfold forwardNext
  split
  · split <;> rfl
  · rfl

theorem forwardNext_frame (n : Station) (s : State) : ∃ w, forwardNext n s = { s with watch := w } ∧ w.marks = s.watch.marks := by
  unfold forwardNext
  split
  · split
    · exact ⟨_, rfl, rfl⟩
    · exact ⟨s.watch, rfl, rfl⟩
  · exact ⟨s.watch, rfl, rfl⟩

theorem partnerAwake_other {x : Announcement} (h : s.partner ≠ some o) : partnerAwake o x s = s := if_neg h

/-! ## The oldest held request goes (R172) -/

theorem forwardNext_goes {f : ProxyEntry} (hd : s.duty = true)
    (hf : s.watch.proxy.find? (fun g => g.target == o) = some f) (hh : ∀ g ∈ s.watch.proxy, g.target = o → g.state = .held)
    (hp : s.watchPending (isForwardTo o) = false) : forwardNext o s = sendForward f s := by
  have hany : (s.watch.proxy.any fun e => e.target == o && e.forwarding) = false := by
    refine List.any_eq_false.mpr fun g hg => ?_
    by_cases hgo : g.target = o
    · simp [ProxyEntry.forwarding, hh g hg hgo]
    · simp [hgo]
  unfold forwardNext
  rw [if_pos ⟨hd, by simp [hany], by simp [hp]⟩, hf]

theorem forwardNext_stays (h : (∀ g ∈ s.watch.proxy, g.target ≠ o) ∨ (∃ g ∈ s.watch.proxy, g.target = o ∧ g.state ≠ .held)
    ∨ s.watchPending (isForwardTo o) = true) : forwardNext o s = s := by
  unfold forwardNext
  split
  · rename_i hc
    obtain ⟨-, hany, hp⟩ := hc
    split
    · rename_i f hf
      rcases h with h | ⟨g, hg, hgo, hgh⟩ | h
      · exact absurd (by simpa using List.find?_some hf) (h f (List.mem_of_find?_eq_some hf))
      · have hno : ∀ x ∈ s.watch.proxy, x.target = o → x.forwarding = false := by simpa using hany
        have hfwd := hno g hg hgo
        simp [ProxyEntry.forwarding, hgh] at hfwd
      · simp [h] at hp
    · rfl
  · rfl

theorem find?_and_of_find? {l : List ProxyEntry} {f : ProxyEntry} (h : l.find? (fun g => g.target == o) = some f) :
    l.find? (fun g => g.target == o && g.key == f.key) = some f := by
  obtain ⟨hf, as, bs, rfl, hn⟩ := List.find?_eq_some_iff_append.mp h
  refine List.find?_eq_some_iff_append.mpr ⟨by simpa using hf, as, bs, rfl, fun a ha => ?_⟩
  have h := hn a ha
  simp only [Bool.not_eq_true', Bool.and_eq_false_imp] at h ⊢
  intro ht
  exact absurd ht (by simp [h])

end

/-! AWAKE received: the entry, the roles, and the oldest held request. -/

section
variable {s : State} {c : Instr} {α : Type} {o : Station} {a : AnswerSlot} {body : Option α}
  {effect : α → Answer → State → State} {x : α} {k : Steady} {P : State → Prop}

/-! ## Broadcasts that every station takes -/

theorem hear_taken (ht : s.takesPart = true) (ho : o ≠ s.station) (hb : body = some x) (ha : a.obj = false) :
    hear (broadcastInForce · a) o body taken effect s = effect x .acknowledge (heard o (s.answers .acknowledge)) :=
  hear_inForce (d := .acknowledge) ht ho hb rfl (by rw [broadcastInForce_taken, ha]; rfl)

theorem leaves_objected (ht : s.takesPart = true) (ho : o ≠ s.station) (hb : body = some x) (ha : a.obj = true)
    (hc : exec c s = takeEvent (hear (broadcastInForce · a) o body taken effect) s) :
    Leaves c s { s.steady with answer := .acknowledge } :=
  leaves_event (notReset_of_takesPart ht) hc
    (hear_notInForce (d := .acknowledge) ht ho hb rfl (by rw [broadcastInForce_taken, ha]; rfl))
    (steady_answers_acknowledge s)

end

section
variable {s : State} {o : Station} {x : Announcement}

theorem heardFrom_set (o : Station) (e : PresenceEntry) (s : State) : (s.heardFrom o).set o e = s.peers.set o e :=
  Vector.set_set _ _

theorem mismatched_of_steady {v : State} (hc : v.counters = s.counters) (hs : v.shelf = s.shelf) (b : Nat) :
    v.mismatched b = s.mismatched b := by
  unfold State.mismatched State.counted
  rw [hc, hs]

/-- The steady part after the entry that an AWAKE sets. -/
theorem steady_awakened_heard (o : Station) (x : Announcement) (s : State) :
    ((heard o (s.answers .acknowledge)).awakened o x).steady =
      { s.steady with
        answer := .acknowledge, peers := s.peers.set o (x.entry s.tick), counters := s.mismatched x.budget } := by
  have hst := steady_heard_acknowledged o s
  have hpeers : (heard o (s.answers .acknowledge)).peers = s.heardFrom o := congrArg Steady.peers hst
  have htick : (heard o (s.answers .acknowledge)).tick = s.tick := congrArg Steady.tick hst
  rw [steady_awakened, hst, hpeers, htick, heardFrom_set,
    mismatched_of_steady (s := s) (congrArg Steady.counters hst) (congrArg Steady.shelf hst)]

theorem duty_of_steady {u : State} (hp : u.power = s.power) (hs : u.shelf = s.shelf) (hn : u.station = s.station) :
    u.duty = s.duty := by
  unfold State.duty
  rw [hp, hs, hn]

/-- What the role test gives, whether the record is in use or not. -/
theorem roleTaken_roleTest {role : Role} {f : Nat} (hp : s.partner = some o) :
    let mine : Role × Nat := (s.mirror.role, s.mirror.epoch)
    let now : Role × Nat := if s.recordInUse then settledRole (s.station < o) mine (role, f) else mine
    s.RoleTaken now (if s.recordInUse then settledMap mine (role, f) now s.mirror.dirty else s.mirror.dirty)
      (roleTest role f s) := by
  cases hu : s.recordInUse with
  | true => exact roleTaken_compared hp hu
  | false =>
    rw [roleTest_unused hp hu]
    exact State.RoleTaken.same s

theorem partnerAwake_partner (hp : s.partner = some o) : partnerAwake o x s =
    rejoinTest x.role x.epoch x.behind (noteBehind x.behind (roleTest x.role x.epoch s)) := if_pos hp

/-- The mirror unit leaves the watch unit, its slot and the station's duty. -/
theorem watch_partnerAwake (o : Station) (x : Announcement) (s : State) :
    (partnerAwake o x s).watch = s.watch ∧ (partnerAwake o x s).slot .watch = s.slot .watch
      ∧ (partnerAwake o x s).duty = s.duty := by
  by_cases hp : s.partner = some o
  · have hrole := roleTaken_roleTest (role := x.role) (f := x.epoch) hp
    obtain ⟨q, m, r, hn⟩ := (noted_noteBehind x.behind (roleTest x.role x.epoch s)).frame
    obtain ⟨l, hl⟩ := rejoinTest_frame x.role x.epoch x.behind (noteBehind x.behind (roleTest x.role x.epoch s))
    rw [partnerAwake_partner hp, hl, hn]
    exact ⟨hrole.watch, hrole.slot, duty_of_steady (congrArg Steady.power hrole.steady)
      (congrArg Steady.shelf hrole.steady) (congrArg Steady.station hrole.steady)⟩
  · rw [partnerAwake_other hp]
    exact ⟨rfl, rfl, rfl⟩

/-- The watch unit when an AWAKE has set its entry and the mirror unit has turned to it. -/
theorem watch_turned (o : Station) (x : Announcement) (s : State) :
    (partnerAwake o x (s.awakened o x)).watch =
        { s.watch with marks := s.watch.marks.set o { s.watch.marks[o] with waking := none } }
      ∧ (partnerAwake o x (s.awakened o x)).slot .watch = s.slot .watch
      ∧ (partnerAwake o x (s.awakened o x)).duty = s.duty := by
  obtain ⟨hw, hslot, hduty⟩ := watch_partnerAwake o x (s.awakened o x)
  obtain ⟨b, hb⟩ := awakened_frame o x s
  exact ⟨hw.trans (by rw [hb]), hslot.trans (by rw [hb]; rfl), hduty.trans (by rw [hb]; rfl)⟩

/-- The same at a station that has just heard the AWAKE. -/
theorem watch_awoken (o : Station) (x : Announcement) (s : State) :
    let u := partnerAwake o x ((heard o (s.answers .acknowledge)).awakened o x)
    u.watch.marks[o].waking = none ∧ u.watch.out = (s.watch.out.filter fun m => !isAbsentFor o m)
      ∧ u.watch.proxy = s.watch.proxy ∧ u.watchPending (isForwardTo o) = s.watchPending (isForwardTo o)
      ∧ u.duty = s.duty := by
  obtain ⟨hw, hslot, hduty⟩ := watch_turned o x (heard o (s.answers .acknowledge))
  refine ⟨by simp [hw], ?_, ?_, ?_, hduty.trans (duty_heard o _)⟩
  · rw [hw]
    exact out_heard o (s.answers .acknowledge)
  · rw [hw]
    exact (watch_heard o (s.answers .acknowledge)).1
  · rw [State.watchPending, slotHolds_of_slot hslot, hw]
    exact watchPending_heard o (s.answers .acknowledge)

end

/-- Settles O23. -/
theorem awakeSetsTheEntry : Obligations.AwakeSetsTheEntry := by
  intro s o x p a ht ho hp
  have hr := notReset_of_takesPart ht
  refine ⟨fun ha hn => ?_, fun ha => leaves_objected ht ho hp ha rfl, fun ha hd => ?_⟩
  · refine leaves_event hr rfl (hear_taken ht ho hp ha) ?_
    have hpart : ((heard o (s.answers .acknowledge)).awakened o x).partner ≠ some o := by
      obtain ⟨b, hb⟩ := awakened_frame o x (heard o (s.answers .acknowledge))
      rw [hb, heard_frame]
      exact hn
    rw [awakeInForce_eq, steady_forwardNext, partnerAwake_other hpart, steady_awakened_heard]
  · intro others
    obtain ⟨hmark, hout, hproxy, hpend, hduty⟩ := watch_awoken o x s
    have hd' := hduty.trans hd
    obtain ⟨w, hw, hmarks⟩ := forwardNext_frame o (partnerAwake o x ((heard o (s.answers .acknowledge)).awakened o x))
    refine ⟨_, exec_event hr rfl (hear_taken ht ho hp ha), ?_, fun f hf hh hpn => ?_, fun h => ?_⟩
    · rw [awakeInForce_eq, hw]
      exact (congrArg (fun v : Vector WatchMarks 16 => v[o].waking) hmarks).trans hmark
    · rw [awakeInForce_eq, forwardNext_goes (f := f) hd' (by rw [hproxy]; exact hf) (by rw [hproxy]; exact hh)
        (hpend.trans hpn)]
      have hfo : f.target = o := by simpa using List.find?_some hf
      refine ⟨?_, ?_⟩
      · rw [← hfo]
        refine proxyEntry_onProxy_same (n := f.target) (k := f.key) ?_ ProxyEntry.resent fun _ => ⟨rfl, rfl⟩
        unfold State.proxyEntry
        rw [hfo, hproxy]
        exact find?_and_of_find? hf
      · simp only [sendForward, watchReady, onProxy, onWatch_watch, hout, hfo]
        rfl
    · rw [awakeInForce_eq, forwardNext_stays (by rw [hproxy, hpend]; exact h)]
      exact ⟨hout, hproxy⟩

/-! ## The partner's AWAKE -/

section
variable {s : State} {o : Station} {x : Announcement}

theorem slot_watchRetract_other {i : SlotId} (h : i ≠ .watch) (p : OutMsg → Bool) (s : State) :
    (watchRetract p s).2.slot i = s.slot i := by
  unfold watchRetract
  split
  · rfl
  · exact slot_withdraw_other h p s

theorem slot_heard_other {i : SlotId} (h : i ≠ .watch) (o : Station) (s : State) : (heard o s).slot i = s.slot i := by
  unfold heard
  dsimp only
  rw [slot_watchRetract_other h]
  split <;> rfl

/-- The state with the parts replaced that an AWAKE touches before the mirror unit turns to it. -/
def State.awaited (b : BusPort) (p : Vector PresenceEntry 16) (w : WatchUnit) (a : Announcer) (s : State) : State :=
  { s with bus := b, peers := p, watch := w, announce := a }

theorem awakened_heard_eq (o : Station) (x : Announcement) (s : State) : ∃ b p w a,
    (heard o (s.answers .acknowledge)).awakened o x = s.awaited b p w a
      ∧ (s.awaited b p w a).slot .mirror = s.slot .mirror := by
  obtain ⟨a, ha⟩ := awakened_frame o x (heard o (s.answers .acknowledge))
  have hslot := slot_heard_other (i := .mirror) nofun o (s.answers .acknowledge)
  refine ⟨((heard o (s.answers .acknowledge)).awakened o x).bus, ((heard o (s.answers .acknowledge)).awakened o x).peers,
    ((heard o (s.answers .acknowledge)).awakened o x).watch,
    ((heard o (s.answers .acknowledge)).awakened o x).announce, ?_, ?_⟩
  · rw [ha, heard_frame]
    rfl
  · rw [ha]
    exact hslot

/-- What the mirror unit makes of its partner's AWAKE. -/
theorem partnerAwake_spec (hp : s.partner = some o) :
    let mine : Role × Nat := (s.mirror.role, s.mirror.epoch)
    let theirs : Role × Nat := (x.role, x.epoch)
    let now : Role × Nat := if s.recordInUse then settledRole (s.station < o) mine theirs else mine
    let map : BitVec 256 := if s.recordInUse then settledMap mine theirs now s.mirror.dirty else s.mirror.dirty
    let noted : Bool := x.behind && !s.mirror.partnerBehind && now.1 == .primary
    let u := partnerAwake o x s
    u.steady = { s.steady with
        role := now.1, epoch := now.2, partnerBehind := x.behind
        wakeInterval := if mine.1 = .primary ∧ now.1 ≠ .primary then none else s.mirror.wakeInterval }
      ∧ u.mirror.behind = settledBehind mine now s.mirror.behind
      ∧ u.mirror.dirty =
        (if noted then (s.copied.filterMap (·.extent)).foldl (fun d y => d ||| s.regions y) map else map)
      ∧ (noted = true → ∀ e ∈ u.request.queue, e.state ≠ .waitMirror)
      ∧ (now.1 = .primary → u.mirror.dirty = 0 → x.behind = true → theirs = (.secondary, now.2) →
          s.mirror.out.any isResyncEnd = false → s.slotHolds .mirror isResyncEnd = false →
          OutMsg.resyncEnd o now.2 true ∈ u.mirror.out) := by
  intro mine theirs now map noted u
  have hrole : s.RoleTaken now map (roleTest x.role x.epoch s) := roleTaken_roleTest hp
  have hu : u = _ := partnerAwake_partner hp
  rw [hu]
  generalize roleTest x.role x.epoch s = v at hrole
  have hvrole : v.mirror.role = now.1 := congrArg Steady.role hrole.steady
  have hvepoch : v.mirror.epoch = now.2 := congrArg Steady.epoch hrole.steady
  have hvpart : v.partner = some o := by
    have hset : v.settings = s.settings := congrArg Steady.settings hrole.steady
    unfold State.partner at hp ⊢
    rw [hset]
    exact hp
  have hvnoted : (x.behind && !v.mirror.partnerBehind && v.mirror.role == .primary) = noted := by
    have hb : v.mirror.partnerBehind = s.mirror.partnerBehind := congrArg Steady.partnerBehind hrole.steady
    rw [hvrole, hb]
  have hn := noted_noteBehind x.behind v
  generalize noteBehind x.behind v = w at hn
  have hwst : w.steady = _ := hn.steady.trans (congrArg (fun k : Steady => { k with partnerBehind := x.behind }) hrole.steady)
  have hwdirty : w.mirror.dirty =
      if noted then (s.copied.filterMap (·.extent)).foldl (fun d y => d ||| s.regions y) map else map := by
    rw [hn.dirty, hvnoted, hrole.dirty]
    by_cases h : noted = true
    · have hprim : now.1 = .primary := by
        simp only [noted, Bool.and_eq_true, beq_iff_eq] at h
        exact h.2
      have hreq : v.copied = s.copied := by
        unfold State.copied
        rw [(hrole.kept hprim).1]
      have hreg : ∀ y, v.regions y = s.regions y := fun y => by
        have hsize : v.mirror.regionSize = s.mirror.regionSize := congrArg Steady.regionSize hrole.steady
        have husable : v.drive.usable = s.drive.usable := congrArg Steady.usable hrole.steady
        unfold State.regions
        rw [hsize, husable]
      simp only [if_pos h, hreq, hreg]
    · rw [if_neg h, if_neg h]
  obtain ⟨l, hl⟩ := rejoinTest_frame x.role x.epoch x.behind w
  refine ⟨?_, ?_, ?_, ?_, fun hprim hd hb ht ho hs => ?_⟩
  · rw [hl]
    exact hwst
  · rw [hl]
    exact hn.behind.trans hrole.behind
  · rw [hl]
    exact hwdirty
  · rw [hl]
    exact fun h => hn.noWaits (hvnoted.trans h)
  · obtain ⟨hrx, hex⟩ := Prod.mk.inj ht
    obtain ⟨-, hbus, hout⟩ := hrole.kept hprim
    have hwrole : w.mirror.role = .primary := (congrArg Steady.role hwst).trans hprim
    have hwepoch : w.mirror.epoch = now.2 := congrArg Steady.epoch hwst
    have hwpart : w.partner = some o := by
      obtain ⟨q, m, r, hw⟩ := hn.frame
      rw [hw]
      exact hvpart
    have hwd : w.mirror.dirty = 0 := by
      rw [hl] at hd
      exact hd
    have hwbus : w.bus = s.bus := by
      obtain ⟨q, m, r, hw⟩ := hn.frame
      rw [hw]
      exact hbus
    have hmem := rejoinTest_rejoins hwpart hwrole hwd (by rw [hn.out, hout]; exact ho)
      (by rw [slotHolds_of_slot (s := s) (by unfold State.slot; rw [hwbus])]; exact hs)
    rw [hrx, hex, hb, ← hwepoch]
    exact hmem

end

/-- Settles O24. -/
theorem partnerAwakeSettlesRoles : Obligations.PartnerAwakeSettlesRoles := by
  intro s o x p a ht ho hp ha hn mine theirs used now map noted copied marked
  obtain ⟨b, q, w, c, hv, hslot⟩ := awakened_heard_eq o x s
  have hst := steady_awakened_heard o x s
  rw [hv] at hst
  obtain ⟨hsteady, hbehind, hdirty, hwaits, hrejoin⟩ := partnerAwake_spec (s := s.awaited b q w c) (x := x) hn
  obtain ⟨w', hw, -⟩ := forwardNext_frame o (partnerAwake o x (s.awaited b q w c))
  have heq : hearAwake o p a s = forwardNext o (partnerAwake o x (s.awaited b q w c)) := by
    refine (hear_taken ht ho hp ha).trans ?_
    rw [awakeInForce_eq, hv]
  refine does_event (notReset_of_takesPart ht) rfl heq ((steady_forwardNext _ _).trans (hsteady.trans ?_)) ?_
  · rw [hst]
    rfl
  · rw [hw]
    exact ⟨hbehind, hdirty, hwaits, fun hprim hd hb hth hout hs =>
      hrejoin hprim hd hb hth hout (by rw [slotHolds_of_slot hslot]; exact hs)⟩

/-! What the ends of entries and the entry into FAULT leave (R80, R113 to R115). -/

section
variable {s : State}

/-! ## Units that no end of an entry touches -/

/-- The state without what the ends of entries may change. -/
def State.offEntries (s : State) : State :=
  { s with
    request := { s.request with queue := [], out := [] }
    mirror :=
      { s.mirror with
        dirty := 0, copies := [], calls := .quiet, out := [], behind := false, behindAnnounced := false, readWake := false }
    engine := { s.engine with redo := false } }

theorem offEntries_onEntry (k : Key) (f : Entry → Entry) (s : State) : (s.onEntry k f).offEntries = s.offEntries := rfl

theorem offEntries_markRegions (m : BitVec 256) (s : State) : (markRegions m s).offEntries = s.offEntries := by
  unfold markRegions
  split <;> rfl

theorem offEntries_setBehind (s : State) : (setBehind s).offEntries = s.offEntries := by
  unfold setBehind
  split <;> rfl

theorem offEntries_readWake (s : State) : (readWake s).offEntries = s.offEntries := by
  unfold readWake
  split
  · split <;> rfl
  · rfl

theorem offEntries_endEntry (k : Key) (st : Status) (s : State) : (endEntry k st s).offEntries = s.offEntries := by
  unfold endEntry
  split
  · rfl
  · dsimp only
    have hwake : ∀ v : State, (if st = .stale then readWake v else v).offEntries = v.offEntries := fun v => by
      split
      · exact offEntries_readWake v
      · rfl
    rw [hwake]
    split
    · split
      · exact (offEntries_markRegions _ _).trans (by split <;> rfl)
      · split <;> rfl
    · split <;> rfl

theorem offEntries_endReplica (k : Key) (b : Bool) (s : State) : (endReplica k b s).offEntries = s.offEntries := by
  unfold endReplica
  split
  · dsimp only
    split
    · exact offEntries_setBehind _
    · rfl
  · rfl

theorem offEntries_endWork (st : Status) (s : State) (e : Entry) : (endWork st s e).offEntries = s.offEntries := by
  unfold endWork
  split
  · exact offEntries_endReplica _ _ _
  · exact offEntries_endEntry _ _ _

theorem offEntries_endWorks (st : Status) (l : List Entry) : ∀ s : State,
    (l.foldl (endWork st) s).offEntries = s.offEntries := by
  induction l with
  | nil => exact fun _ => rfl
  | cons e l ih => exact fun s => (ih _).trans (offEntries_endWork st s e)

theorem steady_faultEntries (s : State) : (faultEntries s).steady = s.steady :=
  steady_foldl _ (fun s e => steady_endWork s _ e) _ s

/-! ## The budget unit when power is removed -/

/-- The state without the BUDGET slot, the line and the claim. -/
def State.offClaim (s : State) : State :=
  { s with
    bus := { s.bus with slots := { s.bus.slots with budget := none }, sending := none }
    claim := State.reset.claim }

theorem offClaim_budgetRetract (p : OutMsg → Bool) (s : State) : (budgetRetract p s).2.offClaim = s.offClaim := by
  unfold budgetRetract
  split
  · rfl
  · rw [(withdraw_spec .budget p s).1.frame]
    rfl

theorem offClaim_settleRemoved (s : State) : (settleRemoved s).offClaim = s.offClaim := by
  unfold settleRemoved
  split <;> rfl

theorem offClaim_powerRemoved (s : State) : (powerRemoved s).offClaim = s.offClaim := by
  have hb := offClaim_budgetRetract isSettle (s.onClaim fun c => { c with fullWanted := true })
  unfold powerRemoved
  split
  case h_1 | h_2 =>
    split
    · dsimp only
      split
      · exact (offClaim_settleRemoved _).trans hb
      · exact hb
    · rfl
  all_goals rfl

theorem powerRemoved_none (h : s.claim.state = .none) : powerRemoved s = s := by
  unfold powerRemoved
  rw [h]

/-! ## The entry into FAULT -/

/-- The state in FAULT before its entries end, with the engine's read pages, the record state and the calls as the end of the
command in flight leaves them. -/
def State.failing (cause : FaultCause) (o : List Page) (c : RecordCond) (k : RecordCalls) (s : State) : State :=
  { s with
    drive :=
      { s.drive with
        state := .fault, cause := some cause, powered := false, deferral := none, readyWait := none, flight := none
        idle := none, need := false, hotStop := false }
    comp := .reset
    mirror := { s.mirror with promotion := none, cond := c, calls := k }
    engine := { s.engine with orphans := o } }

theorem endFlightByFault_frame (s : State) : ∃ o c k, endFlightByFault s =
    { s with
      drive := { s.drive with flight := none }
      mirror := { s.mirror with cond := c, calls := k }
      engine := { s.engine with orphans := o } } := by
  unfold endFlightByFault
  split
  · rename_i h
    refine ⟨s.engine.orphans, s.mirror.cond, s.mirror.calls, ?_⟩
    rw [← h]
  · dsimp only
    split
    case h_1 | h_2 | h_3 | h_4 => exact ⟨s.engine.orphans, s.mirror.cond, s.mirror.calls, rfl⟩
    case h_5 => exact ⟨s.engine.orphans, .notLoaded, s.mirror.calls, rfl⟩
    case h_6 => exact ⟨s.engine.orphans, s.mirror.cond, _, rfl⟩
    case h_7 => exact ⟨[], s.mirror.cond, s.mirror.calls, rfl⟩

theorem enterFault_eq (cause : FaultCause) (h : s.drive.state ≠ .fault) : ∃ o c k,
    enterFault cause s = powerRemoved (stopResync false (faultEntries (s.failing cause o c k))) := by
  obtain ⟨o, c, k, hf⟩ := endFlightByFault_frame s
  refine ⟨o, c, { k with clean := false }, ?_⟩
  unfold enterFault
  rw [if_neg h, hf]
  rfl

theorem enterFault_same (cause : FaultCause) (h : s.drive.state = .fault) : enterFault cause s = s := if_pos h

theorem steady_failing (cause : FaultCause) (o : List Page) (c : RecordCond) (k : RecordCalls) (s : State) :
    (s.failing cause o c k).steady = s.faulted cause := by
  simp [State.failing, State.steady, State.faulted, State.unpowered, State.counters, Comparator.reset]

@[simp] theorem steady_enterFault (cause : FaultCause) (h : s.drive.state ≠ .fault) :
    (enterFault cause s).steady = s.faulted cause := by
  obtain ⟨o, c, k, he⟩ := enterFault_eq cause h
  rw [he, steady_powerRemoved, steady_stopResync, steady_faultEntries, steady_failing]

theorem stopResync_flight (h : s.drive.flight = none) : (stopResync false s).drive = s.drive := by
  have hr : s.chunkReading = false := by simp [State.chunkReading, h]
  unfold stopResync
  obtain ⟨b, l, hw⟩ := withdrawEngine_frame s
  rw [hr, hw]
  split <;> rfl

/-- A drive that enters FAULT has no command in flight any more, and the engine rests. -/
theorem flight_enterFault (cause : FaultCause) (h : s.drive.state ≠ .fault) :
    (enterFault cause s).drive.flight = none ∧ (enterFault cause s).engine.state = .idle
      ∧ (enterFault cause s).mirror.promotion = none := by
  obtain ⟨o, c, k, he⟩ := enterFault_eq cause h
  have hpow := offClaim_powerRemoved (stopResync false (faultEntries (s.failing cause o c k)))
  have hend := offEntries_endWorks .driveFault
    ((s.failing cause o c k).request.queue.filter (·.outstanding)) (s.failing cause o c k)
  have hdrive : (faultEntries (s.failing cause o c k)).drive = (s.failing cause o c k).drive := congrArg (·.drive) hend
  have hstop := stopResync_flight (s := faultEntries (s.failing cause o c k)) (by rw [hdrive]; rfl)
  have hprom : (faultEntries (s.failing cause o c k)).mirror.promotion = none := congrArg (·.mirror.promotion) hend
  obtain ⟨hframe, hidle, -⟩ := stopResync_spec (faultEntries (s.failing cause o c k))
  generalize faultEntries (s.failing cause o c k) = v at *
  have hmirror : (stopResync false v).mirror.promotion = v.mirror.promotion := by rw [hframe]
  rw [he]
  refine ⟨?_, (congrArg (·.engine.state) hpow).trans hidle,
    (congrArg (·.mirror.promotion) hpow).trans (hmirror.trans hprom)⟩
  exact (congrArg (·.drive.flight) hpow).trans ((congrArg (·.flight) hstop).trans (congrArg (·.flight) hdrive))

end

/-! ASLEEP and ABSENT received (R34, R35, R36). -/

section
variable {s u : State} {o n : Station} {p q : OutMsg → Bool}

/-! ## A message taken back from the watch unit's slot -/

/-- The message in the WATCH slot is taken back: at once, or, on the line, with the withdrawal held or refused. -/
def State.SlotTakenBack (s u : State) : Prop :=
  (s.onLine .watch = false → u.slot .watch = none)
    ∧ ∀ y, s.bus.sending = some y → y.slot = .watch → u.slot .watch = s.slot .watch
      ∧ u.bus.sending = some { y with withdrawal := if y.won then .refused else .held }

/-- The WATCH slot and the line are as they were. -/
def State.SameSlot (s u : State) : Prop := u.slot .watch = s.slot .watch ∧ u.bus.sending = s.bus.sending

theorem State.SameSlot.onLine (h : s.SameSlot u) (i : SlotId) : u.onLine i = s.onLine i := by
  unfold State.onLine
  rw [h.2]

theorem State.SameSlot.before {v : State} (h : s.SameSlot u) (g : u.SlotTakenBack v) : s.SlotTakenBack v := by
  obtain ⟨hs, hl⟩ := g
  refine ⟨fun ho => hs ((h.onLine _).trans ho), fun y hy hw => ?_⟩
  obtain ⟨hslot, hsend⟩ := hl y (h.2.trans hy) hw
  exact ⟨hslot.trans h.1, hsend⟩

theorem State.SlotTakenBack.after {v : State} (g : s.SlotTakenBack u) (h : u.SameSlot v) : s.SlotTakenBack v :=
  ⟨fun ho => h.1.trans (g.1 ho), fun y hy hw => ⟨h.1.trans (g.2 y hy hw).1, h.2.trans (g.2 y hy hw).2⟩⟩

theorem watchRetract_misses (h : s.slotHolds .watch p = false) : s.SameSlot (watchRetract p s).2 := by
  obtain ⟨-, -, hbus, htaken, -⟩ := watchRetract_spec p s
  cases ha : s.watch.out.any p with
  | true => exact ⟨congrArg (·.slots.get .watch) (hbus ha), congrArg (·.sending) (hbus ha)⟩
  | false =>
    obtain ⟨-, hslot, hsend⟩ := htaken ha
    rw [h] at hslot hsend
    exact ⟨by simpa using hslot, by simpa using hsend⟩

theorem watchRetract_takes (ha : s.watch.out.any p = false) (h : s.slotHolds .watch p = true) :
    s.SlotTakenBack (watchRetract p s).2 := by
  obtain ⟨-, -, -, htaken, -⟩ := watchRetract_spec p s
  obtain ⟨-, hslot, hsend⟩ := htaken ha
  refine ⟨fun ho => by rw [hslot, if_pos ⟨h, ho⟩], fun y hy hw => ?_⟩
  have ho : s.onLine .watch = true := by simp [State.onLine, hy, hw]
  rw [hslot, hsend, if_pos h, hy, Option.map_some, if_pos hw, ho]
  exact ⟨by simp, rfl⟩

/-- What stays in the slot does not satisfy a form that the slot's message did not satisfy. -/
theorem slotHolds_retracted (h : s.slotHolds .watch p = true) (hpq : ∀ m, p m = true → q m = false) :
    (watchRetract p s).2.slotHolds .watch q = false := by
  obtain ⟨m, hm, hpm⟩ : ∃ m, s.slot .watch = some m ∧ p m = true := by
    cases hm : s.slot .watch with
    | none => simp [State.slotHolds, hm] at h
    | some m => exact ⟨m, rfl, by simpa [State.slotHolds, hm] using h⟩
  rw [slotHolds_watchRetract hpq]
  simp [State.slotHolds, hm, hpq m hpm]

/-! ## Hearing a station -/

/-- The state whose ABSENT naming the heard station is taken back: the bus port and the watch unit's list are the old
ones. -/
theorem heard_eq (o : Station) (s : State) : ∃ v, heard o s = (watchRetract (isAbsentFor o) v).2 ∧ v.bus = s.bus
    ∧ v.watch.out = s.watch.out ∧ v.watch.proxy = s.watch.proxy
    ∧ ∃ k, v.watch.marks = s.watch.marks.set o k ∧ k = { s.watch.marks[o] with waking := k.waking } := by
  refine ⟨_, rfl, ?_⟩
  split
  · exact ⟨rfl, rfl, rfl, _, rfl, rfl⟩
  · exact ⟨rfl, rfl, rfl, s.watch.marks[o], (Vector.set_getElem_self _).symm, rfl⟩

theorem heard_marks (o : Station) (s : State) :
    (heard o s).watch.marks.set o { (heard o s).watch.marks[o] with waking := none } =
      s.watch.marks.set o { s.watch.marks[o] with waking := none } := by
  obtain ⟨v, hv, -, -, -, k, hk, hw⟩ := heard_eq o s
  have hm : (heard o s).watch.marks = s.watch.marks.set o k := by
    rw [hv, (watchRetract_spec _ _).1]
    exact hk
  rw [hm]
  simp only [Fin.getElem_fin, Vector.getElem_set_self, Vector.set_set]
  rw [hw]
  rfl

/-! ## ASLEEP in force -/

/-- The tables and marks after an ASLEEP of `o`, before its FORWARD is recalled. -/
def State.sleeper (o : Station) (s : State) : State :=
  clearWaking o (noteCleared o
    ((s.onPeers fun v =>
      v.set o { v[o] with state := .sleeping, drive := .off, holding := 0, lastHeard := s.tick }).onShelf
        fun x => x.clearStation o))

theorem sleeper_frame (o : Station) (s : State) : s.sleeper o =
    { s with
      peers := s.peers.set o { s.peers[o] with state := .sleeping, drive := .off, holding := 0, lastHeard := s.tick }
      shelf := s.cleared o
      mirror := { s.mirror with partnerBehind := if s.partner = some o then false else s.mirror.partnerBehind }
      watch := { s.watch with marks := s.watch.marks.set o { s.watch.marks[o] with waking := none } } } := by
  unfold State.sleeper noteCleared
  by_cases h : s.partner = some o
  · rw [if_pos (by exact h), if_pos h]
    rfl
  · rw [if_neg (by exact h), if_neg h]
    rfl

theorem asleepInForce_eq (o : Station) (s : State) : asleepInForce o s = recallForwards o (s.sleeper o) := rfl

theorem cleared_of_shelf {v : State} (h : v.shelf = s.shelf) (n : Station) : v.cleared n = s.cleared n := by
  unfold State.cleared
  rw [h]

theorem partner_of_steady {v : State} (h : v.settings = s.settings) : v.partner = s.partner := by
  unfold State.partner
  rw [h]

theorem heardFrom_get (o : Station) (s : State) :
    (s.heardFrom o)[o] = { s.peers[o] with lastHeard := s.tick } := by
  simp [State.heardFrom]

theorem steady_sleeper_heard (o : Station) (s : State) : ((heard o (s.answers .acknowledge)).sleeper o).steady =
    { s.steady with
      answer := .acknowledge
      peers := s.peers.set o { s.peers[o] with state := .sleeping, drive := .off, holding := 0, lastHeard := s.tick }
      shelf := s.cleared o
      partnerBehind := if s.partner = some o then false else s.mirror.partnerBehind } := by
  have hst := steady_heard_acknowledged o s
  generalize heard o (s.answers .acknowledge) = v at hst
  have hpeers : v.peers = s.heardFrom o := congrArg Steady.peers hst
  have htick : v.tick = s.tick := congrArg Steady.tick hst
  have hbehind : v.mirror.partnerBehind = s.mirror.partnerBehind := congrArg Steady.partnerBehind hst
  have hsleep : (v.sleeper o).steady = { v.steady with
      peers := v.peers.set o { v.peers[o] with state := .sleeping, drive := .off, holding := 0, lastHeard := v.tick }
      shelf := v.cleared o
      partnerBehind := if v.partner = some o then false else v.mirror.partnerBehind } := by
    rw [sleeper_frame]
    rfl
  rw [hsleep, hst, hpeers, htick, hbehind, cleared_of_shelf (congrArg Steady.shelf hst),
    partner_of_steady (congrArg Steady.settings hst), heardFrom_set, heardFrom_get]

theorem recallForwards_proxy (n : Station) (s : State) : (recallForwards n s).watch.proxy =
    s.watch.proxy.map fun e =>
      if e.target = n ∧ e.state ≠ .held then
        (if e.state = .sending ∧ (watchRetract (isForwardTo n) s).1 = false then { e with recalled := true }
          else { e with state := .held })
      else e := by
  have hp : (watchRetract (isForwardTo n) s).2.watch.proxy = s.watch.proxy := by
    rw [(watchRetract_spec _ _).1]
  unfold recallForwards
  dsimp only [State.onWatch]
  rw [hp]
  refine List.map_congr_left fun e _ => ?_
  simp only [ProxyEntry.forwarding, bne_iff_ne, and_comm]

theorem steady_recallForwards (n : Station) (s : State) : (recallForwards n s).steady = s.steady :=
  steady_watchRetract s (isForwardTo n)

theorem any_forwards_heard (o : Station) (s : State) :
    (heard o s).watch.out.any (isForwardTo o) = s.watch.out.any (isForwardTo o) := by
  rw [out_heard, List.any_filter]
  congr 1
  funext m
  cases h : isAbsentFor o m with
  | false => rfl
  | true => simp [isForwardTo_of_absent h]

theorem slot_onWatch (f : WatchUnit → WatchUnit) (s : State) : s.SameSlot (s.onWatch f) := ⟨rfl, rfl⟩

theorem sameSlot_sleeper (o : Station) (s : State) : s.SameSlot (s.sleeper o) := by
  rw [sleeper_frame]
  exact ⟨rfl, rfl⟩

/-- A pending ABSENT or FORWARD of a station that has gone to sleep is taken back. -/
theorem asleepInForce_takesBack (hp : p ∈ [isAbsentFor o, isForwardTo o]) (ha : s.watch.out.any p = false)
    (h : s.slotHolds .watch p = true) : s.SlotTakenBack (asleepInForce o (heard o s)) := by
  obtain ⟨v, hv, hbus, hout, -⟩ := heard_eq o s
  have hsame : s.SameSlot v := ⟨congrArg (·.slots.get .watch) hbus, congrArg (·.sending) hbus⟩
  have hsleep := sameSlot_sleeper o (heard o s)
  have hend : asleepInForce o (heard o s) = recallForwards o ((heard o s).sleeper o) := rfl
  rw [hend]
  have hrec : (watchRetract (isForwardTo o) ((heard o s).sleeper o)).2.SameSlot
      (recallForwards o ((heard o s).sleeper o)) := ⟨rfl, rfl⟩
  generalize recallForwards o ((heard o s).sleeper o) = u at hrec
  rcases List.mem_cons.mp hp with rfl | hp
  · have hholds : v.slotHolds .watch (isAbsentFor o) = true := (slotHolds_of_slot hsame.1 _).trans h
    have htake := hsame.before (watchRetract_takes (by rw [hout]; exact ha) hholds)
    rw [← hv] at htake
    refine ((htake.after hsleep).after (watchRetract_misses ?_)).after hrec
    rw [slotHolds_of_slot hsleep.1, hv]
    exact slotHolds_retracted hholds fun m => isForwardTo_of_absent
  · obtain rfl : p = isForwardTo o := by simpa using hp
    have hmiss : v.SameSlot (heard o s) := by
      rw [hv]
      refine watchRetract_misses ?_
      rw [slotHolds_of_slot hsame.1]
      cases hm : s.slot .watch with
      | none => simp [State.slotHolds, hm]
      | some m =>
        have hf : isForwardTo o m = true := by simpa [State.slotHolds, hm] using h
        have hn : isAbsentFor o m = false := by
          cases hab : isAbsentFor o m with
          | false => rfl
          | true => rw [isForwardTo_of_absent hab] at hf; cases hf
        simp [State.slotHolds, hm, hn]
    have hall : s.SameSlot ((heard o s).sleeper o) :=
      ⟨hsleep.1.trans (hmiss.1.trans hsame.1), hsleep.2.trans (hmiss.2.trans hsame.2)⟩
    refine (hall.before (watchRetract_takes ?_ ?_)).after hrec
    · rw [sleeper_frame]
      exact (any_forwards_heard o s).trans ha
    · exact (slotHolds_of_slot hall.1 _).trans h

theorem sleeper_removed (o : Station) (s : State) : (watchRetract (isForwardTo o) ((heard o s).sleeper o)).1 =
    (s.watch.out.any (isForwardTo o) || (s.slotHolds .watch (isForwardTo o) && !s.onLine .watch)) := by
  have hline : (heard o s).onLine .watch = s.onLine .watch := by
    have h : (heard o s).bus.sending.map (fun t => (t.slot, t.msg, t.frame, t.won)) =
      s.bus.sending.map fun t => (t.slot, t.msg, t.frame, t.won) := congrArg Steady.line (steady_heard o)
    unfold State.onLine
    cases hs : s.bus.sending <;> cases hu : (heard o s).bus.sending <;> simp_all
  have hout := any_forwards_heard o s
  have hslot := slotHolds_heard (o := o) (p := isForwardTo o) (fun m => isForwardTo_of_absent) s
  obtain ⟨-, -, -, -, hr⟩ := watchRetract_spec (isForwardTo o) ((heard o s).sleeper o)
  rw [hr, (sameSlot_sleeper o _).onLine, slotHolds_of_slot (sameSlot_sleeper o _).1, hline, hslot, sleeper_frame]
  dsimp only
  rw [hout]

end

/-- Settles O25. -/
theorem asleepClearsTheSender : Obligations.AsleepClearsTheSender := by
  intro s o a ht ho removed
  refine ⟨fun ha => ?_, fun ha => leaves_objected ht ho rfl ha rfl⟩
  have heq := hear_taken (effect := fun _ _ s => asleepInForce o s) (a := a) (body := parseEmpty []) ht ho rfl ha
  refine does_event (notReset_of_takesPart ht) rfl heq ?_ ?_
  · rw [asleepInForce_eq, steady_recallForwards, steady_sleeper_heard]
  · have hs : (s.answers .acknowledge).watch = s.watch := rfl
    refine ⟨?_, ?_, ?_, fun p hp hn hh => asleepInForce_takesBack (s := s.answers .acknowledge) hp hn hh⟩
    · have hm := heard_marks o (s.answers .acknowledge)
      have hr : (recallForwards o ((heard o (s.answers .acknowledge)).sleeper o)).watch.marks =
          ((heard o (s.answers .acknowledge)).sleeper o).watch.marks :=
        congrArg (·.watch.marks) (watchRetract_spec (isForwardTo o) _).1
      refine hr.trans ?_
      rw [sleeper_frame]
      exact hm
    · have hr := (watchRetract_spec (isForwardTo o) ((heard o (s.answers .acknowledge)).sleeper o)).2.1
      refine hr.trans ?_
      rw [sleeper_frame]
      dsimp only
      rw [out_heard, List.filter_filter]
      refine List.filter_congr fun m _ => ?_
      exact Bool.and_comm _ _
    · have hr := recallForwards_proxy o ((heard o (s.answers .acknowledge)).sleeper o)
      refine hr.trans ?_
      rw [sleeper_removed, sleeper_frame]
      dsimp only
      rw [(watch_heard o _).1]
      rfl

/-! ABSENT received (R35, R36, R64, R81). -/

section
variable {s : State} {o n : Station} {a : AnswerSlot}

/-! ## An ABSENT naming another station -/

theorem stationOf_ofNat (n : Station) : stationOf (BitVec.ofNat 8 n.val) = some n := by
  have h : (BitVec.ofNat 8 n.val).toNat = n.val := by
    rw [BitVec.toNat_ofNat]
    have := n.isLt
    omega
  simp [stationOf, h]

theorem parseAbsent_other (h : n ≠ o) : parseAbsent o [BitVec.ofNat 8 n.val] = some n := by
  simp [parseAbsent, stationOf_ofNat, h]

theorem steady_noteCleared (n : Station) (s : State) : (noteCleared n s).steady =
    { s.steady with partnerBehind := if s.partner = some n then false else s.mirror.partnerBehind } := by
  unfold noteCleared
  split <;> rfl

theorem steady_absentInForce (n : Station) (s : State) : (absentInForce n s).steady =
    { s.steady with
      peers := s.peers.set n { s.peers[n] with state := .absent, holding := 0 }
      shelf := s.cleared n
      partnerBehind := if s.partner = some n then false else s.mirror.partnerBehind } := by
  unfold absentInForce
  dsimp only
  rw [steady_endProxies, steady_watchRetract, clearWaking, steady_onMarks, steady_noteCleared]
  rfl

/-! ## An ABSENT naming the station itself -/

theorem placeAwake_frame (s : State) : ∃ b a, placeAwake s = { s with bus := b, announce := a } := by
  unfold placeAwake
  split
  · split
    · exact ⟨_, _, rfl⟩
    · split
      · exact ⟨s.bus, _, rfl⟩
      · exact ⟨s.bus, s.announce, rfl⟩
  · exact ⟨s.bus, s.announce, rfl⟩

theorem slot_placeAwake (hp : s.power = .listening) (hs : s.slot .presence = none) :
    (placeAwake s).slot .presence = some .awake := by
  unfold placeAwake
  rw [if_pos hp, hs]
  exact get_set s.bus.slots .presence (some .awake)

/-- The state of a station that hears itself named in an ABSENT in force. -/
def State.namedBy (o : Station) (s : State) : State := heard o ((placeAwake s).answers .objection)

theorem steady_namedBy (o : Station) (s : State) :
    (s.namedBy o).steady = { s.steady with answer := .objection, peers := s.heardFrom o } := by
  unfold State.namedBy
  rw [steady_heard_answers o (d := .objection) nofun, steady_placeAwake]
  obtain ⟨b, a, h⟩ := placeAwake_frame s
  rw [h]
  rfl

theorem drive_namedBy (o : Station) (s : State) : (s.namedBy o).drive = s.drive := by
  obtain ⟨b, a, h⟩ := placeAwake_frame s
  rw [State.namedBy, drive_heard, h]
  rfl

theorem absent_objected (ht : s.takesPart = true) (ho : o ≠ s.station) (hn : n = s.station) (hne : n ≠ o)
    (ha : a.ownFails = false ∨ a.obj = true) :
    hearAbsent o [BitVec.ofNat 8 n.val] a s = (placeAwake s).answers .objection :=
  hear_notInForce (d := .objection) ht ho (parseAbsent_other hne) (by rw [absentAnswer, if_pos hn]) <| by
    rcases ha with h | h <;> simp [broadcastInForce, h]

theorem absent_expels (ht : s.takesPart = true) (ho : o ≠ s.station) (hn : n = s.station) (hne : n ≠ o)
    (hf : a.ownFails = true) (ha : a.obj = false) :
    hearAbsent o [BitVec.ofNat 8 n.val] a s = expelled (s.namedBy o) := by
  refine (hear_inForce (d := .objection) ht ho (parseAbsent_other hne) (by rw [absentAnswer, if_pos hn]) ?_).trans ?_
  · simp [broadcastInForce, hf, ha]
  · refine if_pos ?_
    rw [hn]
    exact (congrArg Steady.station (steady_namedBy o s)).symm

theorem steady_expelBudget (s : State) : (expelBudget s).steady = { s.steady with shelf := s.cleared s.station } := by
  unfold expelBudget
  dsimp only
  rw [steady_budgetRetract]
  rfl

theorem expelBudget_frame (s : State) : (expelBudget s).drive = s.drive ∧ (expelBudget s).supply = s.supply
    ∧ (expelBudget s).claim.state = .none := by
  unfold expelBudget
  dsimp only
  rw [(budgetRetract_spec _ _).1]
  exact ⟨rfl, rfl, rfl⟩

/-- The claim of a station that enters FAULT without one. -/
theorem claim_enterFault (cause : FaultCause) (hc : s.claim.state = .none) :
    (enterFault cause s).claim.state = .none := by
  by_cases h : s.drive.state = .fault
  · rw [enterFault_same cause h]
    exact hc
  · obtain ⟨o, c, k, he⟩ := enterFault_eq cause h
    have hend := offEntries_endWorks .driveFault
      ((s.failing cause o c k).request.queue.filter (·.outstanding)) (s.failing cause o c k)
    have hclaim : (faultEntries (s.failing cause o c k)).claim = s.claim := congrArg (·.claim) hend
    have hstop : (stopResync false (faultEntries (s.failing cause o c k))).claim.state = .none := by
      rw [(stopResync_spec _).1]
      exact (congrArg (·.state) hclaim).trans hc
    rw [he, powerRemoved_none hstop]
    exact hstop

theorem steady_expelBudget_namedBy (o : Station) (s : State) : (expelBudget (s.namedBy o)).steady =
    { s.steady with answer := .objection, peers := s.heardFrom o, shelf := s.cleared s.station } := by
  have hst := steady_namedBy o s
  rw [steady_expelBudget, cleared_of_shelf (congrArg Steady.shelf hst), hst,
    show (s.namedBy o).station = s.station from congrArg Steady.station hst]

end

/-- Settles O26. -/
theorem absentClearsOrExpels : Obligations.AbsentClearsOrExpels := by
  intro s o n a ht ho hno p
  have hr := notReset_of_takesPart ht
  refine ⟨fun hn ha => ?_, fun hn ha => ?_, fun hn hf ha hd => ?_, fun hn hf ha hd => ?_⟩
  · have hfor : broadcastInForce .acknowledge a = true := by simp [broadcastInForce, ha]
    have heq : hearAbsent o p a s = absentInForce n (heard o (s.answers .acknowledge)) := by
      refine (hear_inForce (d := .acknowledge) ht ho (parseAbsent_other hno) (by rw [absentAnswer, if_neg hn]) hfor).trans ?_
      refine if_neg ?_
      rw [show (heard o (s.answers .acknowledge)).station = s.station from
        congrArg Steady.station (steady_heard_acknowledged o s)]
      exact hn
    refine leaves_event hr rfl heq ?_
    have hst := steady_heard_acknowledged o s
    generalize heard o (s.answers .acknowledge) = v at hst
    have hpeers : v.peers = s.heardFrom o := congrArg Steady.peers hst
    have hbehind : v.mirror.partnerBehind = s.mirror.partnerBehind := congrArg Steady.partnerBehind hst
    rw [steady_absentInForce, hst, hpeers, hbehind, cleared_of_shelf (congrArg Steady.shelf hst),
      partner_of_steady (congrArg Steady.settings hst)]
  · refine does_event hr rfl (absent_objected ht ho hn hno ha) ?_ fun hp hs => slot_placeAwake hp hs
    have hst := steady_placeAwake (s := s)
    have hc : (placeAwake s).counters = s.counters := congrArg Steady.counters hst
    rw [steady_answers, hst, hc]
    rfl
  · have hw := steady_expelBudget_namedBy o s
    obtain ⟨hdrive, hsupply, hclaim⟩ := expelBudget_frame (s.namedBy o)
    rw [drive_namedBy] at hdrive
    generalize hwe : expelBudget (s.namedBy o) = w at hw hdrive hclaim
    have heq : hearAbsent o p a s = enterFault .expelled w := by
      rw [← hwe]
      exact absent_expels ht ho hn hno hf ha
    have hd' : w.drive.state ≠ .fault := by rwa [hdrive]
    refine does_event hr rfl heq ?_ ⟨claim_enterFault _ hclaim, (flight_enterFault .expelled hd').1⟩
    have hs : w.supply = s.supply := congrArg Steady.supply hw
    rw [steady_enterFault _ hd', State.faulted, hw, State.unpowered, hs, hdrive]
    rfl
  · obtain ⟨hdrive, -, -⟩ := expelBudget_frame (s.namedBy o)
    rw [drive_namedBy] at hdrive
    refine leaves_event hr rfl (absent_expels ht ho hn hno hf ha) ?_
    rw [expelled, enterFault_same _ (by rw [hdrive]; exact hd)]
    exact steady_expelBudget_namedBy o s

/-! WAKE received (R164, R170). -/

section
variable {s : State} {o : Station} {p : List Byte} {mask : BitVec 16} {a : AnswerSlot}

/-- What a WAKE changes before the census of the resuming station begins. -/
def State.resuming (s : State) : State :=
  (setBehind ((((s.setPower .resuming).onPeers fun _ => Vector.replicate 16 (.fresh s.tick)).onWatch fun _ => .reset).onMirror
    fun m => { m with readWake := false, behindAnnounced := false })).onDrive fun d => { d with idle := none }

theorem resume_eq (s : State) : resume s = censusStart s.resuming := rfl

theorem readyQuery_frame (s : State) : ∃ c, readyQuery s = { s with claim := c } := by
  unfold readyQuery
  split <;> exact ⟨_, rfl⟩

theorem censusStart_frame (s : State) : ∃ x c, censusStart s = { s with shelf := x, claim := c } := by
  unfold censusStart
  dsimp only
  obtain ⟨c, h⟩ := readyQuery_frame ((s.onShelf fun x => x.censusStart (match s.settings with
    | some c => c.budget
    | none => 0)).onClaim fun c =>
      { c with state := .none, holdOff := none, tableTimer := none, giveUp := false, fullWanted := false })
  exact ⟨_, c, h⟩

theorem setBehind_eq (s : State) : ∃ k, setBehind s = (s.onMirror fun m =>
    { m with behind := s.mirror.role == .secondary || s.mirror.behind, behindAnnounced := k })
      ∧ (s.mirror.behindAnnounced = false → k = false) := by
  unfold setBehind
  split
  · rename_i h
    refine ⟨false, ?_, fun _ => rfl⟩
    rw [h.1]
    rfl
  · rename_i h
    refine ⟨s.mirror.behindAnnounced, ?_, id⟩
    have hb : (s.mirror.role == .secondary || s.mirror.behind) = s.mirror.behind := by
      by_cases hs : s.mirror.role = .secondary
      · have : s.mirror.behind = true := by
          cases hm : s.mirror.behind with
          | true => rfl
          | false => exact absurd ⟨hs, hm⟩ h
        rw [this, Bool.or_true]
      · rw [beq_false_of_ne hs, Bool.false_or]
    rw [hb]
    rfl

theorem resuming_eq (s : State) : s.resuming =
    { s with
      power := .resuming, peers := Vector.replicate 16 (.fresh s.tick), watch := .reset
      mirror :=
        { s.mirror with
          readWake := false, behind := s.mirror.role == .secondary || s.mirror.behind, behindAnnounced := false }
      drive := { s.drive with idle := none } } := by
  unfold State.resuming
  obtain ⟨k, hk, hf⟩ := setBehind_eq ((((s.setPower .resuming).onPeers fun _ =>
    Vector.replicate 16 (.fresh s.tick)).onWatch fun _ => .reset).onMirror
      fun m => { m with readWake := false, behindAnnounced := false })
  rw [hk, hf rfl]
  rfl

/-! ## A WAKE at a SLEEPING station -/

theorem wakeListener_marked (ho : o ≠ s.station) (hp : parseWake p = some mask) (hm : mask.getLsbD s.station.val = true) :
    wakeListener o p a s =
      if broadcastInForce .acknowledge a then resume (s.answers .acknowledge) else s.answers .acknowledge := by
  unfold wakeListener
  rw [hp]
  exact if_pos ⟨ho, hm⟩

theorem wakeListener_unmarked (hp : parseWake p = some mask) (hm : mask.getLsbD s.station.val = false) :
    wakeListener o p a s = s.answers .nothing := by
  unfold wakeListener
  rw [hp]
  exact if_neg fun h => by rw [hm] at h; cases h.2

theorem hearWake_sleeping (hp : s.power = .sleeping) : hearWake o p a s = wakeListener o p a s := if_pos hp

theorem steady_markWaking (mask : BitVec 16) (s : State) : (markWaking mask s).steady = s.steady := by
  unfold markWaking
  split <;> rfl

end

/-- Settles O27. -/
theorem wakeResumesTheMarkedStation : Obligations.WakeResumesTheMarkedStation := by
  intro s o p mask a hr ho hp
  refine ⟨fun hs hm ha => ?_, fun hs hm ha => ?_, fun hs hm => ?_, fun ht => ?_⟩
  · have heq : hearWake o p a s = censusStart (s.answers .acknowledge).resuming := by
      rw [hearWake_sleeping hs, wakeListener_marked ho hp hm, if_pos (by simp [broadcastInForce, ha]), resume_eq]
    refine does_event hr rfl heq ?_ ?_
    · rw [steady_censusStart, resuming_eq]
      rfl
    · have hclaim := censusStart_claim (s.answers .acknowledge).resuming
      have hquery : (censusStart (s.answers .acknowledge).resuming).budgetPending isQuery = true := readyQuery_pending _
      obtain ⟨x, c, h⟩ := censusStart_frame (s.answers .acknowledge).resuming
      have hw := resuming_eq (s.answers .acknowledge)
      exact ⟨(congrArg (·.mirror.behind) h).trans (congrArg (·.mirror.behind) hw),
        (congrArg (·.mirror.behindAnnounced) h).trans (congrArg (·.mirror.behindAnnounced) hw),
        (congrArg (·.mirror.readWake) h).trans (congrArg (·.mirror.readWake) hw),
        (congrArg (·.watch) h).trans (congrArg (·.watch) hw), hclaim, hquery,
        (congrArg (·.drive.idle) h).trans (congrArg (·.drive.idle) hw)⟩
  · refine leaves_event hr rfl (?_ : hearWake o p a s = s.answers .acknowledge) (steady_answers_acknowledge s)
    rw [hearWake_sleeping hs, wakeListener_marked ho hp hm, if_neg (by simp [broadcastInForce, ha])]
  · exact leaves_event hr rfl ((hearWake_sleeping hs).trans (wakeListener_unmarked hp hm)) (steady_answers_nothing s)
  · have hpow : s.power ≠ .sleeping := fun h => by simp [State.takesPart, h] at ht
    cases ha : a.obj with
    | true =>
      refine leaves_event hr (exec_wake o p a hpow)
        (hear_notInForce (d := .nothing) ht ho hp rfl (by simp [broadcastInForce, ha])) ?_
      exact steady_answers_nothing s
    | false =>
      refine leaves_event hr (exec_wake o p a hpow)
        (hear_inForce (d := .nothing) ht ho hp rfl (by simp [broadcastInForce, ha])) ?_
      have hst := steady_heard_unanswered o s
      split
      · rw [steady_markWaking]
        exact hst
      · exact hst

/-! Timers of queue entries (R108, R113, R135). -/

section
variable {s : State} {k : Key} {e : Entry} {st : Status}

/-! ## The end of one entry -/

theorem copyState_markRegions (m : BitVec 256) (j : Key) (s : State) : (markRegions m s).copyState j = s.copyState j := by
  obtain ⟨c, r, h⟩ := markRegions_frame m s
  rw [h]
  rfl

/-- The copy item of a WRITE goes with its end. -/
theorem copyState_endEntry (he : s.entry k = some e) (hs : st ≠ .stale) (hw : e.kind = .write) :
    (endEntry k st s).copyState k = none := by
  obtain rfl := entry_key he
  have h := endEntry_eq he hs
  dsimp only at h
  rw [h, copyState_markRegions, if_pos hw, copyState_dropCopy, if_pos rfl]

theorem dirty_endEntry (he : s.entry k = some e) (hm : marksAtEnd st = false) (hs : st ≠ .stale) :
    (endEntry k st s).mirror.dirty = s.mirror.dirty := by
  obtain ⟨r, c, h⟩ := endEntry_unmarked he hm hs
  rw [h]
  rfl

/-- What the end of an entry with a status shows, with the given map. -/
def State.EndsEntry (k : Key) (e : Entry) (st : Status) (map : BitVec 256) (s u : State) : Prop :=
  u.entry k = some (e.over st) ∧ u.request.out = s.request.out ++ [.entryDone k] ∧ u.mirror.dirty = map
    ∧ (e.kind = .write → u.copyState k = none)

theorem endsEntry_endEntry (he : s.entry k = some e) (hm : marksAtEnd st = false) (hs : st ≠ .stale) :
    s.EndsEntry k e st s.mirror.dirty (endEntry k st s) :=
  ⟨entry_endEntry he st, out_endEntry he st, dirty_endEntry he hm hs, copyState_endEntry he hs⟩

/-- The end of an entry that needs the drive. -/
theorem endsEntry_endWork (he : s.entry k = some e) (hr : e.kind ≠ .replica) (hs : st ≠ .stale) :
    s.EndsEntry k e st (if marksAtEnd st then s.mapAfter [e] else s.mirror.dirty) (endWork st s e) := by
  obtain rfl := entry_key he
  have h := ended_endWork he hs
  have hw : endWork st s e = endEntry e.key st s := if_neg hr
  rw [hw] at h ⊢
  exact ⟨entry_endEntry he st, out_endEntry he st, h.dirty, copyState_endEntry he hs⟩

/-- A REPLICA that ends is missed, and its SECONDARY is behind. -/
theorem endWork_replica {n : Station} {x : Extent} (he : s.entry k = some e) (hr : e.kind = .replica) (hs : st ≠ .stale)
    (hp : s.partner = some n) (hx : e.extent = some x) :
    (endWork st s e).entry k = some { e with state := .ending }
      ∧ (endWork st s e).mirror.out = s.mirror.out ++ [.mirrorMiss n k x.start x.count 0 true]
      ∧ (s.mirror.role = .secondary → (endWork st s e).mirror.behind = true) := by
  obtain rfl := entry_key he
  have h := ended_endWork he hs
  refine ⟨?_, ?_, fun hsec => ?_⟩
  · rw [h.entries e (List.mem_singleton_self e), Entry.endedBy, if_pos hr, hp]
    rfl
  · have hb : (e.kind == EntryKind.replica) = true := beq_iff_eq.mpr hr
    rw [h.misses n hp, List.filter_singleton, hb]
    simp [Entry.miss, hx]
  · rw [h.behind, hsec, hp]
    simp [hr]

/-! ## The timers -/

theorem dataExpired_eq (he : s.entry k = some e) : dataExpired k s =
    if e.state = .dataIn ∧ expired s.tick 200 e.lastPiece then endWork .dataTimeout s e else s := by
  unfold dataExpired
  rw [he]
  rfl

theorem ageExpired_eq (he : s.entry k = some e) :
    ageExpired k s = if s.aged e ∧ s.drive.state ≠ .ready then endWork .noPower s e else s := by
  unfold ageExpired
  rw [he]

theorem aged_iff {t : Tick} (hq : e.queued = some t) :
    s.aged e = true ↔ e.state = .queued ∧ 6000 ≤ (s.tick - t).toNat := by
  unfold State.aged
  rw [hq, Bool.and_eq_true, beq_iff_eq, expired_some]
  rfl

theorem mirrorWaitExpired_over {x : Extent} (he : s.entry k = some e) (hs : e.state = .waitMirror)
    (hc : s.copyOverdue k = true) (hx : e.extent = some x) :
    mirrorWaitExpired k s = endEntry k .okDegraded (markExtent x s) := by
  unfold mirrorWaitExpired
  simp only [he, hx]
  exact if_pos ⟨hs, hc⟩

theorem mirrorWaitExpired_waits (he : s.entry k = some e) (h : ¬ (e.state = .waitMirror ∧ s.copyOverdue k = true)) :
    mirrorWaitExpired k s = s := by
  unfold mirrorWaitExpired
  simp only [he]
  exact if_neg h

theorem copyOverdue_iff {t : Tick} (hc : s.copyState k = some (.waiting t)) :
    s.copyOverdue k = true ↔ 2000 ≤ (s.tick - t).toNat := by
  unfold State.copyOverdue
  rw [hc]
  exact decide_eq_true_iff

/-- R135: the wait for the copy is over: the extent is marked and the entry ends. -/
theorem endsEntry_mirrorWait {x : Extent} (he : s.entry k = some e) (hp : s.mirror.role = .primary) :
    s.EndsEntry k e .okDegraded (s.mirror.dirty ||| s.regions x) (endEntry k .okDegraded (markExtent x s)) := by
  have hd : (markExtent x s).mirror.dirty = s.mirror.dirty ||| s.regions x := dirty_markRegions hp _
  have hq : (markExtent x s).request = s.request := by
    obtain ⟨c, r, h⟩ := markRegions_frame (s.regions x) s
    have hx : markExtent x s = _ := h
    rw [hx]
  have he' : (markExtent x s).entry k = some e := (entry_of_request (by rw [hq]) k).trans he
  obtain ⟨hent, hout, hdirty, hcopy⟩ := endsEntry_endEntry (st := .okDegraded) he' rfl nofun
  exact ⟨hent, by rw [hout, hq], hdirty.trans hd, hcopy⟩

end

/-- Settles O49. -/
theorem entryTimersEndTheEntry : Obligations.EntryTimersEndTheEntry := by
  intro s k e hr he ends missed
  refine ⟨fun t hs hl => ⟨fun ht hk => ?_, fun n x ht hk hp hx => ?_, fun ht => ?_⟩, fun hs => ?_,
    fun t hs hq => ⟨fun ht hd hk => ?_, fun n x ht hd hk hp hx => ?_, fun ht => ?_⟩, fun hs => ?_,
    fun t x hs hc hx => ⟨fun ht hp => ?_, fun ht => ?_⟩, fun hs => ?_⟩
  · exact does_event hr rfl ((dataExpired_eq he).trans (if_pos ⟨hs, by rw [hl]; exact expired_some.mpr ht⟩))
      (steady_endWork s _ e) (endsEntry_endWork he hk nofun)
  · exact does_event hr rfl ((dataExpired_eq he).trans (if_pos ⟨hs, by rw [hl]; exact expired_some.mpr ht⟩))
      (steady_endWork s _ e) (endWork_replica he hk nofun hp hx)
  · refine idles_of _ hr rfl ((dataExpired_eq he).trans (if_neg fun h => ?_))
    rw [hl, expired_some] at h
    exact absurd h.2 (by omega)
  · exact idles_of _ hr rfl ((dataExpired_eq he).trans (if_neg fun h => hs h.1))
  · exact does_event hr rfl ((ageExpired_eq he).trans (if_pos ⟨(aged_iff hq).mpr ⟨hs, ht⟩, hd⟩))
      (steady_endWork s _ e) (endsEntry_endWork he hk nofun)
  · exact does_event hr rfl ((ageExpired_eq he).trans (if_pos ⟨(aged_iff hq).mpr ⟨hs, ht⟩, hd⟩))
      (steady_endWork s _ e) (endWork_replica he hk nofun hp hx)
  · refine idles_of _ hr rfl ((ageExpired_eq he).trans (if_neg fun h => ?_))
    have ha := ((aged_iff hq).mp h.1).2
    exact ht.elim (fun ht => absurd ha (by omega)) h.2
  · refine idles_of _ hr rfl ((ageExpired_eq he).trans (if_neg fun h => hs ?_))
    exact beq_iff_eq.mp (Bool.and_eq_true_iff.mp h.1).1
  · have hf := mirrorWaitExpired_over he hs ((copyOverdue_iff hc).mpr ht) hx
    refine does_event hr rfl hf ?_ (endsEntry_mirrorWait he hp)
    rw [steady_endEntry]
    exact steady_markExtent s x
  · refine idles_of _ hr rfl (mirrorWaitExpired_waits he fun h => ?_)
    exact absurd ((copyOverdue_iff hc).mp h.2) (by omega)
  · exact idles_of _ hr rfl (mirrorWaitExpired_waits he fun h => hs h.1)

/-! The trip comparator (R88 to R93). -/

section
variable {s : State} {cause : FaultCause}

/-! ## The entries of a station that enters FAULT -/

/-- State `u` is state `s` after its entries with drive work outstanding have ended at the entry into FAULT (R114). -/
structure FaultEnds (s u : State) : Prop where
  dirty : u.mirror.dirty = s.mapAfter (s.request.queue.filter (·.outstanding))
  entries : ∀ e ∈ s.request.queue.filter (·.outstanding), e.kind ≠ .replica →
    u.entry e.key = some { e with state := .ending, status := some .driveFault, send := none }
  copies : ∀ e ∈ s.request.queue.filter (·.outstanding), e.kind = .write → u.copyState e.key = none
  others : ∀ e ∈ s.request.queue, e.outstanding = false → u.entry e.key = some e
  replicas : ∀ n, s.partner = some n → ∀ e ∈ s.request.queue.filter (·.outstanding), e.kind = .replica →
    ∀ x, e.extent = some x →
      u.entry e.key = some { e with state := .ending } ∧ .mirrorMiss n e.key x.start x.count 0 true ∈ u.mirror.out
        ∧ (s.mirror.role = .secondary → u.mirror.behind = true)

theorem endedBy_replica {st : Status} {n : Station} {e : Entry} (hp : s.partner = some n) (hr : e.kind = .replica) :
    e.endedBy st s = { e with state := .ending } := by
  rw [Entry.endedBy, if_pos hr, hp]
  rfl

theorem endedBy_other {st : Status} {e : Entry} (hr : e.kind ≠ .replica) : e.endedBy st s = e.over st := if_neg hr

/-- Two entries of a queue of distinct names with one name are the same. -/
theorem eq_of_key (hq : QueueSound s) {e g : Entry} (he : e ∈ s.request.queue) (hg : g ∈ s.request.queue)
    (h : e.key = g.key) : e = g := by
  have h₁ := entry_of_mem hq he
  rw [h, entry_of_mem hq hg] at h₁
  exact (Option.some.inj h₁).symm

/-- An entry that a sweep passes over stays. -/
theorem Ended.stays {st : Status} {p : Entry → Bool} {u : State} (h : Ended st (s.request.queue.filter p) s u)
    (hq : QueueSound s) {e : Entry} (he : e ∈ s.request.queue) (hp : p e = false) : u.entry e.key = some e := by
  refine (h.others _ fun hm => ?_).trans (entry_of_mem hq he)
  obtain ⟨g, hg, hk⟩ := List.mem_map.mp hm
  obtain ⟨hgq, hpg⟩ := List.mem_filter.mp hg
  rw [eq_of_key hq hgq he hk, hp] at hpg
  cases hpg

/-- The DONE-less REPLICA entries that a sweep ends are missed. -/
theorem Ended.missed {st : Status} {l : List Entry} {u : State} (h : Ended st l s u) {n : Station} {e : Entry} {x : Extent}
    (hp : s.partner = some n) (he : e ∈ l) (hr : e.kind = .replica) (hx : e.extent = some x) :
    u.entry e.key = some { e with state := .ending } ∧ .mirrorMiss n e.key x.start x.count 0 true ∈ u.mirror.out
      ∧ (s.mirror.role = .secondary → u.mirror.behind = true) := by
  refine ⟨?_, ?_, fun hs => ?_⟩
  · rw [h.entries e he, endedBy_replica hp hr]
  · rw [h.misses n hp]
    refine List.mem_append_right _ (List.mem_map.mpr ⟨e, List.mem_filter.mpr ⟨he, by simp [hr]⟩, ?_⟩)
    simp [Entry.miss, hx]
  · have hany : l.any (·.kind == .replica) = true := List.any_eq_true.mpr ⟨e, he, by simp [hr]⟩
    rw [h.behind, hs, hp, hany]
    simp

theorem Ended.copyGone {st : Status} {l : List Entry} {u : State} (h : Ended st l s u) {e : Entry} (he : e ∈ l)
    (hw : e.kind = .write) : u.copyState e.key = none := by
  rw [h.copies, if_pos (List.any_eq_true.mpr ⟨e, he, by simp [hw]⟩)]

theorem faultEnds_enterFault (hq : QueueSound s) (h : s.drive.state ≠ .fault) : FaultEnds s (enterFault cause s) := by
  obtain ⟨o, c, k, he⟩ := enterFault_eq cause h
  have hend : Ended .driveFault (s.request.queue.filter (·.outstanding)) (s.failing cause o c k)
    (faultEntries (s.failing cause o c k)) := ended_faultEntries (s := s.failing cause o c k) hq
  have hpow := offClaim_powerRemoved (stopResync false (faultEntries (s.failing cause o c k)))
  obtain ⟨hframe, -, hout⟩ := stopResync_spec (faultEntries (s.failing cause o c k))
  have hpart : (s.failing cause o c k).partner = s.partner := rfl
  generalize faultEntries (s.failing cause o c k) = v at *
  have hmir : (stopResync false v).mirror = { v.mirror with out := (stopResync false v).mirror.out } := by rw [hframe]
  have hreq : (stopResync false v).request = v.request := by rw [hframe]
  have humir : (enterFault cause s).mirror = { v.mirror with out := (stopResync false v).mirror.out } := by
    rw [he]
    exact (congrArg (·.mirror) hpow).trans hmir
  have hureq : (enterFault cause s).request = v.request := by
    rw [he]
    exact (congrArg (·.request) hpow).trans hreq
  have hent : ∀ j, (enterFault cause s).entry j = v.entry j := entry_of_request (by rw [hureq])
  have hcopy : ∀ j, (enterFault cause s).copyState j = v.copyState j := fun j => by
    unfold State.copyState
    rw [humir]
  exact
    { dirty := by
        rw [humir]
        exact hend.dirty
      entries := fun e he hr => by
        rw [hent, hend.entries e he, endedBy_other hr]
        rfl
      copies := fun e he hw => (hcopy _).trans (hend.copyGone he hw)
      others := fun e he ho => (hent _).trans (hend.stays (s := s.failing cause o c k) hq he ho)
      replicas := fun n hp e he hr x hx => by
        obtain ⟨h₁, h₂, h₃⟩ := hend.missed (hpart.trans hp) he hr hx
        rw [hent, humir]
        exact ⟨h₁, hout _ h₂ rfl, h₃⟩ }

/-! ## A trip -/

/-- The steady part after a trip (R91, R93). -/
def State.trip (s : State) : Steady :=
  { s.faulted .overcurrent with
    counters := s.counted 4
    supply := { s.supply with trips := satInc s.supply.trips } }

theorem steady_tripped (h : s.drive.state ≠ .fault) : (tripped s).steady = s.trip :=
  (steady_enterFault .overcurrent (s := s.onSupply fun x => { x with trips := satInc x.trips }) h).trans rfl

theorem tripped_frame (h : s.drive.state ≠ .fault) :
    (tripped s).drive.flight = none ∧ (tripped s).engine.state = .idle ∧ (tripped s).mirror.promotion = none
      ∧ (QueueSound s → FaultEnds s (tripped s)) := by
  obtain ⟨hf, he, hp⟩ :=
    flight_enterFault .overcurrent (s := s.onSupply fun x => { x with trips := satInc x.trips }) h
  refine ⟨hf, he, hp, fun hq => ?_⟩
  obtain ⟨h₁, h₂, h₃, h₄, h₅⟩ := faultEnds_enterFault (cause := .overcurrent)
    (s := s.onSupply fun x => { x with trips := satInc x.trips }) hq h
  exact ⟨h₁, h₂, h₃, h₄, h₅⟩

theorem watching_iff {c : Comparator} : c.watching = true ↔ c.level ≠ none ∧ c.hold = false := by
  simp [Comparator.watching, Option.isSome_iff_ne_none]

/-- The trip level in force, by the settings. -/
def State.tripLevel (s : State) : Option Nat := s.settings.bind fun c => s.comp.level.map c.levelOf

theorem threshold_eq (s : State) : s.threshold = s.tripLevel.map tripCurrent := by
  unfold State.threshold State.tripLevel
  cases s.comp.level <;> cases s.settings <;> rfl

theorem isSome_threshold : s.threshold.isSome = true ↔ s.tripLevel ≠ none := by
  rw [threshold_eq, Option.isSome_map, Option.isSome_iff_ne_none]

theorem isOver_iff {i : Nat} : s.isOver i = true ↔ ∃ n, s.tripLevel = some n ∧ (n + 1) * 32 ≤ i := by
  unfold State.isOver
  rw [threshold_eq]
  cases h : s.tripLevel with
  | none => simp
  | some n =>
    simp only [Option.map_some, Option.some.injEq, exists_eq_left']
    exact decide_eq_true_iff

theorem overThreshold_counts (h : s.filterWidth ≠ 0) :
    overThreshold s = s.onComp fun c => { c with counting := true } := if_neg h

theorem overThreshold_trips (h : s.filterWidth = 0) : overThreshold s = tripped s := if_pos h

theorem switchHoldEnd_eq {i : Nat} (hl : s.comp.level ≠ none) (hh : s.comp.hold = true) : switchHoldEnd i s =
    if s.isOver i then overThreshold (s.onComp fun c => { c with hold := false })
    else s.onComp fun c => { c with hold := false } := by
  have hs : s.comp.level.isSome ∧ s.comp.hold := ⟨Option.isSome_iff_ne_none.mpr hl, hh⟩
  unfold switchHoldEnd
  rw [if_pos hs]
  rfl

end

/-- Settles O48. -/
theorem comparatorTripsTheDrive : Obligations.ComparatorTripsTheDrive := by
  intro s i hr hd level isOver width trip acts
  have hlevel : level = s.tripLevel := rfl
  have hover : s.isOver i = true ↔ isOver := isOver_iff.trans (by rw [← hlevel])
  have hacts : s.comp.watching = true ↔ acts := watching_iff
  have hsome : s.threshold.isSome = true ↔ level ≠ none := by rw [hlevel]; exact isSome_threshold
  have htrip : (tripped s).steady = trip := steady_tripped hd
  refine ⟨fun ha hc hl hw => ?_, fun ha hc hl hw => ?_, fun h => ?_, leaves_event hr rfl rfl rfl,
    fun hl hh => ⟨fun ho => ?_, fun ho hw => ?_, fun ho hw => ?_⟩, fun h => ?_, fun ha hc => ?_, fun h => ?_⟩
  · have hf : comparatorOver s = s.onComp fun c => { c with counting := true } :=
      (if_pos ⟨hacts.mpr ha, hc, hsome.mpr hl⟩).trans (overThreshold_counts hw)
    exact leaves_event hr rfl hf rfl
  · exact leaves_event hr rfl ((if_pos ⟨hacts.mpr ha, hc, hsome.mpr hl⟩).trans (overThreshold_trips hw)) htrip
  · refine idles_of _ hr rfl (if_neg fun ⟨hw, hc, ht⟩ => ?_)
    rcases h with h | h | h
    · exact h (hacts.mp hw)
    · rw [h] at hc
      cases hc
    · exact hsome.mp ht h
  · exact leaves_event hr rfl ((switchHoldEnd_eq hl hh).trans (if_neg fun h => ho (hover.mp h))) rfl
  · have hf : switchHoldEnd i s = (s.onComp fun c => { c with hold := false }).onComp fun c => { c with counting := true } :=
      (switchHoldEnd_eq hl hh).trans ((if_pos (hover.mpr ho)).trans (overThreshold_counts hw))
    exact leaves_event hr rfl hf rfl
  · have hf : switchHoldEnd i s = tripped (s.onComp fun c => { c with hold := false }) :=
      (switchHoldEnd_eq hl hh).trans ((if_pos (hover.mpr ho)).trans (overThreshold_trips hw))
    exact leaves_event hr rfl hf (steady_tripped (s := s.onComp fun c => { c with hold := false }) hd)
  · refine idles_of _ hr rfl (if_neg fun ⟨hl, hh⟩ => ?_)
    rcases h with h | h
    · rw [h] at hl
      cases hl
    · rw [h] at hh
      cases hh
  · obtain ⟨hf, he, hp, hends⟩ := tripped_frame hd
    refine does_event hr rfl (if_pos ⟨hacts.mpr ha, hc⟩) htrip ⟨hf, he, hp, fun hq => ?_⟩
    obtain ⟨hdirty, hent, hcopy, hother, hrep⟩ := hends hq
    exact ⟨hdirty, hent, hcopy, hother, hrep⟩
  · refine idles_of _ hr rfl (if_neg fun ⟨hw, hc⟩ => ?_)
    rcases h with h | h
    · exact h (hacts.mp hw)
    · rw [h] at hc
      cases hc

/-! The holder's timers (R166 to R171). -/

section
variable {s : State} {n : Station}

/-! ## The pass check -/

theorem passTarget_first {i : Nat} (hi : i < 15)
    (hb : s.peers[s.station + Fin.ofNat 16 (i + 1)].state = .listening
      ∧ s.peers[s.station + Fin.ofNat 16 (i + 1)].kind = .bay)
    (hn : ∀ j < i, ¬ (s.peers[s.station + Fin.ofNat 16 (j + 1)].state = .listening
      ∧ s.peers[s.station + Fin.ofNat 16 (j + 1)].kind = .bay)) :
    s.passTarget = some (s.station + Fin.ofNat 16 (i + 1)) := by
  have hrange : List.range 15 = List.range i ++ i :: List.range' (i + 1) (14 - i) := by
    have h := List.range'_append_1 (s := 0) (m := i) (n := 14 - i + 1)
    rw [Nat.zero_add, show i + (14 - i + 1) = 15 by omega, List.range'_succ] at h
    rw [List.range_eq_range', List.range_eq_range', h]
  unfold State.passTarget
  rw [List.findSome?_eq_some_iff]
  exact ⟨_, _, _, hrange, if_pos hb, fun j hj => if_neg (hn j (List.mem_range.mp hj))⟩

theorem passTarget_none
    (hn : ∀ j < 15, ¬ (s.peers[s.station + Fin.ofNat 16 (j + 1)].state = .listening
      ∧ s.peers[s.station + Fin.ofNat 16 (j + 1)].kind = .bay)) : s.passTarget = none := by
  unfold State.passTarget
  rw [List.findSome?_eq_none_iff]
  exact fun j hj => if_neg (hn j (List.mem_range.mp hj))

/-- The state with the next pass check set. -/
def State.nextCheck (t : Tick) (s : State) : State := s.onWatch fun w => { w with passCheck := some (t + 6000#32) }

theorem passChecked_due {t : Tick} (hd : s.duty = true) (hc : s.watch.passCheck = some t)
    (ht : (s.tick - t).toNat < 2147483648) : passChecked s = passCheckNow (s.nextCheck t) := by
  unfold passChecked
  rw [if_pos ⟨hd, ended_iff.mpr ⟨t, hc, ht⟩⟩]
  simp only [State.nextCheck, State.onWatch, hc]
  rfl

theorem passChecked_early {t : Tick} (hc : s.watch.passCheck = some t) (ht : 2147483648 ≤ (s.tick - t).toNat) :
    passChecked s = s := by
  refine if_neg fun h => ?_
  obtain ⟨t', ht', hlt⟩ := ended_iff.mp h.2
  rw [hc] at ht'
  cases ht'
  omega

theorem passCheckNow_passes {t : Tick} (hd : s.duty = true) (hp : s.watch.proxy = []) (hw : s.watchPending isWatchPass = false)
    (ht : s.passTarget = some n) :
    passCheckNow (s.nextCheck t) = watchReady (.watchPass n) (s.nextCheck t) := by
  have hc : (s.nextCheck t).duty ∧ (s.nextCheck t).watch.proxy.isEmpty ∧ !(s.nextCheck t).watchPending isWatchPass :=
    ⟨hd, by rw [show (s.nextCheck t).watch.proxy = [] from hp]; rfl,
      by rw [show (s.nextCheck t).watchPending isWatchPass = false from hw]; rfl⟩
  unfold passCheckNow
  rw [if_pos hc, show (s.nextCheck t).passTarget = some n from ht]

theorem passCheckNow_keeps {t : Tick} (h : s.watch.proxy ≠ [] ∨ s.passTarget = none) :
    passCheckNow (s.nextCheck t) = s.nextCheck t := by
  unfold passCheckNow
  split
  · rename_i hc
    rcases h with h | h
    · exact absurd (List.isEmpty_iff.mp hc.2.1) h
    · rw [show (s.nextCheck t).passTarget = none from h]
  · rfl

/-! ## The absence test -/

theorem absenceDue_iff : s.absenceDue n = true ↔ s.duty = true ∧ n ≠ s.station ∧ s.peers[n].state = .listening
    ∧ 1200 ≤ (s.tick - s.peers[n].lastHeard).toNat ∧ s.watch.marks[n].absenceHold = none
    ∧ s.watchPending (isAbsentFor n) = false := by
  simp only [State.absenceDue, Bool.and_eq_true, bne_iff_ne, ne_eq, beq_iff_eq, decide_eq_true_eq,
    Option.isNone_iff_eq_none, Bool.not_eq_true', and_assoc]
  rfl

/-- The ABSENTs of some stations made ready. -/
def State.withAbsents (l : List Station) (s : State) : State :=
  s.onWatch fun w => { w with out := w.out ++ l.map OutMsg.absent }

theorem absenceDue_withAbsents {l : List Station} (hn : n ∉ l) : (s.withAbsents l).absenceDue n = s.absenceDue n := by
  have hany : (l.map OutMsg.absent).any (isAbsentFor n) = false := by
    rw [List.any_eq_false]
    intro m hm
    obtain ⟨j, hj, rfl⟩ := List.mem_map.mp hm
    have hne : j ≠ n := fun h => hn (h ▸ hj)
    simpa [isAbsentFor] using hne
  have hp : (s.withAbsents l).watchPending (isAbsentFor n) = s.watchPending (isAbsentFor n) := by
    have hslot : (s.withAbsents l).slotHolds .watch (isAbsentFor n) = s.slotHolds .watch (isAbsentFor n) := rfl
    unfold State.watchPending
    rw [hslot]
    simp [State.withAbsents, State.onWatch, hany]
  unfold State.absenceDue
  rw [hp]
  rfl

theorem absences_foldl : ∀ (l k : List Station), l.Nodup → (∀ j ∈ l, j ∉ k) →
    l.foldl (fun s n => if s.absenceDue n then watchReady (.absent n) s else s) (s.withAbsents k) =
      s.withAbsents (k ++ l.filter s.absenceDue)
  | [], k, _, _ => by rw [List.filter_nil, List.append_nil]; rfl
  | n :: l, k, hl, hk => by
    obtain ⟨hn, hl⟩ := List.nodup_cons.mp hl
    have hd := absenceDue_withAbsents (s := s) (hk n List.mem_cons_self)
    rw [List.foldl_cons, hd, List.filter_cons]
    cases h : s.absenceDue n with
    | true =>
      have hw : watchReady (.absent n) (s.withAbsents k) = s.withAbsents (k ++ [n]) := by
        simp [watchReady, State.withAbsents, State.onWatch]
      have hdisj : ∀ j ∈ l, j ∉ k ++ [n] := fun j hj hm => by
        rcases List.mem_append.mp hm with hm | hm
        · exact hk j (List.mem_cons_of_mem n hj) hm
        · exact hn (List.mem_singleton.mp hm ▸ hj)
      rw [if_pos rfl, if_pos rfl, hw, absences_foldl l _ hl hdisj, List.append_assoc]
      rfl
    | false =>
      rw [if_neg Bool.false_ne_true, if_neg Bool.false_ne_true]
      exact absences_foldl l k hl fun j hj => hk j (List.mem_cons_of_mem n hj)

theorem declareAbsences_eq (s : State) :
    declareAbsences s = s.withAbsents ((List.finRange 16).filter s.absenceDue) := by
  have h := absences_foldl (s := s) (List.finRange 16) [] (List.nodup_finRange 16) fun _ _ h => nomatch h
  have hs : s.withAbsents [] = s := by simp [State.withAbsents, State.onWatch]
  rw [hs] at h
  exact h

/-! ## The wakes -/

theorem wakeTest_iff (hd : s.duty = true) : s.wakeTest n = true ↔
    n ≠ s.station ∧ s.peers[n].state = .sleeping ∧ s.watch.marks[n].waking = none
      ∧ (s.watch.marks[n].wakeWanted = true ∨ ∃ e ∈ s.watch.proxy, e.target = n)
      ∧ s.watchPending (isWakeFor n) = false ∧ s.mirror.out.any (isWakeFor n) = false
      ∧ s.slotHolds .mirror (isWakeFor n) = false
      ∧ ∀ t, s.watch.marks[n].lastWake = some t → 100 ≤ (s.tick - t).toNat := by
  unfold State.wakeTest
  cases hl : s.watch.marks[n].lastWake with
  | none => simp [State.answersFor, State.wakePending, hd, and_assoc, Option.isNone_iff_eq_none]
  | some t =>
    simp [State.answersFor, State.wakePending, hd, and_assoc, elapsed, Config.wakeRepeatTicks]
    exact fun _ _ _ _ _ _ _ => decide_eq_true_iff

theorem wakeAgain_calls (h : s.wakeTest n = true) : wakeAgain n s = watchReady (.wake (1#16 <<< n.val) .proxy) s := if_pos h

theorem wakeAgain_not (h : s.wakeTest n = false) : wakeAgain n s = s := if_neg (by simp [h])

/-! ## The term -/

theorem termOver_iff {t : BitVec 32} {c : Settings} (hd : s.duty = true) (ht : s.watch.term = some t)
    (hc : s.settings = some c) : s.termOver = true ↔ c.watchTerm * 3600 ≤ (s.seconds - t).toNat := by
  unfold State.termOver
  simp [ht, hc, hd]

end

/-- Settles O50. -/
theorem holderTimers : Obligations.HolderTimers := by
  intro s hr hd
  refine ⟨fun t c ht hc => ⟨fun hrun => ?_, fun hrun => ?_⟩, fun t hc => ?pass, fun gone hgone => ?_, fun n => ?wake⟩
  · exact does_event hr rfl (if_pos ((termOver_iff hd ht hc).mpr hrun)) rfl ⟨rfl, rfl⟩
  · refine idles_of _ hr rfl (if_neg fun h => ?_)
    exact absurd ((termOver_iff hd ht hc).mp h) (by omega)
  case pass =>
    intro bay
    refine ⟨fun ht hp hw => ⟨fun i hi hb hn => ?_, fun hn => ?_⟩, fun ht hp => ?_, fun ht => ?_⟩
    · exact does_event hr rfl
        ((passChecked_due hd hc ht).trans (passCheckNow_passes hd hp hw (passTarget_first hi hb hn))) rfl ⟨rfl, rfl⟩
    · exact does_event hr rfl
        ((passChecked_due hd hc ht).trans (passCheckNow_keeps (.inr (passTarget_none hn)))) rfl ⟨rfl, rfl⟩
    · exact does_event hr rfl ((passChecked_due hd hc ht).trans (passCheckNow_keeps (.inl hp))) rfl ⟨rfl, rfl⟩
    · exact idles_of _ hr rfl (passChecked_early hc ht)
  · have hsame : s.absenceDue = gone := by
      funext n
      rw [Bool.eq_iff_iff, absenceDue_iff, hgone n]
      exact and_iff_right hd
    refine does_event hr rfl (declareAbsences_eq s) rfl ?_
    rw [hsame]
    rfl
  case wake =>
    intro calls
    have hcalls : s.wakeTest n = true ↔ calls := wakeTest_iff hd
    exact ⟨fun h => does_event hr rfl (wakeAgain_calls (hcalls.mpr h)) rfl rfl,
      fun h => idles_of _ hr rfl (wakeAgain_not (Bool.eq_false_iff.mpr fun ht => h (hcalls.mp ht)))⟩

/-! The sleep conditions and the take test (R162, R166). -/

section
variable {s : State} {c : Settings}

/-! ## ASLEEP -/

/-- The sleep conditions of R162 but for the WATCH slot. -/
structure State.SleepReady (c : Settings) (s : State) : Prop where
  power : s.power = .listening
  delay : c.sleepDelay ≠ 0
  listening : c.sleepDelay * 100 ≤ (s.tick - s.watch.listeningSince).toNat
  off : s.drive.state = .off
  deferral : s.drive.deferral = none
  offSince : c.sleepDelay * 100 ≤ (s.tick - s.drive.offSince).toNat
  need : s.drive.need = false
  queue : s.request.queue = []
  out : s.request.out = []
  claim : s.claim.state = .none
  engine : s.engine.state = .idle
  duty : s.duty = false
  take : s.takeTest = false
  request : s.slot .request = none
  mirror : s.slot .mirror = none
  resync : s.slot .resync = none
  mirrorOut : s.mirror.out = []
  watchOut : s.watch.out = []
  retry : s.watch.sleepRetry = none

theorem offFor_off (h : s.drive.state = .off) (hd : s.drive.deferral = none) :
    s.offFor = some (s.tick - s.drive.offSince).toNat := by
  simp [State.offFor, h, hd, elapsed]

theorem offFor_some {n : Nat} (h : s.offFor = some n) :
    s.drive.state = .off ∧ s.drive.deferral = none ∧ n = (s.tick - s.drive.offSince).toNat := by
  unfold State.offFor at h
  split at h
  · rename_i hc
    simp only [Bool.and_eq_true, decide_eq_true_eq, Option.isNone_iff_eq_none] at hc
    exact ⟨hc.1, hc.2, (Option.some.inj h).symm⟩
  · cases h

theorem sleepConditions_iff {free : Bool} (hc : s.settings = some c) :
    s.sleepConditions free = true ↔ free = true ∧ s.SleepReady c := by
  unfold State.sleepConditions
  simp only [hc]
  constructor
  · intro h
    cases ho : s.offFor with
    | none => simp [ho] at h
    | some n =>
      obtain ⟨hoff, hdef, rfl⟩ := offFor_some ho
      simp only [ho, Bool.and_eq_true, beq_iff_eq, bne_iff_ne, decide_eq_true_eq, Bool.not_eq_true', List.isEmpty_iff,
        Option.isNone_iff_eq_none] at h
      obtain ⟨⟨⟨⟨⟨⟨⟨⟨⟨⟨⟨⟨⟨⟨⟨⟨⟨h₁, h₂⟩, h₃⟩, h₄⟩, h₅⟩, h₆⟩, h₇⟩, h₈⟩, h₉⟩, h₁₀⟩, h₁₁⟩, h₁₂⟩, h₁₃⟩, h₁₄⟩, h₁₅⟩, h₁₆⟩, h₁₇⟩, h₁₈⟩ := h
      exact ⟨h₁₅, h₁, h₂, h₃, hoff, hdef, h₄, h₅, h₆, h₇, h₈, h₉, h₁₀, h₁₁, h₁₂, h₁₃, h₁₄, h₁₆, h₁₇, h₁₈⟩
  · rintro ⟨hf, h⟩
    simp only [offFor_off h.off h.deferral, h.power, h.need, h.queue, h.out, h.claim, h.engine, h.duty, h.take, h.request,
      h.mirror, h.resync, h.mirrorOut, h.watchOut, h.retry, hf, Bool.and_eq_true, bne_iff_ne, decide_eq_true_eq]
    simpa using ⟨⟨h.delay, h.listening⟩, h.offSince⟩

theorem followSleep_places (hc : s.settings = some c) (h : s.SleepReady c) (hs : s.slot .watch = none) :
    followSleep s = s.putSlot .watch (some .asleep) := by
  have hn : ¬ s.slotHolds .watch isAsleep = true := by simp [State.slotHolds, hs]
  have hy : s.sleepConditions (s.slot .watch).isNone = true := (sleepConditions_iff hc).mpr ⟨by rw [hs]; rfl, h⟩
  unfold followSleep
  rw [if_neg hn, if_pos hy]

theorem followSleep_withdraws (hc : s.settings = some c) (h : ¬ s.SleepReady c) (hs : s.slot .watch = some .asleep) :
    followSleep s = (withdraw .watch isAsleep s).2 := by
  have hy : s.slotHolds .watch isAsleep = true := by simp [State.slotHolds, hs, isAsleep]
  have hn : ¬ s.sleepConditions true = true := fun ht => h ((sleepConditions_iff hc).mp ht).2
  unfold followSleep
  rw [if_pos hy, if_neg hn]

/-! ## WATCH-TAKE -/

theorem takeTest_iff : s.takeTest = true ↔ s.power = .listening ∧ s.watch.takeHold = none
    ∧ s.shelf.watch ≠ some s.station ∧ ∀ n : Station, s.shelf.watch = some n →
      s.peers[n].state = .absent ∨ 1200 ≤ (s.tick - s.peers[n].lastHeard).toNat := by
  unfold State.takeTest State.duty
  cases hw : s.shelf.watch with
  | none => simp [Option.isNone_iff_eq_none]
  | some n =>
    by_cases hn : n = s.station
    · simp [hn]
    · have hp : s.presence n = s.peers[n] := if_neg hn
      have hlate : decide (Config.silenceTicks ≤ elapsed s.tick s.peers[n].lastHeard) = true ↔
        1200 ≤ (s.tick - s.peers[n].lastHeard).toNat := decide_eq_true_iff
      simp only [hp, Bool.and_eq_true, Bool.or_eq_true, hlate, beq_iff_eq, Bool.not_eq_true', Option.isNone_iff_eq_none,
        Option.some.injEq, hn, ne_eq, not_false_eq_true, forall_eq', true_and, Bool.and_eq_false_iff]
      simp [hn, and_assoc]

theorem followTakeTest_takes (ht : s.takeTest = true) (hp : s.watchPending isWatchTake = false) :
    followTakeTest s = watchReady .watchTake s := by
  unfold followTakeTest
  rw [if_pos ht, if_neg (by simp [hp])]

theorem followTakeTest_retracts (ht : s.takeTest = false) (hm : OutMsg.watchTake ∈ s.watch.out) :
    followTakeTest s = (watchRetract isWatchTake s).2 := by
  have hp : s.watchPending isWatchTake = true := by
    have h : s.watch.out.any isWatchTake = true := List.any_eq_true.mpr ⟨_, hm, rfl⟩
    rw [State.watchPending, h, Bool.true_or]
  unfold followTakeTest
  rw [if_neg (by simp [ht]), if_pos hp]

end

/-- Settles O52. -/
theorem sleepAndTakeTests : Obligations.SleepAndTakeTests := by
  refine ⟨fun s c hr h₁ hc h₂ h₃ h₄ h₅ h₆ h₇ h₈ h₉ h₁₀ h₁₁ h₁₂ h₁₃ h₁₄ h₁₅ h₁₆ hs h₁₇ h₁₈ h₁₉ => ?_,
    fun s c hr hc hs hl h => ?_, fun s hr => ?take⟩
  · exact does_event hr rfl
      (followSleep_places hc ⟨h₁, h₂, h₃, h₄, h₅, h₆, h₇, h₈, h₉, h₁₀, h₁₁, h₁₂, h₁₃, h₁₄, h₁₅, h₁₆, h₁₇, h₁₈, h₁₉⟩ hs)
      rfl (get_set s.bus.slots .watch (some .asleep))
  · have hn : ¬ s.SleepReady c := by
      rintro ⟨h₁, h₂, h₃, h₄, h₅, h₆, h₇, h₈, h₉, h₁₀, h₁₁, h₁₂, h₁₃, h₁₄, h₁₅, h₁₆, h₁₇, h₁₈, h₁₉⟩
      have hlate : ¬ (s.tick - s.watch.listeningSince).toNat < c.sleepDelay * 100 := by omega
      have hoff : ¬ (s.tick - s.drive.offSince).toNat < c.sleepDelay * 100 := by omega
      simp_all [-BitVec.toNat_sub]
    have hw := (withdraw_spec .watch isAsleep s).1
    refine does_event hr rfl (followSleep_withdraws hc hn hs) (steady_withdraw s .watch isAsleep) ?_
    rw [hw.slot, if_pos]
    exact ⟨by simp [State.slotHolds, hs, isAsleep], by simp [State.onLine, hl]⟩
  case take =>
    intro calls
    have hcalls : s.takeTest = true ↔ calls := takeTest_iff
    refine ⟨fun h hp => does_event hr rfl (followTakeTest_takes (hcalls.mpr h) hp) rfl rfl, fun h hm => ?_⟩
    have ht : s.takeTest = false := Bool.eq_false_iff.mpr fun ht => h (hcalls.mp ht)
    refine does_event hr rfl (followTakeTest_retracts ht hm) (steady_watchRetract s _) ?_
    rw [(watchRetract_spec _ _).2.1]
    exact fun hm => by simpa [isWatchTake] using (List.mem_filter.mp hm).2

/-! The timers and outcomes of proxy entries (R169, R172, R173). -/

section
variable {s v : State} {n : Station} {k : Key} {e : ProxyEntry} {x : Sending} {q : ProxyReq}

/-! ## The outcome of a FORWARD -/

theorem sendDone_forward (hm : x.msg = .forward n k q) (o : SendOutcome) (v : State) :
    sendDone x o v = forwardOutcome n k o v := by
  unfold sendDone
  rw [hm]

theorem steady_endOfProxy (st : Status) (e : ProxyEntry) (s : State) : (endProxy st e s).steady = s.steady := rfl

/-- A proxy entry that ends leaves the queue and is answered. -/
theorem endProxy_spec (he : s.proxyEntry n k = some e) (st : Status) :
    (endProxy st e s).proxyEntry n k = none
      ∧ (endProxy st e s).watch.out = s.watch.out ++ [.done k.origin k.tag st false none (some n)] := by
  obtain ⟨rfl, rfl⟩ := proxyEntry_target he
  exact ⟨proxyEntry_leaveProxy _ _ _, rfl⟩

theorem slot_endProxy (st : Status) (e : ProxyEntry) (i : SlotId) (s : State) : (endProxy st e s).slot i = s.slot i := rfl

theorem slot_onProxy (n : Station) (k : Key) (f : ProxyEntry → ProxyEntry) (i : SlotId) (s : State) :
    (onProxy n k f s).slot i = s.slot i := rfl

theorem out_onProxy (n : Station) (k : Key) (f : ProxyEntry → ProxyEntry) (s : State) :
    (onProxy n k f s).watch.out = s.watch.out := rfl

/-- A proxy entry that is forwarded again. -/
theorem sendForward_spec (he : s.proxyEntry n k = some e) :
    (sendForward e s).proxyEntry n k = some { e with state := .sending, expired := false, recalled := false }
      ∧ (sendForward e s).watch.out = s.watch.out ++ [.forward n k e.req] := by
  obtain ⟨rfl, rfl⟩ := proxyEntry_target he
  exact ⟨proxyEntry_onProxy_same he (fun f => { f with state := .sending, expired := false, recalled := false })
    (fun _ => ⟨rfl, rfl⟩), rfl⟩

/-- A proxy entry changed by the target and the name that it has. -/
theorem proxyEntry_onProxy_own (he : s.proxyEntry n k = some e) (f : ProxyEntry → ProxyEntry)
    (hf : ∀ e, (f e).target = e.target ∧ (f e).key = e.key) : (onProxy e.target e.key f s).proxyEntry n k = some (f e) := by
  obtain ⟨rfl, rfl⟩ := proxyEntry_target he
  exact proxyEntry_onProxy_same he f hf

theorem forwardFailed_expired (hx : e.expired = true) (next : ProxyState) :
    forwardFailed e next s = endProxy .notAwake e s := if_pos hx

theorem forwardFailed_recalled (hx : e.expired = false) (hc : e.recalled = true) (next : ProxyState) :
    forwardFailed e next s =
      onProxy e.target e.key (fun e => { e with state := .held, recalled := false }) s := by
  unfold forwardFailed
  rw [if_neg (by simp [hx]), if_pos hc]

theorem forwardFailed_again (hx : e.expired = false) (hc : e.recalled = false) :
    forwardFailed e .sending s = sendForward e s := by
  unfold forwardFailed
  rw [if_neg (by simp [hx]), if_neg (by simp [hc])]

theorem forwardFailed_waits (hx : e.expired = false) (hc : e.recalled = false) {next : ProxyState} (hn : next ≠ .sending) :
    forwardFailed e next s = onProxy e.target e.key (fun e => { e with state := next }) s := by
  unfold forwardFailed
  rw [if_neg (by simp [hx]), if_neg (by simp [hc])]
  cases next with
  | sending => exact absurd rfl hn
  | held | retry t => rfl

/-- What an outcome that is not TAKEN makes of the entry. -/
def failedTo (now : Tick) : Bool → ProxyState
  | true => .retry now
  | false => .held

theorem forwardOutcome_failed (he : s.proxyEntry n k = some e) (hm : x.msg = .forward n k q) (b : Bool) :
    forwardOutcome n k (outcomeOf x.msg false b) s = forwardFailed e (failedTo s.tick b) s := by
  unfold forwardOutcome
  rw [he, hm]
  cases b <;> rfl

theorem forwardOutcome_spoiled (he : s.proxyEntry n k = some e) :
    forwardOutcome n k .spoiled s = forwardFailed e .sending s := by
  unfold forwardOutcome
  rw [he]

theorem forwardOutcome_taken (he : s.proxyEntry n k = some e) :
    forwardOutcome n k .taken s = forwardNext n (leaveProxy n k s) := by
  unfold forwardOutcome
  rw [he]

theorem outcomeOf_taken (hm : x.msg = .forward n k q) (b : Bool) : outcomeOf x.msg true b = .taken := by
  rw [hm]
  rfl

/-! ## The limit of an entry (R173) -/

theorem proxyExpired_due (he : s.proxyEntry n k = some e) (ht : 3000 ≤ (s.tick - e.arrival).toNat) :
    proxyExpired n k s = proxyLimit e s := by
  unfold proxyExpired
  rw [he]
  exact if_pos (expired_some.mpr ht)

theorem proxyExpired_early (he : s.proxyEntry n k = some e) (ht : (s.tick - e.arrival).toNat < 3000) :
    proxyExpired n k s = s := by
  unfold proxyExpired
  rw [he]
  exact if_neg fun h => absurd (expired_some.mp h) (Nat.not_le.mpr ht)

theorem proxyLimit_rests (h : e.state ≠ .sending) : proxyLimit e s = endProxy .notAwake e s := if_neg fun hc => h hc.1

theorem proxyLimit_removed (hs : e.state = .sending) (hp : s.watchPending (isForwardOf e.target e.key) = true)
    (hr : (watchRetract (isForwardOf e.target e.key) s).1 = true) :
    proxyLimit e s = endProxy .notAwake e (watchRetract (isForwardOf e.target e.key) s).2 := by
  unfold proxyLimit
  rw [if_pos ⟨hs, hp⟩]
  exact if_pos hr

theorem proxyLimit_line (hs : e.state = .sending) (hp : s.watchPending (isForwardOf e.target e.key) = true)
    (hr : (watchRetract (isForwardOf e.target e.key) s).1 = false) :
    proxyLimit e s = onProxy e.target e.key (fun e => { e with expired := true })
      (watchRetract (isForwardOf e.target e.key) s).2 := by
  unfold proxyLimit
  rw [if_pos ⟨hs, hp⟩]
  exact if_neg (by simp [hr])

theorem isForwardOf_self (n : Station) (k : Key) (q : ProxyReq) : isForwardOf n k (.forward n k q) = true := by
  simp [isForwardOf]

theorem proxyEntry_watchRetract (p : OutMsg → Bool) (s : State) :
    (watchRetract p s).2.proxyEntry n k = s.proxyEntry n k :=
  proxyEntry_of_proxy (by rw [(watchRetract_spec p s).1]) n k

/-! ## The retry wait of an entry (R172) -/

theorem forwardRetryOver_due {t : Tick} (he : s.proxyEntry n k = some e) (hs : e.state = .retry t)
    (ht : 10 ≤ (s.tick - t).toNat) : forwardRetryOver n k s = sendForward e s := by
  unfold forwardRetryOver
  simp only [he, hs]
  exact if_pos ht

theorem forwardRetryOver_early {t : Tick} (he : s.proxyEntry n k = some e) (hs : e.state = .retry t)
    (ht : (s.tick - t).toNat < 10) : forwardRetryOver n k s = s := by
  unfold forwardRetryOver
  simp only [he, hs]
  exact if_neg (Nat.not_le.mpr ht)

theorem forwardRetryOver_rests (he : s.proxyEntry n k = some e) (hs : e.state = .held ∨ e.state = .sending) :
    forwardRetryOver n k s = s := by
  unfold forwardRetryOver
  rcases hs with hs | hs <;> simp only [he, hs]

end

/-- An element found first is found first by every stronger test that it passes. -/
theorem find?_of_stronger {α : Type} {p r : α → Bool} {l : List α} {a : α} (h : l.find? p = some a) (ha : r a = true)
    (hp : ∀ b, r b = true → p b = true) : l.find? r = some a := by
  induction l with
  | nil => cases h
  | cons b l ih =>
    rw [List.find?_cons] at h ⊢
    cases hb : p b with
    | true =>
      rw [hb] at h
      obtain rfl := Option.some.inj h
      rw [ha]
    | false =>
      rw [hb] at h
      have hr : r b = false := Bool.eq_false_iff.mpr fun hr => by rw [hp b hr] at hb; cases hb
      rw [hr]
      exact ih h

section
variable {s : State} {n : Station} {k : Key}

/-- The FORWARD has left the line and its entry the queue: the next entry of the target is forwarded. -/
theorem forwardNext_left {f : ProxyEntry} (hd : s.duty = true) (ha : s.watch.out.any (isForwardTo n) = false)
    (hh : ∀ g ∈ s.watch.proxy.filter fun f => !(f.target == n && f.key == k), g.target = n → g.state = .held)
    (hf : (s.watch.proxy.filter fun f => !(f.target == n && f.key == k)).find? (fun g => g.target == n) = some f) :
    let u := forwardNext n (leaveProxy n k (s.lineFreed .watch))
    u.proxyEntry n k = none
      ∧ u.proxyEntry n f.key = some { f with state := .sending, expired := false, recalled := false }
      ∧ u.watch.out = s.watch.out ++ [.forward n f.key f.req] := by
  intro u
  have hslot : (leaveProxy n k (s.lineFreed .watch)).slot .watch = none := get_set _ .watch none
  have hpend : (leaveProxy n k (s.lineFreed .watch)).watchPending (isForwardTo n) = false := by
    have ho : (leaveProxy n k (s.lineFreed .watch)).watch.out.any (isForwardTo n) = false := ha
    rw [State.watchPending, ho, State.slotHolds, hslot]
    rfl
  have hu : u = sendForward f (leaveProxy n k (s.lineFreed .watch)) := forwardNext_goes hd hf hh hpend
  have hmem := List.mem_filter.mp (List.mem_of_find?_eq_some hf)
  have ht : f.target = n := by simpa using List.find?_some hf
  have hk : f.key ≠ k := fun hk => by simpa [ht, hk] using hmem.2
  have hfind : (leaveProxy n k (s.lineFreed .watch)).proxyEntry n f.key = some f :=
    find?_of_stronger hf (by simp [ht]) fun g hg => (Bool.and_eq_true_iff.mp hg).1
  obtain ⟨hent, hout⟩ := sendForward_spec hfind
  rw [hu]
  refine ⟨?_, hent, hout⟩
  refine (proxyEntry_onProxy n f.target k f.key (fun e => { e with state := .sending, expired := false, recalled := false })
    (fun _ => ⟨rfl, rfl⟩) _).trans ?_
  rw [proxyEntry_leaveProxy]
  rfl

end

/-- Settles O51. -/
theorem proxyTimersRun : Obligations.ProxyTimersRun := by
  refine ⟨?outcomes, ?timers⟩
  case outcomes =>
    intro s x n k q e hr hx hw hslot hm he done fell rest goes
    have hv : (s.lineFreed x.slot).proxyEntry n k = some e := he
    have hw' : (s.lineSpoiled x.slot).proxyEntry n k = some e := he
    have htaken : ∀ b, sendDone x (outcomeOf x.msg true b) (s.lineFreed x.slot) =
        forwardNext n (leaveProxy n k (s.lineFreed x.slot)) := fun b => by
      rw [sendDone_forward hm, outcomeOf_taken hm, forwardOutcome_taken hv]
    have hfailed : ∀ b, sendDone x (outcomeOf x.msg false b) (s.lineFreed x.slot) =
        forwardFailed e (failedTo s.tick b) (s.lineFreed x.slot) := fun b => by
      rw [sendDone_forward hm, forwardOutcome_failed hv hm]
      rfl
    refine ⟨fun b => ⟨fun f hd ha hh hf => ?_, fun hn => ?_⟩, fun hxp hrc => ⟨?_, ?_, ?_⟩, fun hxp b => ?_,
      fun hxp hrc b => ?_⟩
    · refine does_sendOutcome hr hx hw (htaken b) (steady_forwardNext _ _) ?_
      rw [hslot]
      exact forwardNext_left hd ha hh hf
    · refine does_sendOutcome hr hx hw ((htaken b).trans (forwardNext_stays (.inl hn))) rfl ⟨rfl, rfl⟩
    · refine does_sendOutcome hr hx hw ((hfailed true).trans (forwardFailed_waits hxp hrc nofun)) rfl ⟨?_, rfl⟩
      exact proxyEntry_onProxy_own hv (fun e => { e with state := .retry s.tick }) fun _ => ⟨rfl, rfl⟩
    · refine does_sendOutcome hr hx hw ((hfailed false).trans (forwardFailed_waits hxp hrc nofun)) rfl ⟨?_, rfl⟩
      exact proxyEntry_onProxy_own hv (fun e => { e with state := .held }) fun _ => ⟨rfl, rfl⟩
    · have heq : sendDone x .spoiled (s.lineSpoiled x.slot) = sendForward e (s.lineSpoiled x.slot) := by
        rw [sendDone_forward hm, forwardOutcome_spoiled hw', forwardFailed_again hxp hrc]
      exact does_sendSpoiled hr hx hw heq ((steady_sendForward _ _).trans (steady_lineSpoiled x.slot)) (sendForward_spec hw')
    · exact does_sendOutcome hr hx hw ((hfailed b).trans (forwardFailed_expired hxp _)) rfl (endProxy_spec hv .notAwake)
    · refine does_sendOutcome hr hx hw ((hfailed b).trans (forwardFailed_recalled hxp hrc _)) rfl ⟨?_, rfl⟩
      exact proxyEntry_onProxy_own hv (fun e => { e with state := .held, recalled := false }) fun _ => ⟨rfl, rfl⟩
  case timers =>
    intro s n k e hr he
    obtain ⟨htar, hkey⟩ := proxyEntry_target he
    have hspec := watchRetract_spec (isForwardOf n k) s
    obtain ⟨-, hout, -, htake, hfirst⟩ := hspec
    refine ⟨fun ht hs => ?_, fun ht hs hm => ?_, fun q ht hs ha hslot => ⟨fun hl => ?_, fun hl => ?_⟩,
      fun ht => idles_of _ hr rfl (proxyExpired_early he ht),
      fun t hs ht => does_event hr rfl (forwardRetryOver_due he hs ht) rfl (sendForward_spec he),
      fun t hs ht => idles_of _ hr rfl (forwardRetryOver_early he hs ht),
      fun hs => idles_of _ hr rfl (forwardRetryOver_rests he hs)⟩
    · exact does_event hr rfl ((proxyExpired_due he ht).trans (proxyLimit_rests hs)) rfl (endProxy_spec he .notAwake)
    · have hany : s.watch.out.any (isForwardOf n k) = true :=
        List.any_eq_true.mpr ⟨_, hm, isForwardOf_self n k e.req⟩
      have heq : proxyLimit e s = endProxy .notAwake e (watchRetract (isForwardOf n k) s).2 := by
        have h := proxyLimit_removed (s := s) hs (by rw [htar, hkey, State.watchPending, hany, Bool.true_or])
          (by rw [htar, hkey, hfirst, hany, Bool.true_or])
        rwa [htar, hkey] at h
      obtain ⟨hgone, hend⟩ := endProxy_spec ((proxyEntry_watchRetract _ s).trans he) .notAwake
      refine does_event hr rfl ((proxyExpired_due he ht).trans heq)
        ((steady_endOfProxy _ _ _).trans (steady_watchRetract s _)) ⟨hgone, ?_⟩
      rw [hend, hout]
    all_goals
      have hholds : s.slotHolds .watch (isForwardOf n k) = true := by
        rw [State.slotHolds, hslot]
        exact isForwardOf_self n k q
      have hpend : s.watchPending (isForwardOf e.target e.key) = true := by
        rw [htar, hkey, State.watchPending, hholds, Bool.or_true]
      have hkept : (watchRetract (isForwardOf n k) s).2.watch.out = s.watch.out := by
        rw [hout]
        exact filter_of_none ha
    · have heq : proxyLimit e s = endProxy .notAwake e (watchRetract (isForwardOf n k) s).2 := by
        have h := proxyLimit_removed (s := s) hs hpend (by rw [htar, hkey, hfirst, hholds, hl]; simp)
        rwa [htar, hkey] at h
      obtain ⟨hgone, hend⟩ := endProxy_spec ((proxyEntry_watchRetract _ s).trans he) .notAwake
      refine does_event hr rfl ((proxyExpired_due he ht).trans heq)
        ((steady_endOfProxy _ _ _).trans (steady_watchRetract s _)) ⟨?_, hgone, ?_⟩
      · exact (slot_endProxy _ _ _ _).trans <| (htake ha).slot.trans (if_pos ⟨hholds, hl⟩)
      · rw [hend, hkept]
    · have heq : proxyLimit e s =
          onProxy n k (fun e => { e with expired := true }) (watchRetract (isForwardOf n k) s).2 := by
        have h := proxyLimit_line (s := s) hs hpend (by rw [htar, hkey, hfirst, ha, hholds, hl]; rfl)
        rwa [htar, hkey] at h
      refine does_event hr rfl ((proxyExpired_due he ht).trans heq)
        ((steady_onProxy _ _ _ _).trans (steady_watchRetract s _)) ⟨?_, (out_onProxy _ _ _ _).trans hkept, ?_⟩
      · exact (slot_onProxy _ _ _ _ _).trans <| (htake ha).slot.trans (if_neg fun h => by rw [hl] at h; cases h.2)
      · exact proxyEntry_onProxy_same ((proxyEntry_watchRetract _ s).trans he) (fun e => { e with expired := true })
          fun _ => ⟨rfl, rfl⟩

/-! IDENTIFY (R72, R73, R62, R105). -/

section
variable {s : State} {size : BlockNo}

/-! ## The drive enters READY -/

/-- The state that enters READY, before the budget unit settles and the range test of the entries. -/
def State.identified (size : BlockNo) (s : State) : State :=
  { s with
    drive := { s.drive with flight := none, usable := size - 8#32, state := .ready, readyWait := none }
    comp := { level := some .run, hold := true, counting := false } }

theorem identifyReply_eq {r : Requester} {t : Tick} (hd : s.drive.state = .spinUp)
    (hf : s.drive.flight = some { cmd := .identify, requester := r, start := t }) (i : IdentifyReply) :
    identifyReply i s =
      match i with
      | .ok size => Machine.identified size (freeLane s)
      | .mediaError => enterFault .spinUpFail (freeLane s) := by
  have hi : s.identifying = true := by simp [State.identifying, hf]
  unfold identifyReply
  exact (if_pos ⟨hi, hd⟩).trans (by cases i <;> rfl)

theorem identified_small (h : size.toNat < 1024) : Machine.identified size s = enterFault .size s := if_pos h

theorem identified_other (h : 1024 ≤ size.toNat) (h₀ : s.drive.usable ≠ 0) (hne : s.drive.usable ≠ size - 8#32) :
    Machine.identified size s = enterFault .size s := by
  unfold Machine.identified
  rw [if_neg (by exact Nat.not_lt.mpr h)]
  dsimp only
  rw [if_neg h₀, if_neg (by exact hne)]

theorem identified_ready (h : 1024 ≤ size.toNat) (hu : s.drive.usable = 0 ∨ s.drive.usable = size - 8#32) :
    Machine.identified size (freeLane s) = rangeSweep (settleHolding (s.identified size)) := by
  unfold Machine.identified
  rw [if_neg (by exact Nat.not_lt.mpr h)]
  dsimp only
  by_cases h₀ : s.drive.usable = 0
  · rw [if_pos (by exact h₀)]
    rfl
  · have hs : s.drive.usable = size - 8#32 := hu.resolve_left h₀
    rw [if_neg (by exact h₀), if_pos (by exact hs)]
    unfold enterReady State.identified freeLane
    simp only [State.onDrive, armAt, State.onComp, ← hs]

theorem settleHolding_frame (s : State) : ∃ c, settleHolding s = { s with claim := c } := by
  unfold settleHolding
  split
  · split
    · exact ⟨_, rfl⟩
    · exact ⟨_, rfl⟩
  · exact ⟨s.claim, rfl⟩

theorem steady_settleHolding (s : State) : (settleHolding s).steady = s.steady := by
  unfold settleHolding
  split
  · split <;> rfl
  · rfl

theorem settleHolding_claim (h : s.claim.state = .spinUnits) :
    if s.runCost < s.spinCost then
      (settleHolding s).claim.out = s.claim.out ++ [.release (s.spinCost - s.runCost) false .settle]
    else (settleHolding s).claim.state = .runUnits := by
  unfold settleHolding
  rw [if_pos h]
  split <;> rfl

theorem steady_rangeSweep (s : State) : (rangeSweep s).steady = s.steady :=
  steady_foldl _ (fun s e => steady_endWork s .range e) _ s

theorem offEntries_rangeSweep (s : State) : (rangeSweep s).offEntries = s.offEntries :=
  offEntries_endWorks .range _ s

/-- What the range test finds outside a drive of the given size (R73, R105). -/
def Entry.outOf (usable : Nat) (e : Entry) : Bool :=
  e.outstanding && (match e.extent with | some x => decide (usable < x.start.toNat + x.count) | none => false)

/-- State `u` is state `s` after the range test of its entries. -/
structure RangeEnds (usable : Nat) (s u : State) : Prop where
  others : ∀ e ∈ s.request.queue, e.outOf usable = false → u.entry e.key = some e
  entries : ∀ e ∈ s.request.queue.filter (·.outOf usable), e.kind ≠ .replica →
    u.entry e.key = some { e with state := .ending, status := some .range, send := none }
  out : u.request.out = s.request.out ++
    ((s.request.queue.filter (·.outOf usable)).filter (·.kind != .replica)).map fun e => .entryDone e.key
  dirty : u.mirror.dirty = s.mirror.dirty
  copies : ∀ e ∈ s.request.queue.filter (·.outOf usable), e.kind = .write → u.copyState e.key = none
  replicas : ∀ n, s.partner = some n → ∀ e ∈ s.request.queue.filter (·.outOf usable), e.kind = .replica →
    ∀ x, e.extent = some x →
      u.entry e.key = some { e with state := .ending } ∧ .mirrorMiss n e.key x.start x.count 0 true ∈ u.mirror.out
        ∧ (s.mirror.role = .secondary → u.mirror.behind = true)

theorem rangeSweep_eq (h₀ : s.drive.usable ≠ 0) :
    rangeSweep s = (s.request.queue.filter (·.outOf s.drive.usable.toNat)).foldl (endWork .range) s := by
  have hp : ∀ x : Extent, s.passesSize x = decide (s.drive.usable.toNat < x.start.toNat + x.count) := fun x => by
    have hb : (s.drive.usable != 0) = true := bne_iff_ne.mpr h₀
    rw [State.passesSize, hb, Bool.true_and]
  unfold rangeSweep
  congr 1
  refine List.filter_congr fun e _ => ?_
  unfold Entry.outOf
  cases hx : e.extent with
  | none => simp
  | some x => simp [hp]

theorem rangeEnds_rangeSweep (hq : QueueSound s) (h₀ : s.drive.usable ≠ 0) :
    RangeEnds s.drive.usable.toNat s (rangeSweep s) := by
  have hend : Ended .range (s.request.queue.filter (·.outOf s.drive.usable.toNat)) s (rangeSweep s) := by
    rw [rangeSweep_eq h₀]
    exact ended_sweep (st := .range) nofun hq _
  exact
    { others := fun e he ho => hend.stays hq he ho
      entries := fun e he hr => by
        rw [hend.entries e he, endedBy_other hr]
        rfl
      out := hend.out
      dirty := hend.dirty
      copies := fun e he hw => hend.copyGone he hw
      replicas := fun n hp e he hr x hx => hend.missed hp he hr hx }

end

theorem usable_ne_zero {size : BlockNo} (h : 1024 ≤ size.toNat) : size - 8#32 ≠ 0 := by
  intro h₀
  bv_omega

/-- Settles O42. -/
theorem identifyDecidesReady : Obligations.IdentifyDecidesReady := by
  intro s r t size hr hd hf
  have hnf : (freeLane s).drive.state ≠ .fault := fun h => by
    have h' : s.drive.state = .fault := h
    rw [hd] at h'
    cases h'
  have hfault : ∀ c, (enterFault c (freeLane s)).steady = s.faulted c := fun c =>
    (steady_enterFault c (s := freeLane s) hnf).trans rfl
  have hok := identifyReply_eq hd hf (.ok size)
  refine ⟨fun h => ?_, fun h hu => ?_, fun h h₀ hne => ?_, ?_⟩
  · exact leaves_event hr rfl (hok.trans (identified_small h)) (hfault _)
  · obtain ⟨c, hc⟩ := settleHolding_frame (s.identified size)
    have hclaim := settleHolding_claim (s := s.identified size)
    have hoff := offEntries_rangeSweep (settleHolding (s.identified size))
    refine does_event hr rfl (hok.trans (identified_ready h hu)) ?_ ⟨?_, fun hs => ?_, fun hq => ?_⟩
    · rw [steady_rangeSweep, steady_settleHolding]
      have hcold : (s.identified size).steady.coldDrive = s.cold .ready s.drive.deferral s.drive.offSince := rfl
      have hheld : (s.identified size).steady.held = none := by simp [State.identified, State.steady]
      have hsteady : (s.identified size).steady = { s.steady with
        usable := size - 8#32, readyWait := none, held := (s.identified size).steady.held
        comp := { level := some .run, hold := true, counting := false }
        coldDrive := (s.identified size).steady.coldDrive } := rfl
      rw [hcold, hheld] at hsteady
      exact hsteady
    · refine (congrArg (·.drive.flight) hoff).trans ?_
      rw [hc]
      rfl
    · have h := hclaim hs
      rw [show (rangeSweep (settleHolding (s.identified size))).claim = (settleHolding (s.identified size)).claim from
        congrArg (·.claim) hoff]
      exact h
    · have hends := rangeEnds_rangeSweep (s := settleHolding (s.identified size)) (by rw [hc]; exact hq)
        (by rw [hc]; exact usable_ne_zero h)
      rw [hc] at hends ⊢
      obtain ⟨h₁, h₂, h₃, h₄, h₅, h₆⟩ := hends
      exact ⟨h₁, h₂, h₃, h₄, h₅, h₆⟩
  · exact leaves_event hr rfl (hok.trans (identified_other h h₀ hne)) (hfault _)
  · exact leaves_event hr rfl (identifyReply_eq hd hf .mediaError) (hfault _)

/-! What the tests after an event leave, stage by stage: the mirror unit, the drive lane and the queue. -/

section
variable {s : State}

/-! ## The state without the queue, the mirror unit, the resync and the lane -/

/-- The state without what the tests of the mirror unit, the drive lane and the request queue may change: besides those units
their slots, the line and the command in flight. -/
def State.offWork (s : State) : State :=
  { s with
    bus := { s.bus with slots := { s.bus.slots with request := none, mirror := none, resync := none }, sending := none }
    request := State.reset.request, mirror := State.reset.mirror, engine := State.reset.engine
    drive := { s.drive with flight := none, resyncWait := 0 } }

theorem offWork_of_offEntries {u : State} (h : u.offEntries = s.offEntries) : u.offWork = s.offWork :=
  have hw : u.offEntries.offWork = s.offEntries.offWork := congrArg State.offWork h
  hw

theorem offWork_foldl {α : Type} (f : State → α → State) (hf : ∀ s a, (f s a).offWork = s.offWork) :
    ∀ (l : List α) (s : State), (l.foldl f s).offWork = s.offWork
  | [], _ => rfl
  | a :: l, s => (offWork_foldl f hf l (f s a)).trans (hf s a)

theorem offWork_withdraw {i : SlotId} (hi : i = .mirror ∨ i = .resync) (p : OutMsg → Bool) (s : State) :
    (withdraw i p s).2.offWork = s.offWork := by
  rw [(withdraw_spec i p s).1.frame]
  rcases hi with rfl | rfl <;> rfl

theorem offWork_stopResync (s : State) : (stopResync false s).offWork = s.offWork := by
  have hw : ∀ v : State, (withdrawEngine v).offWork = v.offWork := fun v =>
    (offWork_withdraw (.inr rfl) _ _).trans (offWork_withdraw (.inl rfl) _ _)
  have hs : ∀ f : ResyncEngine → ResyncEngine, ((withdrawEngine s).onEngine f).offWork = s.offWork := fun f => hw s
  unfold stopResync
  split
  · rfl
  · dsimp only
    split
    · exact hs _
    · exact hs _

theorem offWork_endEntry (k : Key) (st : Status) (s : State) : (endEntry k st s).offWork = s.offWork :=
  offWork_of_offEntries (offEntries_endEntry k st s)

theorem offWork_endReplica (k : Key) (b : Bool) (s : State) : (endReplica k b s).offWork = s.offWork :=
  offWork_of_offEntries (offEntries_endReplica k b s)

theorem offWork_endWaits (st : Status) (b : Bool) (s : State) : (endWaits st b s).offWork = s.offWork := by
  refine offWork_foldl _ (fun s e => (offWork_endEntry _ _ _).trans ?_) _ s
  split
  · split
    · exact offWork_of_offEntries (offEntries_markRegions _ _)
    · rfl
  · rfl

/-! ## The stages -/

theorem offWork_linkLeft (a b : Link) (s : State) : (linkLeft a b s).offWork = s.offWork := by
  have h₁ : (if a = .following ∧ b ≠ .following then
      let s := setBehind s
      (s.request.queue.filter fun e =>
          e.kind == .replica && (e.state == .dataIn || e.state == .queued)).foldl
        (fun s e => endReplica e.key true s) s
    else s).offWork = s.offWork := by
    split
    · exact (offWork_foldl _ (fun s e => offWork_endReplica _ _ s) _ _).trans
        (offWork_of_offEntries (offEntries_setBehind s))
    · rfl
  unfold linkLeft
  extract_lets _ u v
  have hu : u.offWork = s.offWork := h₁
  have hv : v.offWork = s.offWork := by
    refine Eq.trans ?_ hu
    show (if _ then _ else _ : State).offWork = _
    split
    · exact offWork_endWaits _ _ _
    · rfl
  split
  · exact (offWork_stopResync v).trans hv
  · exact hv

theorem offWork_judgeLink (s : State) : (judgeLink s).offWork = s.offWork := by
  unfold judgeLink
  dsimp only
  split
  · rfl
  · exact offWork_linkLeft _ _ _

theorem offWork_dropPromotion (s : State) : (dropPromotion s).offWork = s.offWork := by
  unfold dropPromotion
  split
  · split
    · dsimp only
      split
      · exact offWork_endEntry _ _ _
      · rfl
    · rfl
  · rfl

theorem offWork_startResync (s : State) : (startResync s).offWork = s.offWork := by
  unfold startResync
  split
  · split <;> rfl
  · rfl

theorem offWork_resyncWakeTest (s : State) : (resyncWakeTest s).offWork = s.offWork := by
  unfold resyncWakeTest
  split
  · split <;> rfl
  · rfl

theorem offWork_settleMirror (s : State) : (settleMirror s).offWork = s.offWork :=
  (offWork_resyncWakeTest _).trans ((offWork_startResync _).trans ((offWork_dropPromotion _).trans (offWork_judgeLink s)))

theorem offWork_checkResyncBegin (e : Entry) (n : Nat) (s : State) : (checkResyncBegin e n s).offWork = s.offWork := by
  unfold checkResyncBegin
  split
  · exact (offWork_endEntry _ _ _).trans (offWork_of_offEntries (offEntries_setBehind s))
  · exact offWork_endEntry _ _ _

theorem offWork_checkPromote (e : Entry) (s : State) : (checkPromote e s).offWork = s.offWork := by
  unfold checkPromote
  split
  · split
    · rfl
    · exact offWork_endEntry _ _ _
  · split
    · rfl
    · exact offWork_endEntry _ _ _

theorem offWork_handSpecials (s : State) : (handSpecials s).offWork = s.offWork := by
  refine offWork_foldl _ (fun s k => ?_) _ s
  split
  · split
    · split
      · exact offWork_checkResyncBegin _ _ _
      · exact offWork_checkPromote _ _
      all_goals rfl
    · rfl
  · rfl

theorem offWork_takePages (s : State) : (takePages s).offWork = s.offWork := by
  unfold takePages
  split
  · split
    · dsimp only
      split <;> rfl
    · rfl
  · rfl

theorem offWork_sendRecordWork (s : State) : (sendRecordWork s).offWork = s.offWork := by
  unfold sendRecordWork
  split
  · rfl
  · split <;> rfl

theorem offWork_sendChunkRead (s : State) : (sendChunkRead s).offWork = s.offWork := by
  unfold sendChunkRead
  split <;> rfl

theorem offWork_runChecks (s : State) : (runChecks s).offWork = s.offWork := by
  refine offWork_foldl _ (fun s k => ?_) _ s
  split
  · split
    · split
      · exact offWork_endEntry _ _ _
      · rfl
    · rfl
  · rfl

theorem offWork_chooseCommand (s : State) : (chooseCommand s).offWork = s.offWork := by
  unfold chooseCommand
  split
  · split
    · exact offWork_sendRecordWork s
    · split
      · exact offWork_sendChunkRead s
      · dsimp only
        split
        · exact offWork_runChecks s
        · split
          · exact (offWork_sendChunkRead _).trans (offWork_runChecks s)
          · exact offWork_runChecks s
  · rfl

theorem offWork_settlePages (s : State) : (settlePages s).offWork = s.offWork :=
  (offWork_chooseCommand _).trans (offWork_takePages s)

theorem offWork_settleLane (s : State) : (settleLane s).offWork = s.offWork :=
  (offWork_settlePages _).trans (offWork_handSpecials s)

theorem offWork_placeRequest (s : State) : (placeRequest s).offWork = s.offWork := by
  unfold placeRequest
  split
  · dsimp only
    split <;> rfl
  · rfl

theorem offWork_placeMirror (s : State) : (placeMirror s).offWork = s.offWork := by
  unfold placeMirror
  split
  · dsimp only
    split <;> rfl
  · rfl

theorem offWork_placeResync (s : State) : (placeResync s).offWork = s.offWork := by
  unfold placeResync
  split
  · split
    · dsimp only
      split <;> rfl
    · rfl
  · rfl

theorem offWork_settleSlots (b s : State) : (settleSlots b s).offWork = s.offWork :=
  (offWork_placeResync _).trans ((offWork_placeMirror _).trans (offWork_placeRequest _))

end

/-! What the tests after an event leave, stage by stage: the budget unit, the watch unit, the announcements. -/

section
variable {s : State}

/-! ## The budget unit -/

theorem offClaim_giveUpClaim (s : State) : (giveUpClaim s).offClaim = s.offClaim := by
  have hc : ∀ v : State, (claimRemoved v).offClaim = v.offClaim := fun v => by
    unfold claimRemoved
    split
    · dsimp only
      split <;> rfl
    · rfl
  have hb := offClaim_budgetRetract isClaim (s.onClaim fun c => { c with giveUp := true })
  unfold giveUpClaim
  split
  · dsimp only
    split
    · exact (hc _).trans hb
    · exact hb
  all_goals rfl

theorem offClaim_releaseStray (s : State) : (releaseStray s).offClaim = s.offClaim := by
  unfold releaseStray
  split
  · split
    · rfl
    · split <;> rfl
  · rfl

theorem offClaim_testClaim (s : State) : (testClaim s).offClaim = s.offClaim := by
  unfold testClaim
  split <;> rfl

theorem offClaim_placeBudget (s : State) : (placeBudget s).offClaim = s.offClaim := by
  unfold placeBudget
  split <;> rfl

theorem offClaim_settleBudget (s : State) : (settleBudget s).offClaim = s.offClaim := by
  unfold settleBudget
  refine (offClaim_placeBudget _).trans ((offClaim_testClaim _).trans ?_)
  split
  · exact (offClaim_giveUpClaim _).trans (offClaim_releaseStray s)
  · exact offClaim_releaseStray s

/-! ## The watch unit -/

/-- The state without the WATCH slot, the line and the watch unit. -/
def State.offWatch (s : State) : State :=
  { s with
    bus := { s.bus with slots := { s.bus.slots with watch := none }, sending := none }
    watch := State.reset.watch }

/-- The state without the WATCH slot, the line and the watch unit's outgoing list. -/
def State.offOut (s : State) : State :=
  { s with
    bus := { s.bus with slots := { s.bus.slots with watch := none }, sending := none }
    watch := { s.watch with out := [] } }

theorem offWatch_of_offOut {u : State} (h : u.offOut = s.offOut) : u.offWatch = s.offWatch :=
  have hw : u.offOut.offWatch = s.offOut.offWatch := congrArg State.offWatch h
  hw

theorem offOut_withdraw (p : OutMsg → Bool) (s : State) : (withdraw .watch p s).2.offOut = s.offOut := by
  rw [(withdraw_spec .watch p s).1.frame]
  rfl

theorem offOut_watchRetract (p : OutMsg → Bool) (s : State) : (watchRetract p s).2.offOut = s.offOut := by
  unfold watchRetract
  split
  · rfl
  · exact offOut_withdraw p s

theorem offOut_foldl {α : Type} (f : State → α → State) (hf : ∀ s a, (f s a).offOut = s.offOut) :
    ∀ (l : List α) (s : State), (l.foldl f s).offOut = s.offOut
  | [], _ => rfl
  | a :: l, s => (offOut_foldl f hf l (f s a)).trans (hf s a)

theorem offWatch_foldl {α : Type} (f : State → α → State) (hf : ∀ s a, (f s a).offWatch = s.offWatch) :
    ∀ (l : List α) (s : State), (l.foldl f s).offWatch = s.offWatch
  | [], _ => rfl
  | a :: l, s => (offWatch_foldl f hf l (f s a)).trans (hf s a)

theorem offWatch_endProxies (p : Station → Bool) (s : State) : (endProxies p s).offWatch = s.offWatch := by
  refine offWatch_foldl _ (fun s e => ?_) _ s
  rfl

/-- The state of a station that has lost duty, but for its timers and marks. -/
def State.relieved (s : State) : State :=
  (withdraw .watch isDutyWork (watchRetract isDutyWork (endProxies (fun _ => true) s)).2).2

theorem loseDuty_eq (s : State) : loseDuty s =
    s.relieved.onWatch fun w => { w with term := none, passCheck := none, marks := Vector.replicate 16 .clear } := rfl

theorem offWatch_relieved (s : State) : s.relieved.offWatch = s.offWatch :=
  (offWatch_of_offOut (offOut_withdraw _ _)).trans
    ((offWatch_of_offOut (offOut_watchRetract _ _)).trans (offWatch_endProxies _ s))

theorem offWatch_onWatch (f : WatchUnit → WatchUnit) (s : State) : (s.onWatch f).offWatch = s.offWatch := rfl

theorem offWatch_loseDuty (s : State) : (loseDuty s).offWatch = s.offWatch :=
  (offWatch_onWatch _ _).trans (offWatch_relieved s)

theorem offWatch_dutyEdge (b s : State) : (dutyEdge b s).offWatch = s.offWatch := by
  unfold dutyEdge
  split
  · rfl
  · split
    · exact offWatch_loseDuty s
    · rfl

theorem offOut_followPass (s : State) : (followPass s).offOut = s.offOut := by
  unfold followPass
  split
  · exact offOut_watchRetract _ s
  · rfl

theorem offOut_followTakeTest (s : State) : (followTakeTest s).offOut = s.offOut := by
  unfold followTakeTest
  split
  · split <;> rfl
  · split
    · exact offOut_watchRetract _ s
    · rfl

theorem offOut_makeWakes (s : State) : (makeWakes s).offOut = s.offOut :=
  offOut_foldl _ (fun _ _ => by split <;> rfl) _ s

theorem offOut_orderWatch (l : List OutMsg) (s : State) : (orderWatch l s).offOut = s.offOut := rfl

theorem offOut_placeWatch (s : State) : (placeWatch s).offOut = s.offOut := by
  unfold placeWatch
  split <;> rfl

theorem offOut_followSleep (s : State) : (followSleep s).offOut = s.offOut := by
  unfold followSleep
  split
  · split
    · rfl
    · exact offOut_withdraw _ s
  · split <;> rfl

theorem offOut_settleWatch (l : List OutMsg) (s : State) : (settleWatch l s).offOut = s.offOut := by
  unfold settleWatch
  rw [offOut_placeWatch, offOut_followSleep, offOut_placeWatch, offOut_orderWatch, offOut_makeWakes,
    offOut_followTakeTest, offOut_followPass]

theorem offWatch_settleWatch (l : List OutMsg) (s : State) : (settleWatch l s).offWatch = s.offWatch :=
  offWatch_of_offOut (offOut_settleWatch l s)

/-! ## Announcements -/

/-- The state without the PRESENCE slot and the announcer. -/
def State.offAnnounce (s : State) : State :=
  { s with
    bus := { s.bus with slots := { s.bus.slots with presence := none } }
    announce := State.reset.announce }

theorem offAnnounce_placeAwake (s : State) : (placeAwake s).offAnnounce = s.offAnnounce := by
  unfold placeAwake
  split
  · split
    · rfl
    · split <;> rfl
  · rfl

theorem offAnnounce_announceChange (b s : State) : (announceChange b s).offAnnounce = s.offAnnounce := by
  unfold announceChange
  split
  · exact offAnnounce_placeAwake s
  · rfl

/-! ## The end of the tests -/

/-- What the event itself and the edge of watch duty leave to the tests of HOT. -/
def edged (b s : State) : State := dutyEdge b (stopIdle s)

/-- What stands before the need for spin-up is reported. -/
def worked (b s : State) : State :=
  settlePages (settleSlots b (settleLane (settleMirror (hotAction (edged b s)))))

/-- What stands when the need for spin-up has been reported and the claim tests are done. -/
def budgeted (b s : State) : State := settleBudget (reportNeed (worked b s))

theorem settle_eq (b : State) (h : s.takesPart = true) :
    settle b s = announceChange b (settleWatch b.watch.out (updateIdle (budgeted b s))) := if_pos h

/-- The state without the units that the tests turn to last. -/
def State.offLast (s : State) : State :=
  { s with bus := State.reset.bus, watch := State.reset.watch, announce := State.reset.announce }

theorem offLast_of_offAnnounce {u : State} (h : u.offAnnounce = s.offAnnounce) : u.offLast = s.offLast :=
  have hl : u.offAnnounce.offLast = s.offAnnounce.offLast := congrArg State.offLast h
  hl

theorem offLast_of_offWatch {u : State} (h : u.offWatch = s.offWatch) : u.offLast = s.offLast :=
  have hl : u.offWatch.offLast = s.offWatch.offLast := congrArg State.offLast h
  hl

theorem drive_of_offLast {u : State} (h : u.offLast = s.offLast) : u.drive = s.drive :=
  have hd : u.offLast.drive = s.offLast.drive := congrArg (·.drive) h
  hd

theorem drive_of_offClaim {u : State} (h : u.offClaim = s.offClaim) : u.drive = s.drive :=
  have hd : u.offClaim.drive = s.offClaim.drive := congrArg (·.drive) h
  hd

theorem offLast_settle (b : State) (h : s.takesPart = true) :
    (settle b s).offLast = (updateIdle (budgeted b s)).offLast := by
  rw [settle_eq b h]
  exact (offLast_of_offAnnounce (offAnnounce_announceChange _ _)).trans
    (offLast_of_offWatch (offWatch_settleWatch _ _))

end

/-! Spin-up (R68 to R71). -/

section
variable {s : State}

/-! ## The need for spin-up -/

theorem needNow_reportNeed (s : State) : (reportNeed s).needNow = (reportNeed s).drive.need := rfl

theorem needNow_updateIdle (s : State) : (updateIdle s).needNow = s.needNow := rfl

theorem need_updateIdle (s : State) : (updateIdle s).drive.need = s.drive.need := rfl

/-- What the need for spin-up rests on stands at the end of the tests as it stood when it was reported. -/
theorem needNow_settle (b : State) (h : s.takesPart = true) : (settle b s).drive.need = (settle b s).needNow := by
  have ht := offLast_settle b h
  have hx : (budgeted b s).offClaim = (reportNeed (worked b s)).offClaim := offClaim_settleBudget _
  have hneed : ∀ u v : State, u.offLast = v.offLast → u.needNow = v.needNow := fun u v huv => by
    have hu : u.offLast.needNow = v.offLast.needNow := congrArg State.needNow huv
    exact hu
  have hclaim : ∀ u v : State, u.offClaim = v.offClaim → u.needNow = v.needNow := fun u v huv => by
    have hu : u.offClaim.needNow = v.offClaim.needNow := congrArg State.needNow huv
    exact hu
  rw [hneed _ _ ht]
  rw [needNow_updateIdle, hclaim _ _ hx, needNow_reportNeed]
  exact (congrArg (·.need) (drive_of_offLast ht)).trans
    ((need_updateIdle _).trans (congrArg (·.need) (drive_of_offClaim hx)))

theorem needNow_iff (h : s.takesPart = true) : s.needNow = true ↔ s.drive.state = .off ∧ s.drive.deferral = none
    ∧ ((∃ e ∈ s.request.queue, e.state = .queued)
      ∨ (s.mirror.cond = .notLoaded ∧ ∃ c, s.settings = some c ∧ c.mode ≠ .single)
      ∨ s.mirror.calls.opening = true ∨ s.mirror.calls.roleChange = true ∨ s.mirror.calls.mark = true
      ∨ s.engine.state ≠ .idle) := by
  have hmode : (match s.settings with | some c => c.mode != .single | none => false) = true ↔
      ∃ c, s.settings = some c ∧ c.mode ≠ .single := by
    cases s.settings with
    | none => simp
    | some c => simp
  have hreq : s.requestWork = true ↔ ∃ e ∈ s.request.queue, e.state = .queued := by simp [State.requestWork]
  have hmir : s.mirrorWork = true ↔ (s.mirror.cond = .notLoaded ∧ ∃ c, s.settings = some c ∧ c.mode ≠ .single)
      ∨ s.mirror.calls.opening = true ∨ s.mirror.calls.roleChange = true ∨ s.mirror.calls.mark = true
      ∨ s.engine.state ≠ .idle := by
    rw [← hmode]
    simp only [State.mirrorWork, Bool.and_eq_true, Bool.or_eq_true, beq_iff_eq, bne_iff_ne, or_assoc] <;> exact Iff.rfl
  unfold State.needNow
  simp only [h, Bool.true_and, Bool.and_eq_true, Bool.or_eq_true, beq_iff_eq, Option.isNone_iff_eq_none, hreq, hmir, and_assoc]

/-! ## Power -/

theorem steady_applyPower (s : State) : (applyPower s).steady = s.spinningUp := by
  unfold applyPower armAt
  simp [State.steady, State.onDrive, State.onComp, State.spinningUp, State.cold, State.counters]
  rfl

theorem exhaustDeferral_due {t : Tick} (hd : s.drive.deferral = some t) (ht : 500 ≤ (s.tick - t).toNat)
    (ha : s.adequate = false) : exhaustDeferral s = giveUpDeferral true s :=
  if_pos ⟨by rw [hd]; exact expired_some.mpr ht, ha⟩

theorem exhaustDeferral_waits {t : Tick} (hd : s.drive.deferral = some t)
    (ht : (s.tick - t).toNat < 500 ∨ s.adequate = true) : exhaustDeferral s = s := by
  refine if_neg fun h => ?_
  rw [hd, expired_some] at h
  rcases ht with ht | ht
  · exact absurd h.1 (Nat.not_le.mpr ht)
  · rw [h.2] at ht
    cases ht

/-- R70: the deferral is given up for low voltage: the budget unit is told, and the claim holds off. -/
theorem giveUpDeferral_eq (s : State) : giveUpDeferral true s =
    (powerRemoved (s.onDrive fun d => { d with deferral := none, offSince := s.tick })).onClaim fun c =>
      { c with holdOff := some (s.tick + 1000#32) } := by
  have ht : (powerRemoved (s.onDrive fun d => { d with deferral := none, offSince := s.tick })).tick = s.tick :=
    congrArg (·.tick) (offClaim_powerRemoved _)
  unfold giveUpDeferral
  rw [if_pos rfl, ht]
  rfl

theorem powerRemoved_units (hc : s.claim.state = .spinUnits) (hp : s.budgetPending isSettle = false) :
    powerRemoved s = releaseAll s := by
  unfold powerRemoved
  rw [hc]
  exact if_neg (by simp [hp])

theorem steady_giveUpDeferral_low (s : State) : (giveUpDeferral true s).steady =
    { s.steady with holdOff := some (s.tick + 1000#32), coldDrive := s.cold s.drive.state none s.tick } := by
  rw [giveUpDeferral_eq]
  have h := steady_powerRemoved (s.onDrive fun d => { d with deferral := none, offSince := s.tick })
  generalize powerRemoved (s.onDrive fun d => { d with deferral := none, offSince := s.tick }) = v at h
  have hv : (v.onClaim fun c => { c with holdOff := some (s.tick + 1000#32) }).steady =
    { v.steady with holdOff := some (s.tick + 1000#32) } := rfl
  rw [hv, h]
  rfl

end

/-- Settles O41. -/
theorem spinUpProceeds : Obligations.SpinUpProceeds := by
  refine ⟨fun b s ht => ?need, fun s hr => ⟨fun hd ha => ?_, fun h => ?_, fun t hd ht ha => ?_,
    fun t hd ht => ?_, fun hs hw => ?_, fun h => ?_, fun t hw ht hd => ?_, fun t hw ht => ?_⟩⟩
  case need =>
    intro t
    have hst : t.steady = s.steady := steady_settle s b
    have htp : t.takesPart = true := by
      have h₁ : t.resetAsserted = s.resetAsserted := congrArg Steady.resetAsserted hst
      have h₂ : t.power = s.power := congrArg Steady.power hst
      have h₃ : t.settings = s.settings := congrArg Steady.settings hst
      unfold State.takesPart at ht ⊢
      rwa [h₁, h₂, h₃]
    rw [needNow_settle b ht]
    exact needNow_iff htp
  · exact leaves_event hr rfl (if_pos ⟨Option.isSome_iff_ne_none.mpr hd, ha⟩) (steady_applyPower s)
  · refine idles_of _ hr rfl (if_neg fun hc => ?_)
    rcases h with h | h
    · rw [h] at hc
      cases hc.1
    · rw [h] at hc
      cases hc.2
  · refine does_event hr rfl (exhaustDeferral_due hd ht ha) (steady_giveUpDeferral_low s) fun hc hp => ?_
    rw [giveUpDeferral_eq, powerRemoved_units (by exact hc) (by exact hp)]
    exact ⟨rfl, rfl⟩
  · exact idles_of _ hr rfl (exhaustDeferral_waits hd ht)
  · exact does_event hr rfl (if_pos ⟨hs, Option.isSome_iff_ne_none.mpr hw⟩) rfl rfl
  · refine idles_of _ hr rfl (if_neg fun hc => ?_)
    rcases h with h | h
    · exact h hc.1
    · rw [h] at hc
      cases hc.2
  · exact leaves_event hr rfl (if_pos (by rw [hw]; exact expired_some.mpr ht)) (steady_enterFault _ hd)
  · refine idles_of _ hr rfl (if_neg fun hc => ?_)
    rw [hw, expired_some] at hc
    exact absurd hc (Nat.not_le.mpr ht)

/-! The idle timer and the entry into SPIN_DOWN (R77, R78). -/

section
variable {s : State}

/-! ## The entry into SPIN_DOWN -/

/-- The state that enters SPIN_DOWN, before the resync stops. -/
def State.stopping (s : State) : State :=
  { s with
    drive := { s.drive with state := .spinDown, idle := none }
    mirror := { s.mirror with promotion := none } }

/-- The state in SPIN_DOWN before the last command of the drive. -/
def State.stopped (s : State) : State := ageSweep (stopResync false s.stopping)

theorem enterSpinDown_eq (s : State) : enterSpinDown s =
    if s.stopped.mirror.cond = .opened ∨ s.stopped.mirror.calls.any = true then sendRecordWrite true s.stopped
    else sendSpinDownSync s.stopped := rfl

theorem drive_of_offWork {u : State} (h : u.offWork = s.offWork) :
    { u.drive with flight := none, resyncWait := 0 } = { s.drive with flight := none, resyncWait := 0 } :=
  congrArg (·.drive) h

theorem offWork_ageSweep (s : State) : (ageSweep s).offWork = s.offWork :=
  offWork_of_offEntries (offEntries_endWorks .noPower _ s)

theorem offWork_stopped (s : State) : s.stopped.offWork = s.stopping.offWork :=
  (offWork_ageSweep _).trans (offWork_stopResync _)

theorem offWork_sendRecordWrite (b : Bool) (s : State) : (sendRecordWrite b s).offWork = s.offWork := rfl

theorem offWork_sendSpinDownSync (s : State) : (sendSpinDownSync s).offWork = s.offWork := rfl

theorem offWork_enterSpinDown (s : State) : (enterSpinDown s).offWork = s.stopping.offWork := by
  rw [enterSpinDown_eq]
  split
  · exact (offWork_sendRecordWrite _ _).trans (offWork_stopped s)
  · exact (offWork_sendSpinDownSync _).trans (offWork_stopped s)

theorem state_enterSpinDown (s : State) : (enterSpinDown s).drive.state = .spinDown :=
  congrArg (·.state) (drive_of_offWork (offWork_enterSpinDown s))

theorem steady_stopping (h : s.drive.state = .ready) : s.stopping.steady =
    { s.steady with coldDrive := s.cold .spinDown s.drive.deferral s.drive.offSince } := by
  simp [State.stopping, State.steady, State.cold, State.counters, h]
  rfl

theorem steady_stopped (s : State) : s.stopped.steady = s.stopping.steady :=
  (steady_ageSweep _).trans (steady_stopResync _)

theorem steady_enterSpinDown_ready (h : s.drive.state = .ready) : (enterSpinDown s).steady =
    { s.steady with coldDrive := s.cold .spinDown s.drive.deferral s.drive.offSince } := by
  rw [enterSpinDown_eq, ← steady_stopping h, ← steady_stopped]
  split
  · exact steady_sendRecordWrite s.stopped true
  · exact steady_sendSpinDownSync s.stopped

/-! ## The entries and the record when the drive stops -/

theorem ended_stopped (hq : QueueSound s) : Ended .noPower (s.request.queue.filter fun e => s.aged e)
    (stopResync false s.stopping) s.stopped := by
  obtain ⟨hframe, -, -⟩ := stopResync_spec s.stopping
  have hreq : (stopResync false s.stopping).request = s.request := by rw [hframe]; rfl
  have htick : (stopResync false s.stopping).tick = s.tick := by rw [hframe]; rfl
  have h := ended_ageSweep (s := stopResync false s.stopping) (by unfold QueueSound; rw [hreq]; exact hq)
  unfold State.aged at h ⊢
  rw [hreq, htick] at h
  exact h

/-- The entries that the age limit ends (R113). -/
def State.overdue (s : State) : List Entry := s.request.queue.filter fun e => s.aged e

/-- The calls for a record write after those entries have ended (R136, R142). -/
def State.callsAfter (s : State) : RecordCalls :=
  { s.mirror.calls with
    mark := s.mirror.calls.mark || (s.mirror.cond == .closed && s.mapAfter s.overdue != s.mirror.dirty) }

/-- State `w` is state `s` stopped for SPIN_DOWN, before the last command of the drive. -/
structure StopEnds (s w : State) : Prop where
  cond : w.mirror.cond = s.mirror.cond
  values : ∀ clean, w.recordFor clean =
    if s.mirror.cond = .opening ∧ s.mirror.image ≠ none then s.recordFor clean
    else { s.recordFor clean with dirty := s.mapAfter s.overdue }
  calls : w.mirror.calls = s.callsAfter
  usable : w.drive.usable = s.drive.usable
  tick : w.tick = s.tick
  engine : w.engine.state = .idle
  dirty : w.mirror.dirty = s.mapAfter s.overdue
  entries : ∀ e ∈ s.overdue, e.kind ≠ .replica →
    w.entry e.key = some { e with state := .ending, status := some .noPower, send := none }
  replicas : ∀ n, s.partner = some n → ∀ e ∈ s.overdue, e.kind = .replica → ∀ x, e.extent = some x →
    w.entry e.key = some { e with state := .ending } ∧ .mirrorMiss n e.key x.start x.count 0 true ∈ w.mirror.out
  others : ∀ e ∈ s.request.queue, e ∉ s.overdue → w.entry e.key = some e
  copies : ∀ e ∈ s.overdue, e.kind = .write → w.copyState e.key = none

/-- The record values rest on these parts of the state. -/
theorem recordFor_of {u : State} {map : BitVec 256} (hr : u.mirror.role = s.mirror.role) (he : u.mirror.epoch = s.mirror.epoch)
    (hz : u.mirror.regionSize = s.mirror.regionSize) (hc : u.mirror.cond = s.mirror.cond)
    (hi : u.mirror.image = s.mirror.image) (hs : u.settings = s.settings) (hd : u.mirror.dirty = map) (clean : Bool) :
    u.recordFor clean =
      if s.mirror.cond = .opening ∧ s.mirror.image ≠ none then s.recordFor clean
      else { s.recordFor clean with dirty := map } := by
  unfold State.recordFor
  rw [hr, he, hz, hc, hi, hs, hd]
  by_cases ho : s.mirror.cond = .opening
  · cases h : s.mirror.image with
    | none => simp [ho]
    | some f => simp [ho]
  · simp [ho]

theorem mapAfter_of {u : State} (hr : u.mirror.role = s.mirror.role) (hd : u.mirror.dirty = s.mirror.dirty)
    (hx : ∀ x, u.regions x = s.regions x) (l : List Entry) : u.mapAfter l = s.mapAfter l := by
  unfold State.mapAfter
  rw [hr, hd]
  simp only [hx]

theorem stopEnds_stopped (hq : QueueSound s) : StopEnds s s.stopped := by
  have hend := ended_stopped hq
  obtain ⟨hframe, hidle, -⟩ := stopResync_spec s.stopping
  have hst := (steady_stopped s)
  generalize s.stopped = w at *
  generalize stopResync false s.stopping = v at *
  have hrole : v.mirror.role = s.mirror.role := by rw [hframe]; rfl
  have hdirty : v.mirror.dirty = s.mirror.dirty := by rw [hframe]; rfl
  have hcalls : v.mirror.calls = s.mirror.calls := by rw [hframe]; rfl
  have hcond : v.mirror.cond = s.mirror.cond := by rw [hframe]; rfl
  have hpart : v.partner = s.partner := by rw [hframe]; rfl
  have hreq : v.request = s.request := by rw [hframe]; rfl
  have hmap : v.mapAfter s.overdue = s.mapAfter s.overdue :=
    mapAfter_of hrole hdirty (fun x => by rw [hframe]; rfl) _
  have hwd : w.mirror.dirty = s.mapAfter s.overdue := hend.dirty.trans hmap
  have hwc : w.mirror.cond = s.mirror.cond := by rw [hend.frame]; exact hcond
  have hin : ∀ e ∈ s.overdue, v.entry e.key = some e := fun e he =>
    (entry_of_request (by rw [hreq]) _).trans (entry_of_mem hq (List.mem_filter.mp he).1)
  exact
    { cond := hwc
      values := recordFor_of (congrArg Steady.role hst) (congrArg Steady.epoch hst) (congrArg Steady.regionSize hst) hwc
        (congrArg Steady.image hst) (congrArg Steady.settings hst) hwd
      calls := by
        rw [hend.calls, hcalls, hcond, hwd, hdirty]
        rfl
      usable := congrArg Steady.usable hst
      tick := congrArg Steady.tick hst
      engine := by
        rw [hend.frame]
        exact hidle
      dirty := hwd
      entries := fun e he hr => by
        rw [hend.entries e he, endedBy_other hr]
        rfl
      replicas := fun n hp e he hr x hx => by
        obtain ⟨h₁, h₂, -⟩ := hend.missed (hpart.trans hp) he hr hx
        exact ⟨h₁, h₂⟩
      others := fun e he ho => by
        refine (hend.others _ fun hm => ?_).trans ((entry_of_request (by rw [hreq]) _).trans (entry_of_mem hq he))
        obtain ⟨g, hg, hk⟩ := List.mem_map.mp hm
        exact ho (eq_of_key hq (List.mem_filter.mp hg).1 he hk ▸ hg)
      copies := fun e he hw => hend.copyGone he hw }

/-! ## The last command of the drive -/

theorem enterSpinDown_record (h : s.stopped.mirror.cond = .opened ∨ s.stopped.mirror.calls.any = true) :
    enterSpinDown s = sendRecordWrite true s.stopped := if_pos h

theorem enterSpinDown_sync (h : ¬ (s.stopped.mirror.cond = .opened ∨ s.stopped.mirror.calls.any = true)) :
    enterSpinDown s = sendSpinDownSync s.stopped := if_neg h

/-- The last command of the drive leaves the entries, the engine, the map and the outgoing list. -/
theorem enterSpinDown_keeps (s : State) :
    (∀ k, (enterSpinDown s).entry k = s.stopped.entry k)
      ∧ (∀ k, (enterSpinDown s).copyState k = s.stopped.copyState k)
      ∧ (enterSpinDown s).engine = s.stopped.engine
      ∧ (enterSpinDown s).mirror.dirty = s.stopped.mirror.dirty ∧ (enterSpinDown s).mirror.out = s.stopped.mirror.out := by
  rw [enterSpinDown_eq]
  generalize s.stopped = w
  split <;> exact ⟨fun _ => rfl, fun _ => rfl, rfl, rfl, rfl⟩

/-- What a record write on the lane shows. -/
theorem sendRecordWrite_spec (clean : Bool) (s : State) :
    let u := sendRecordWrite clean s
    u.drive.flight = some
        { cmd := .write s.drive.usable 1, requester := .recordWrite (s.recordFor clean) s.mirror.calls, start := s.tick }
      ∧ u.mirror.blockStore = (s.recordFor clean).block ∧ u.mirror.calls = .quiet
      ∧ u.laneBlocks = [(s.recordFor clean).block] ∧ u.recordFor clean = s.recordFor clean := by
  intro u
  have hr : u.recordFor clean = s.recordFor clean := rfl
  rw [hr, ← recordValues_eq]
  exact ⟨rfl, rfl, rfl, rfl, rfl⟩

/-- What the SYNC of spin-down on the lane shows. -/
theorem sendSpinDownSync_flight (s : State) :
    (sendSpinDownSync s).drive.flight = some { cmd := .sync, requester := .port, start := s.tick } := rfl

/-! ## The idle timer -/

theorem calls_any {c : RecordCalls} : c.any = false ↔ c = .quiet := by
  cases c
  simp [RecordCalls.any, RecordCalls.quiet, and_assoc]

theorem recordWork_iff : s.recordWork = false ↔ s.mirror.cond ≠ .notLoaded ∧ s.mirror.calls = .quiet
    ∧ ∀ p, s.mirror.promotion = some p → p.sent = true := by
  unfold State.recordWork
  rw [Bool.or_eq_false_iff, Bool.or_eq_false_iff, calls_any, beq_eq_false_iff_ne, and_assoc]
  refine and_congr_right fun _ => and_congr_right fun _ => ?_
  cases s.mirror.promotion with
  | none => simp
  | some p => simp

theorem idleRuns_iff : s.idleRuns = true ↔ s.drive.state = .ready ∧ s.drive.flight = none ∧ s.request.queue = []
    ∧ s.mirror.cond ≠ .notLoaded ∧ s.mirror.calls = .quiet
    ∧ (∀ p, s.mirror.promotion = some p → p.sent = true) ∧ s.engine.chunk = none := by
  unfold State.idleRuns
  simp only [Bool.and_eq_true, beq_iff_eq, Option.isNone_iff_eq_none, List.isEmpty_iff, Bool.not_eq_true', recordWork_iff,
    and_assoc]

theorem idle_stopIdle (s : State) : (stopIdle s).drive.idle = if s.idleRuns then s.drive.idle else none := by
  unfold stopIdle
  split <;> rfl

theorem drive_giveUpDeferral (s : State) :
    (giveUpDeferral false s).drive = { s.drive with deferral := none, offSince := s.tick } := by
  unfold giveUpDeferral
  dsimp only
  rw [if_neg Bool.false_ne_true]
  exact drive_of_offClaim (offClaim_powerRemoved _)

/-- HOT leaves the idle timer alone unless it stops the drive. -/
theorem idle_hotAction (s : State) :
    (hotAction s).drive.state = .spinDown ∨ (hotAction s).drive.idle = s.drive.idle := by
  unfold hotAction
  split
  · exact .inr (congrArg (·.idle) (drive_giveUpDeferral s))
  · split
    · exact .inl (state_enterSpinDown s)
    · split <;> exact .inr rfl

theorem drive_of_offWatch {u : State} (h : u.offWatch = s.offWatch) : u.drive = s.drive :=
  have hd : u.offWatch.drive = s.offWatch.drive := congrArg (·.drive) h
  hd

theorem offWork_worked (b s : State) : (worked b s).offWork = (hotAction (edged b s)).offWork :=
  (offWork_settlePages _).trans ((offWork_settleSlots _ _).trans ((offWork_settleLane _).trans (offWork_settleMirror _)))

theorem idle_worked (b s : State) : (worked b s).drive.state = .spinDown
    ∨ (worked b s).drive.idle = if s.idleRuns then s.drive.idle else none := by
  have hw := drive_of_offWork (offWork_worked b s)
  have hduty : (edged b s).drive = (stopIdle s).drive := drive_of_offWatch (offWatch_dutyEdge b (stopIdle s))
  have hstate : (worked b s).drive.state = (hotAction (edged b s)).drive.state := congrArg (·.state) hw
  have hidle : (worked b s).drive.idle = (hotAction (edged b s)).drive.idle := congrArg (·.idle) hw
  rw [hstate, hidle, ← idle_stopIdle, ← hduty]
  exact idle_hotAction _

theorem idle_updateIdle (s : State) :
    (updateIdle s).drive.idle = if s.idleRuns then some (s.drive.idle.getD 0) else none := by
  unfold updateIdle
  dsimp only [State.onDrive]
  split
  · cases s.drive.idle <;> rfl
  · rfl

/-- The idle timer at the end of the tests. -/
theorem idle_settle (b : State) (h : s.takesPart = true) : (settle b s).drive.idle =
    if (settle b s).idleRuns then some (if s.idleRuns then s.drive.idle.getD 0 else 0) else none := by
  have ht := offLast_settle b h
  have hruns : (settle b s).idleRuns = (budgeted b s).idleRuns := by
    have hu : ∀ u v : State, u.offLast = v.offLast → u.idleRuns = v.idleRuns := fun u v huv => by
      have hl : u.offLast.idleRuns = v.offLast.idleRuns := congrArg State.idleRuns huv
      exact hl
    have hv : ∀ v : State, (updateIdle v).idleRuns = v.idleRuns := fun _ => rfl
    rw [hu _ _ ht, hv]
  rw [drive_of_offLast ht, idle_updateIdle, hruns]
  have hx : (budgeted b s).offClaim = (reportNeed (worked b s)).offClaim := offClaim_settleBudget _
  have hdrive := drive_of_offClaim hx
  cases hr : (budgeted b s).idleRuns with
  | false => rw [if_neg Bool.false_ne_true, if_neg Bool.false_ne_true]
  | true =>
    have hready : (budgeted b s).drive.state = .ready := (idleRuns_iff.mp hr).1
    have hrep : ∀ v : State, (reportNeed v).drive.state = v.drive.state ∧ (reportNeed v).drive.idle = v.drive.idle :=
      fun _ => ⟨rfl, rfl⟩
    rw [hdrive, (hrep _).1] at hready
    rw [if_pos rfl, if_pos rfl, hdrive, (hrep _).2, (idle_worked b s).resolve_left (by rw [hready]; nofun)]
    split <;> rfl

/-! ## Power removed -/

theorem steady_finishSpinDown (s : State) : (finishSpinDown s).steady = s.switchedOff := by
  unfold finishSpinDown
  rw [steady_powerRemoved]
  simp [disarm, State.onComp, State.onDrive, State.steady, State.switchedOff, State.unpowered, State.counters,
    Comparator.reset]

theorem commandTimeout_eq {f : Flight} (hf : s.drive.flight = some f) : commandTimeout s =
    if f.spinDownSync then
      if 500 ≤ (s.tick - f.start).toNat then finishSpinDown s else s
    else if 200 ≤ (s.tick - f.start).toNat then enterFault .driveTimeout s
    else s := by
  unfold commandTimeout
  rw [hf]
  rfl

theorem spinDownSyncReply_eq {f : Flight} (hf : s.drive.flight = some f) (r : SyncEnd) : spinDownSyncReply r s =
    if f.spinDownSync ∧ (r = .timeout → 500 ≤ (s.tick - f.start).toNat) then finishSpinDown s else s := by
  unfold spinDownSyncReply
  rw [hf]
  rfl

theorem spinDownSync_iff {f : Flight} : f.spinDownSync = true ↔ f.cmd = .sync ∧ f.requester = .port := by
  simp [Flight.spinDownSync, and_comm]

theorem idleOver_iff {n : Nat} {c : Settings} (hi : s.drive.idle = some n) (hc : s.settings = some c) :
    s.idleOver = true ↔ c.idleLimit * 60 ≤ n ∧ s.idleRuns = true := by
  simp [State.idleOver, hi, hc]

/-- A station whose idle timer runs has no entry, and no call stands. -/
theorem stopEnds_idle (hi : s.idleRuns = true) : StopEnds s s.stopped ∧ s.mapAfter s.overdue = s.mirror.dirty
    ∧ s.callsAfter = s.mirror.calls ∧ s.mirror.calls.any = false := by
  obtain ⟨-, -, hq, -, hcalls, -, -⟩ := idleRuns_iff.mp hi
  have hnone : s.overdue = [] := by simp [State.overdue, hq]
  have hmap : s.mapAfter s.overdue = s.mirror.dirty := by simp [State.mapAfter, hnone]
  have hafter : s.callsAfter = s.mirror.calls := by
    unfold State.callsAfter
    rw [hmap, bne_self_eq_false, Bool.and_false, Bool.or_false]
  exact ⟨stopEnds_stopped (by simp [QueueSound, hq]), hmap, hafter, calls_any.mpr hcalls⟩

theorem overdue_eq (s : State) : s.overdue = s.request.queue.filter fun e =>
    e.state == .queued && (match e.queued with | some t => decide (6000 ≤ (s.tick - t).toNat) | none => false) := by
  refine List.filter_congr fun e _ => ?_
  unfold State.aged
  cases e.queued <;> rfl

end

/-- Settles O43. -/
theorem stopsRemovePower : Obligations.StopsRemovePower := by
  refine ⟨fun b s ht => ?idle, fun s n c hr hi hc hn hruns => ?limit, fun s hq => ?enters,
    fun s n c hr hi hc hn => ?early, fun s f hr hf hcmd hreq => ?sync, fun s f hr hf hne => ?other⟩
  case idle =>
    intro t runs
    have hrun : ∀ u : State, u.idleRuns = true ↔ runs u := fun u => idleRuns_iff
    have hi : t.drive.idle = if t.idleRuns then some (if s.idleRuns then s.drive.idle.getD 0 else 0) else none :=
      idle_settle b ht
    refine ⟨fun hs h => ?_, fun hs h => ?_, fun h => ?_⟩
    · rw [hi, if_pos ((hrun t).mpr h), if_pos ((hrun s).mpr hs)]
    · rw [hi, if_pos ((hrun t).mpr h), if_neg fun hc => hs ((hrun s).mp hc)]
    · rw [hi, if_neg fun hc => h ((hrun t).mp hc)]
  case limit =>
    obtain ⟨hstop, hmap, hafter, hany⟩ := stopEnds_idle hruns
    have hready := (idleRuns_iff.mp hruns).1
    refine does_event hr rfl (if_pos ((idleOver_iff hi hc).mpr ⟨hn, hruns⟩)) (steady_enterSpinDown_ready hready)
      ⟨fun ho => ?_, fun ho => ?_⟩
    · obtain ⟨hflight, hblock, -⟩ := sendRecordWrite_spec true s.stopped
      have hval : s.stopped.recordFor true = s.recordFor true := by
        rw [hstop.values, if_neg (by rw [ho]; nofun), hmap]
        simp [State.recordFor, ho]
      rw [enterSpinDown_record (.inl (hstop.cond.trans ho)), hflight, hblock, hval, hstop.calls, hafter, hstop.usable,
        hstop.tick]
      exact ⟨rfl, rfl⟩
    · have hsync : ¬ (s.stopped.mirror.cond = .opened ∨ s.stopped.mirror.calls.any = true) := by
        rw [hstop.cond, hstop.calls, hafter, hany]
        exact fun h => h.elim ho nofun
      rw [enterSpinDown_sync hsync, sendSpinDownSync_flight, hstop.tick]
  case enters =>
    intro u ended calls
    have hstop := stopEnds_stopped hq
    have hended : ended = s.overdue := (overdue_eq s).symm
    have hcalls : calls = s.callsAfter := by
      unfold State.callsAfter
      rw [← hended]
    obtain ⟨hent, hcopy, heng, hdirty, hout⟩ := enterSpinDown_keeps s
    have hlane : s.stopped.mirror.cond = .opened ∨ s.stopped.mirror.calls.any = true ↔
        s.mirror.cond = .opened ∨ calls.any = true := by rw [hstop.cond, hstop.calls, hcalls]
    simp only [u, hent, hcopy, heng, hdirty, hout, hended]
    refine ⟨state_enterSpinDown s, hstop.engine, hstop.dirty, hstop.entries, hstop.replicas, hstop.others, hstop.copies,
      fun h => ?_, fun h hn => ?_⟩
    · obtain ⟨hflight, -, hquiet, hblocks, hvalues⟩ := sendRecordWrite_spec true s.stopped
      have heq : enterSpinDown s = sendRecordWrite true s.stopped := enterSpinDown_record (hlane.mpr h)
      rw [heq, hflight, hquiet, hblocks, hvalues, hstop.usable, hstop.tick, hstop.calls, hcalls]
      exact ⟨rfl, rfl, rfl, hstop.values true⟩
    · have heq : enterSpinDown s = sendSpinDownSync s.stopped :=
        enterSpinDown_sync fun hc => (hlane.mp hc).elim h (by rw [hn]; nofun)
      rw [heq, sendSpinDownSync_flight, hstop.tick]
  case early =>
    refine idles_of _ hr rfl (if_neg fun h => ?_)
    exact absurd ((idleOver_iff hi hc).mp h).1 (Nat.not_le.mpr hn)
  case sync =>
    have hs : f.spinDownSync = true := spinDownSync_iff.mpr ⟨hcmd, hreq⟩
    have htime := commandTimeout_eq hf
    have hreply := fun r => spinDownSyncReply_eq hf r
    rw [if_pos hs] at htime
    refine ⟨fun h => ⟨?_, ?_⟩, fun h => ⟨?_, ?_⟩, ?_, ?_⟩
    · exact leaves_event hr rfl (htime.trans (if_pos h)) (steady_finishSpinDown s)
    · exact leaves_event hr rfl ((hreply .timeout).trans (if_pos ⟨hs, fun _ => h⟩)) (steady_finishSpinDown s)
    · exact idles_of _ hr rfl (htime.trans (if_neg (Nat.not_le.mpr h)))
    · exact idles_of _ hr rfl ((hreply .timeout).trans (if_neg fun hc => absurd (hc.2 rfl) (Nat.not_le.mpr h)))
    · exact leaves_event hr rfl ((hreply .ok).trans (if_pos ⟨hs, nofun⟩)) (steady_finishSpinDown s)
    · exact leaves_event hr rfl ((hreply .mediaError).trans (if_pos ⟨hs, nofun⟩)) (steady_finishSpinDown s)
  case other =>
    have hs : ¬ f.spinDownSync = true := fun h => by
      obtain ⟨hcmd, hreq⟩ := spinDownSync_iff.mp h
      exact hne.elim (absurd hcmd) (absurd hreq)
    have htime := commandTimeout_eq hf
    rw [if_neg hs] at htime
    exact ⟨fun h hd => leaves_event hr rfl (htime.trans (if_pos h)) (steady_enterFault _ hd),
      fun h => idles_of _ hr rfl (htime.trans (if_neg (Nat.not_le.mpr h))),
      fun r => idles_of _ hr rfl ((spinDownSyncReply_eq hf r).trans (if_neg fun h => hs h.1))⟩

/-! Conversions and HOT (R79, R84 to R87, R94). -/

section
variable {s : State}

/-! ## The drive after the tests -/

theorem drive_settle (b : State) (h : s.takesPart = true) :
    ∃ n i, (settle b s).drive = { (worked b s).drive with need := n, idle := i } := by
  have ht := drive_of_offLast (offLast_settle b h)
  have hx : (budgeted b s).offClaim = (reportNeed (worked b s)).offClaim := offClaim_settleBudget _
  have hd := drive_of_offClaim hx
  have hu : ∀ v : State, ∃ i, (updateIdle v).drive = { v.drive with idle := i } := fun _ => ⟨_, rfl⟩
  have hr : ∀ v : State, ∃ n, (reportNeed v).drive = { v.drive with need := n } := fun _ => ⟨_, rfl⟩
  obtain ⟨i, hi⟩ := hu (budgeted b s)
  obtain ⟨n, hn⟩ := hr (worked b s)
  exact ⟨n, i, by rw [ht, hi, hd, hn]⟩

theorem drive_edged (b s : State) : ∃ i, (edged b s).drive = { s.drive with idle := i } := by
  have h := drive_of_offWatch (offWatch_dutyEdge b (stopIdle s))
  have hs : ∃ i, (stopIdle s).drive = { s.drive with idle := i } := by
    unfold stopIdle
    split
    · exact ⟨s.drive.idle, rfl⟩
    · exact ⟨none, rfl⟩
  obtain ⟨i, hi⟩ := hs
  exact ⟨i, h.trans hi⟩

theorem supply_edged (b s : State) : (edged b s).supply = s.supply := by
  have h : (dutyEdge b (stopIdle s)).steady.supply = (stopIdle s).steady.supply := congrArg (·.supply) (offWatch_dutyEdge _ _)
  refine h.trans ?_
  unfold stopIdle
  split <;> rfl

/-- The drive but for its lane, at the end of the tests. -/
theorem drive_hot (b : State) (h : s.takesPart = true) :
    (settle b s).drive.state = (hotAction (edged b s)).drive.state
      ∧ (settle b s).drive.deferral = (hotAction (edged b s)).drive.deferral
      ∧ (settle b s).drive.hotStop = (hotAction (edged b s)).drive.hotStop := by
  obtain ⟨n, i, ht⟩ := drive_settle b h
  have hw : _ = { (hotAction (edged b s)).drive with flight := none, resyncWait := 0 } :=
    drive_of_offWork (offWork_worked b s)
  rw [ht]
  exact ⟨congrArg (·.state) hw, congrArg (·.deferral) hw, congrArg (·.hotStop) hw⟩

/-! ## The command in flight -/

/-- The command in flight, whoever asked for it. -/
def State.laneCmd (s : State) : Option LaneCmd := s.drive.flight.map (·.cmd)

theorem laneCmd_of_drive {u : State} (h : u.drive = s.drive) : u.laneCmd = s.laneCmd := by
  unfold State.laneCmd
  rw [h]

theorem drive_of_offEntries {u : State} (h : u.offEntries = s.offEntries) : u.drive = s.drive :=
  have hd : u.offEntries.drive = s.offEntries.drive := congrArg (·.drive) h
  hd

theorem laneCmd_foldl {α : Type} (f : State → α → State) (hf : ∀ s a, (f s a).laneCmd = s.laneCmd) :
    ∀ (l : List α) (s : State), (l.foldl f s).laneCmd = s.laneCmd
  | [], _ => rfl
  | a :: l, s => (laneCmd_foldl f hf l (f s a)).trans (hf s a)

theorem laneCmd_endEntry (k : Key) (st : Status) (s : State) : (endEntry k st s).laneCmd = s.laneCmd :=
  laneCmd_of_drive (drive_of_offEntries (offEntries_endEntry k st s))

theorem laneCmd_setBehind (s : State) : (setBehind s).laneCmd = s.laneCmd :=
  laneCmd_of_drive (drive_of_offEntries (offEntries_setBehind s))

theorem laneCmd_endReplica (k : Key) (b : Bool) (s : State) : (endReplica k b s).laneCmd = s.laneCmd :=
  laneCmd_of_drive (drive_of_offEntries (offEntries_endReplica k b s))

theorem laneCmd_endWaits (st : Status) (b : Bool) (s : State) : (endWaits st b s).laneCmd = s.laneCmd := by
  refine laneCmd_foldl _ (fun s e => (laneCmd_endEntry _ _ _).trans ?_) _ s
  split
  · split
    · exact laneCmd_of_drive (drive_of_offEntries (offEntries_markRegions _ _))
    · rfl
  · rfl

theorem laneCmd_stopResync (s : State) : (stopResync false s).laneCmd = s.laneCmd := by
  unfold stopResync
  obtain ⟨b, l, hw⟩ := withdrawEngine_frame s
  rw [hw]
  split
  · rfl
  · dsimp only
    split
    · unfold State.laneCmd
      simp only [orphanRead, State.onDrive, State.onEngine, Option.map_map]
      rfl
    · rfl

theorem laneCmd_linkLeft (a b : Link) (s : State) : (linkLeft a b s).laneCmd = s.laneCmd := by
  unfold linkLeft
  extract_lets u v w
  have hv : v.laneCmd = s.laneCmd := by
    show (if _ then _ else _ : State).laneCmd = _
    split
    · exact (laneCmd_foldl _ (fun s e => laneCmd_endReplica _ _ s) _ _).trans (laneCmd_setBehind s)
    · rfl
  have hw : w.laneCmd = s.laneCmd := by
    refine Eq.trans ?_ hv
    show (if _ then _ else _ : State).laneCmd = _
    split
    · exact laneCmd_endWaits _ _ _
    · rfl
  split
  · exact (laneCmd_stopResync w).trans hw
  · exact hw

theorem laneCmd_judgeLink (s : State) : (judgeLink s).laneCmd = s.laneCmd := by
  unfold judgeLink
  dsimp only
  split
  · rfl
  · exact laneCmd_linkLeft _ _ _

theorem laneCmd_dropPromotion (s : State) : (dropPromotion s).laneCmd = s.laneCmd := by
  unfold dropPromotion
  split
  · split
    · dsimp only
      split
      · exact laneCmd_endEntry _ _ _
      · rfl
    · rfl
  · rfl

theorem laneCmd_settleMirror (s : State) : (settleMirror s).laneCmd = s.laneCmd := by
  have hr : ∀ v : State, (resyncWakeTest v).laneCmd = v.laneCmd := fun v => by
    unfold resyncWakeTest
    split
    · split <;> rfl
    · rfl
  have hs : ∀ v : State, (startResync v).laneCmd = v.laneCmd := fun v => by
    unfold startResync
    split
    · split <;> rfl
    · rfl
  exact (hr _).trans ((hs _).trans ((laneCmd_dropPromotion _).trans (laneCmd_judgeLink s)))

theorem laneCmd_handSpecials (s : State) : (handSpecials s).laneCmd = s.laneCmd := by
  refine laneCmd_foldl _ (fun s k => ?_) _ s
  split
  · split
    · split
      · unfold checkResyncBegin
        split
        · exact (laneCmd_endEntry _ _ _).trans (laneCmd_setBehind s)
        · exact laneCmd_endEntry _ _ _
      · unfold checkPromote
        split <;> split
        · rfl
        · exact laneCmd_endEntry _ _ _
        · rfl
        · exact laneCmd_endEntry _ _ _
      all_goals rfl
    · rfl
  · rfl

theorem laneCmd_takePages (s : State) : (takePages s).laneCmd = s.laneCmd := by
  unfold takePages
  split
  · split
    · dsimp only
      split <;> rfl
    · rfl
  · rfl

theorem laneCmd_settlePages (h : s.laneCmd ≠ none) : (settlePages s).laneCmd = s.laneCmd := by
  have ht := laneCmd_takePages s
  have hf : (takePages s).drive.flight ≠ none := fun hn => h (ht ▸ (by unfold State.laneCmd; rw [hn]; rfl))
  have hc : settlePages s = takePages s := if_neg fun hc => hf hc.2
  rw [hc]
  exact ht

theorem laneCmd_settleLane (h : s.laneCmd ≠ none) : (settleLane s).laneCmd = s.laneCmd :=
  (laneCmd_settlePages (by rw [laneCmd_handSpecials]; exact h)).trans (laneCmd_handSpecials s)

theorem laneCmd_settleSlots (b s : State) : (settleSlots b s).laneCmd = s.laneCmd := by
  have hr : ∀ v : State, (placeRequest v).laneCmd = v.laneCmd := fun v => by
    unfold placeRequest
    split
    · dsimp only
      split <;> rfl
    · rfl
  have hm : ∀ v : State, (placeMirror v).laneCmd = v.laneCmd := fun v => by
    unfold placeMirror
    split
    · dsimp only
      split <;> rfl
    · rfl
  have hs : ∀ v : State, (placeResync v).laneCmd = v.laneCmd := fun v => by
    unfold placeResync
    split
    · split
      · dsimp only
        split <;> rfl
      · rfl
    · rfl
  exact (hs _).trans ((hm _).trans (hr _))

/-- A command in flight stays the one in flight through the tests after HOT's. -/
theorem laneCmd_worked (b : State) (h : (hotAction (edged b s)).laneCmd ≠ none) :
    (worked b s).laneCmd = (hotAction (edged b s)).laneCmd := by
  have h₁ := laneCmd_settleMirror (hotAction (edged b s))
  have h₂ := laneCmd_settleLane (s := settleMirror (hotAction (edged b s))) (by rw [h₁]; exact h)
  have h₃ := laneCmd_settleSlots b (settleLane (settleMirror (hotAction (edged b s))))
  exact (laneCmd_settlePages (by rw [h₃, h₂, h₁]; exact h)).trans (h₃.trans (h₂.trans h₁))

/-! ## HOT -/

theorem hotAction_off (hh : s.supply.hot = true) (hd : s.drive.state = .off) :
    (hotAction s).drive.state = .off ∧ (hotAction s).drive.deferral = none := by
  have hready : s.drive.state ≠ .ready := by rw [hd]; nofun
  unfold hotAction
  by_cases hn : s.drive.deferral = none
  · rw [if_neg (fun h => h.2.2 hn), if_neg (fun h => hready h.2.1), if_neg (fun h => hready h.2)]
    exact ⟨hd, hn⟩
  · rw [if_pos ⟨hh, hd, hn⟩]
    have hg := drive_giveUpDeferral s
    exact ⟨(congrArg (·.state) hg).trans hd, congrArg (·.deferral) hg⟩

theorem hotAction_stops (hh : s.supply.hot = true ∨ s.drive.hotStop = true) (hd : s.drive.state = .ready)
    (hf : s.drive.flight = none) : (hotAction s).drive.state = .spinDown := by
  have hoff : s.drive.state ≠ .off := by rw [hd]; nofun
  unfold hotAction
  rw [if_neg (fun h => hoff h.2.1), if_pos ⟨hh, hd, hf⟩]
  exact state_enterSpinDown s

theorem hotAction_waits (hh : s.supply.hot = true) (hd : s.drive.state = .ready) (hf : s.drive.flight ≠ none) :
    hotAction s = s.onDrive fun d => { d with hotStop := true } := by
  have hoff : s.drive.state ≠ .off := by rw [hd]; nofun
  unfold hotAction
  rw [if_neg (fun h => hoff h.2.1), if_neg (fun h => hf h.2.2), if_pos ⟨hh, hd⟩]

theorem hotAction_other (h : s.drive.state = .spinUp ∨ s.drive.state = .spinDown ∨ s.drive.state = .fault) :
    hotAction s = s := by
  have hoff : s.drive.state ≠ .off := fun hd => by rw [hd] at h; rcases h with h | h | h <;> cases h
  have hready : s.drive.state ≠ .ready := fun hd => by rw [hd] at h; rcases h with h | h | h <;> cases h
  unfold hotAction
  rw [if_neg (fun h => hoff h.2.1), if_neg (fun h => hready h.2.1), if_neg (fun h => hready h.2)]

/-! ## Conversions -/

theorem converted_eq (r : BitVec 10) (s : State) : converted r s =
    { s with supply := (s.supply.convert r.toNat).testHot s.settings s.supply.channel r.toNat } := rfl

theorem converted_again {r : BitVec 10} (hc : s.supply.channel.val < 2) (hg : s.supply.gain = .x4)
    (hv : 1020 ≤ r.toNat) : converted r s = { s with supply := { s.supply with gain := .x1 } } := by
  have hagain : convertAgain s.supply.channel s.supply.gain r.toNat = true := by
    simp [convertAgain, rangedChannel, hc, hg, hv]
  have htemp : s.supply.channel ≠ temperatureChannel := fun h => by
    rw [h] at hc
    exact absurd hc (by decide)
  rw [converted_eq, Sampler.convert, if_pos hagain]
  unfold Sampler.testHot
  cases s.settings with
  | none => rfl
  | some c => simp only [if_neg htemp]

/-- The sampler after a conversion that ends its channel's visit. -/
def Sampler.visited (r : Nat) (hot : Bool) (x : Sampler) : Sampler :=
  { x with
    channel := x.channel + 1, gain := .x4, hot := hot
    records := x.records.set x.channel
      { value := r, gain := x.gain
        overFlag := if x.channel.val < 2 ∧ x.gain = .x4 then false else decide (r = 1023)
        sequence := x.records[x.channel].sequence + 1, valid := true } }

theorem convert_visited {x : Sampler} {r : Nat} (h : ¬ (x.channel.val < 2 ∧ x.gain = .x4 ∧ 1020 ≤ r)) :
    x.convert r = x.visited r x.hot := by
  have hagain : ¬ convertAgain x.channel x.gain r = true := fun hc => h <| by
    simpa [convertAgain, rangedChannel, and_assoc] using hc
  have hover : overOf x.channel x.gain r = if x.channel.val < 2 ∧ x.gain = .x4 then false else decide (r = 1023) := by
    simp only [overOf, rangedChannel, decide_eq_true_eq]
    rfl
  rw [Sampler.convert, if_neg hagain, Sampler.visited, SampleRecord.write, hover]

/-- HOT after a conversion. -/
def State.hotNow (r : Nat) (s : State) : Bool :=
  match s.settings with
  | some c => if s.supply.channel = 2 then hotAfter c.tempLimit r s.supply.hot else s.supply.hot
  | none => s.supply.hot

theorem converted_visited {r : BitVec 10} (h : ¬ (s.supply.channel.val < 2 ∧ s.supply.gain = .x4 ∧ 1020 ≤ r.toNat)) :
    converted r s = { s with supply := s.supply.visited r.toNat (s.hotNow r.toNat) } := by
  rw [converted_eq, convert_visited h]
  unfold Sampler.testHot State.hotNow
  cases s.settings with
  | none => rfl
  | some c =>
    by_cases ht : s.supply.channel = 2
    · simp only [if_pos ht, if_pos (show s.supply.channel = temperatureChannel from ht)]
      rfl
    · simp only [if_neg ht, if_neg (show s.supply.channel ≠ temperatureChannel from ht)]

end

/-- Settles O47. -/
theorem conversionsFillTheRecords : Obligations.ConversionsFillTheRecords := by
  refine ⟨fun b s ht => ?hot, fun s r hr => ?conversion⟩
  case hot =>
    intro t
    obtain ⟨i, hi⟩ := drive_edged b s
    have hsup := supply_edged b s
    obtain ⟨hstate, hdef, hstop⟩ := drive_hot b ht
    have hst : (edged b s).drive.state = s.drive.state := congrArg (·.state) hi
    have hfl : (edged b s).drive.flight = s.drive.flight := congrArg (·.flight) hi
    have hhs : (edged b s).drive.hotStop = s.drive.hotStop := congrArg (·.hotStop) hi
    refine ⟨fun hh hd => ?_, fun hh hd hf => ?_, fun hh hd hf => ?_, fun hh hd => ?_⟩
    · obtain ⟨h₁, h₂⟩ := hotAction_off (s := edged b s) (by rw [hsup]; exact hh) (hst.trans hd)
      exact ⟨hstate.trans h₁, hdef.trans h₂⟩
    · exact hstate.trans (hotAction_stops (by rw [hsup, hhs]; exact hh) (hst.trans hd) (hfl.trans hf))
    · have hw := hotAction_waits (s := edged b s) (by rw [hsup]; exact hh) (hst.trans hd) (by rw [hfl]; exact hf)
      obtain ⟨n, j, hdrive⟩ := drive_settle b ht
      have hlane : (hotAction (edged b s)).laneCmd = s.laneCmd := by
        rw [hw]
        exact congrArg (Option.map (·.cmd)) hfl
      have hsome : s.laneCmd ≠ none := fun hn => hf (by simpa [State.laneCmd] using hn)
      have hwork := laneCmd_worked b (by rw [hlane]; exact hsome)
      refine ⟨hstate.trans ?_, hstop.trans ?_, ?_⟩
      · rw [hw]
        exact hst.trans hd
      · rw [hw]
        rfl
      · show t.laneCmd = s.laneCmd
        rw [← hlane, ← hwork]
        exact congrArg (fun d : DrivePort => d.flight.map (·.cmd)) hdrive
    · rw [hstate, hotAction_other (by rw [hst]; exact hd), hst]
  case conversion =>
    intro v ch hot drive
    refine ⟨fun hc hg hv => ?_, fun h => ?_⟩
    · exact leaves_event hr rfl (converted_again hc hg hv) rfl
    · have hhot : hot = s.hotNow r.toNat := by
        show (match s.settings with | some c => _ | none => _) = _
        unfold State.hotNow
        cases s.settings <;> rfl
      refine leaves_event hr rfl (converted_visited h) ?_
      rw [← hhot]
      have hdrive : drive hot = if hot = true ∨ s.drive.hotStop = true then none
          else some (s.drive.state, s.drive.deferral, s.drive.offSince) := by
        simp only [drive, Bool.or_eq_true]
      rw [hdrive]
      rfl

/-! Watch duty gained and lost (R165 to R167). -/

section
variable {s u v : State} {p : OutMsg → Bool} {m : OutMsg}

/-! ## The watch unit through the tests -/

theorem watch_of_offWork (h : u.offWork = s.offWork) : u.watch = s.watch ∧ u.slot .watch = s.slot .watch :=
  have hw : u.offWork.watch = s.offWork.watch := congrArg (·.watch) h
  have hs : u.offWork.slot .watch = s.offWork.slot .watch := congrArg (State.slot .watch) h
  ⟨hw, hs⟩

theorem watch_of_offClaim (h : u.offClaim = s.offClaim) : u.watch = s.watch ∧ u.slot .watch = s.slot .watch :=
  have hw : u.offClaim.watch = s.offClaim.watch := congrArg (·.watch) h
  have hs : u.offClaim.slot .watch = s.offClaim.slot .watch := congrArg (State.slot .watch) h
  ⟨hw, hs⟩

theorem watch_of_offAnnounce (h : u.offAnnounce = s.offAnnounce) : u.watch = s.watch ∧ u.slot .watch = s.slot .watch :=
  have hw : u.offAnnounce.watch = s.offAnnounce.watch := congrArg (·.watch) h
  have hs : u.offAnnounce.slot .watch = s.offAnnounce.slot .watch := congrArg (State.slot .watch) h
  ⟨hw, hs⟩

theorem watch_hotAction (s : State) :
    (hotAction s).watch = s.watch ∧ (hotAction s).slot .watch = s.slot .watch := by
  unfold hotAction
  split
  · have h := watch_of_offClaim (offClaim_powerRemoved (s.onDrive fun d => { d with deferral := none, offSince := s.tick }))
    unfold giveUpDeferral
    dsimp only
    rw [if_neg Bool.false_ne_true]
    exact h
  · split
    · exact watch_of_offWork (s := s.stopping) (offWork_enterSpinDown s)
    · split <;> exact ⟨rfl, rfl⟩

/-- The watch unit's own tests begin with what the edge of duty has left. -/
theorem watch_budgeted (b s : State) :
    (updateIdle (budgeted b s)).watch = (edged b s).watch
      ∧ (updateIdle (budgeted b s)).slot .watch = (edged b s).slot .watch := by
  have hu : ∀ v : State, (updateIdle v).watch = v.watch ∧ (updateIdle v).slot .watch = v.slot .watch := fun _ => ⟨rfl, rfl⟩
  have hr : ∀ v : State, (reportNeed v).watch = v.watch ∧ (reportNeed v).slot .watch = v.slot .watch := fun _ => ⟨rfl, rfl⟩
  have hx : (budgeted b s).offClaim = (reportNeed (worked b s)).offClaim := offClaim_settleBudget _
  obtain ⟨h₁, g₁⟩ := hu (budgeted b s)
  obtain ⟨h₂, g₂⟩ := watch_of_offClaim hx
  obtain ⟨h₃, g₃⟩ := hr (worked b s)
  obtain ⟨h₄, g₄⟩ := watch_of_offWork (offWork_worked b s)
  obtain ⟨h₅, g₅⟩ := watch_hotAction (edged b s)
  exact ⟨by rw [h₁, h₂, h₃, h₄, h₅], by rw [g₁, g₂, g₃, g₄, g₅]⟩

theorem watch_of_offOut (h : u.offOut = s.offOut) : { u.watch with out := [] } = { s.watch with out := [] } :=
  congrArg (·.watch) h

/-- The tests after an event leave the watch unit, but for its outgoing list, as the edge of duty has left it. -/
theorem watch_settle (b : State) (h : s.takesPart = true) :
    { (settle b s).watch with out := [] } = { (edged b s).watch with out := [] } := by
  have ha := (watch_of_offAnnounce (offAnnounce_announceChange b (settleWatch b.watch.out (updateIdle (budgeted b s))))).1
  have hw := watch_of_offOut (offOut_settleWatch b.watch.out (updateIdle (budgeted b s)))
  rw [settle_eq b h, ha, hw, (watch_budgeted b s).1]

/-! ## A message that the tests keep -/

/-- A message waits in the watch unit's list or in the WATCH slot. -/
def State.Waits (m : OutMsg) (s : State) : Prop := m ∈ s.watch.out ∨ s.slot .watch = some m

theorem waits_of_slot (hp : p m = false) (h : s.slot .watch = some m) : s.slotHolds .watch p = false := by
  simp [State.slotHolds, h, hp]

theorem waits_withdraw (hp : p m = false) (h : s.Waits m) : ((withdraw .watch p s).2).Waits m := by
  have hw := (withdraw_spec .watch p s).1
  rcases h with h | h
  · refine .inl ?_
    rw [hw.frame]
    exact h
  · refine .inr ?_
    rw [hw.slot, if_neg fun hc => by rw [waits_of_slot hp h] at hc; cases hc.1]
    exact h

theorem waits_watchRetract (hp : p m = false) (h : s.Waits m) : ((watchRetract p s).2).Waits m := by
  unfold watchRetract
  split
  · exact h.imp (fun h => List.mem_filter.mpr ⟨h, by simp [hp]⟩) id
  · exact waits_withdraw hp h

theorem waits_watchReady (m' : OutMsg) (h : s.Waits m) : (watchReady m' s).Waits m :=
  h.imp (fun h => List.mem_append_left _ h) id

theorem waits_makeWakes (h : s.Waits m) : (makeWakes s).Waits m := by
  have hfold : ∀ (l : List Station) (v : State), v.Waits m →
      (l.foldl (fun s n => if s.wakeTest n then watchReady (.wake (1#16 <<< n.val) .proxy) s else s) v).Waits m := by
    intro l
    induction l with
    | nil => exact fun _ h => h
    | cons n l ih =>
      intro v hv
      refine ih _ ?_
      dsimp only
      split
      · exact waits_watchReady _ hv
      · exact hv
  exact hfold _ s h

theorem waits_placeWatch (h : s.Waits m) : (placeWatch s).Waits m := by
  unfold placeWatch
  split
  · rename_i x rest hs hout
    rcases h with h | h
    · rw [hout] at h
      rcases List.mem_cons.mp h with rfl | h
      · exact .inr (get_set _ .watch (some m))
      · exact .inl h
    · rw [hs] at h
      cases h
  · exact h

theorem waits_followTakeTest (hm : isWatchTake m = false) (h : s.Waits m) : (followTakeTest s).Waits m := by
  unfold followTakeTest
  split
  · split
    · exact h
    · exact waits_watchReady _ h
  · split
    · exact waits_watchRetract hm h
    · exact h

theorem waits_followPass (hm : isWatchPass m = false) (h : s.Waits m) : (followPass s).Waits m := by
  have hl : passLapsed s m = false := by cases m <;> first | rfl | cases hm
  unfold followPass
  split
  · exact waits_watchRetract hl h
  · exact h

theorem sleepConditions_free {free : Bool} (h : s.sleepConditions free = true) : free = true ∧ s.watch.out = [] := by
  unfold State.sleepConditions at h
  cases hc : s.settings with
  | none => simp [hc] at h
  | some c =>
    obtain ⟨hf, hr⟩ := (sleepConditions_iff hc).mp (by unfold State.sleepConditions; exact h)
    exact ⟨hf, hr.watchOut⟩

theorem waits_followSleep (hm : isAsleep m = false) (h : s.Waits m) : (followSleep s).Waits m := by
  unfold followSleep
  split
  · split
    · exact h
    · exact waits_withdraw hm h
  · split
    · rename_i hc
      obtain ⟨hs, ho⟩ := sleepConditions_free hc
      rcases h with h | h
      · rw [ho] at h
        cases h
      · rw [h] at hs
        cases hs
    · exact h

theorem slot_orderWatch (l : List OutMsg) (i : SlotId) (s : State) : (orderWatch l s).slot i = s.slot i := rfl

theorem waits_orderWatch (l : List OutMsg) (h : s.Waits m) : (orderWatch l s).Waits m := by
  unfold State.Waits
  rw [mem_orderWatch, slot_orderWatch]
  exact h

/-- A message that no test takes back waits until it is sent. -/
theorem waits_settleWatch (l : List OutMsg) (h₁ : isWatchPass m = false) (h₂ : isWatchTake m = false)
    (h₃ : isAsleep m = false) (h : s.Waits m) : (settleWatch l s).Waits m := by
  unfold settleWatch
  exact waits_placeWatch (waits_followSleep h₃ (waits_placeWatch (waits_orderWatch l
    (waits_makeWakes (waits_followTakeTest h₂ (waits_followPass h₁ h))))))

theorem waits_of_watch (hw : u.watch = s.watch ∧ u.slot .watch = s.slot .watch) (h : s.Waits m) : u.Waits m := by
  unfold State.Waits
  rw [hw.1, hw.2]
  exact h

theorem waits_settle (b : State) (ht : s.takesPart = true) (h₁ : isWatchPass m = false) (h₂ : isWatchTake m = false)
    (h₃ : isAsleep m = false) (h : (edged b s).Waits m) : (settle b s).Waits m := by
  rw [settle_eq b ht]
  exact waits_of_watch (watch_of_offAnnounce (offAnnounce_announceChange b _))
    (waits_settleWatch _ h₁ h₂ h₃ (waits_of_watch (watch_budgeted b s) h))

/-! ## No work of a holder waits (R165) -/

/-- No message of a holder of duty waits, but for one on the line. -/
def State.Relieved (s : State) : Prop :=
  (∀ m ∈ s.watch.out, isDutyWork m = false) ∧ (s.slotHolds .watch isDutyWork = true → s.onLine .watch = true)

theorem onLine_of_steady (h : u.steady = s.steady) (i : SlotId) : u.onLine i = s.onLine i := by
  have hl : u.bus.sending.map (fun t => (t.slot, t.msg, t.frame, t.won)) =
    s.bus.sending.map fun t => (t.slot, t.msg, t.frame, t.won) := congrArg Steady.line h
  unfold State.onLine
  cases hs : s.bus.sending <;> cases hu : u.bus.sending <;> simp_all

/-- The slot holds what it held, or nothing, and nothing has been made ready. -/
theorem relieved_less (h : s.Relieved) (hst : u.steady = s.steady) (ho : ∀ m ∈ u.watch.out, m ∈ s.watch.out)
    (hs : u.slot .watch = s.slot .watch ∨ u.slot .watch = none) : u.Relieved := by
  refine ⟨fun m hm => h.1 m (ho m hm), fun hh => ?_⟩
  rw [onLine_of_steady hst]
  refine h.2 ?_
  rcases hs with hs | hs
  · rwa [slotHolds_of_slot hs] at hh
  · simp [State.slotHolds, hs] at hh

theorem slot_withdraw (p : OutMsg → Bool) (s : State) :
    (withdraw .watch p s).2.slot .watch = s.slot .watch ∨ (withdraw .watch p s).2.slot .watch = none := by
  rw [(withdraw_spec .watch p s).1.slot]
  split
  · exact .inr rfl
  · exact .inl rfl

theorem relieved_withdraw (p : OutMsg → Bool) (h : s.Relieved) : ((withdraw .watch p s).2).Relieved := by
  refine relieved_less h (steady_withdraw s .watch p) (fun m hm => ?_) (slot_withdraw p s)
  rw [(withdraw_spec .watch p s).1.frame] at hm
  exact hm

theorem relieved_watchRetract (p : OutMsg → Bool) (h : s.Relieved) : ((watchRetract p s).2).Relieved := by
  unfold watchRetract
  split
  · exact ⟨fun m hm => h.1 m (List.mem_filter.mp hm).1, h.2⟩
  · exact relieved_withdraw p h

theorem relieved_followPass (h : s.Relieved) : (followPass s).Relieved := by
  unfold followPass
  split
  · exact relieved_watchRetract _ h
  · exact h

theorem relieved_followTakeTest (h : s.Relieved) : (followTakeTest s).Relieved := by
  unfold followTakeTest
  split
  · split
    · exact h
    · refine ⟨fun m hm => ?_, h.2⟩
      rcases List.mem_append.mp hm with hm | hm
      · exact h.1 m hm
      · rw [List.mem_singleton.mp hm]
        rfl
  · split
    · exact relieved_watchRetract _ h
    · exact h

/-- A station without duty makes no wakes. -/
theorem makeWakes_relieved (h : s.duty = false) : makeWakes s = s := by
  have hfold : ∀ l : List Station,
      l.foldl (fun s n => if s.wakeTest n then watchReady (.wake (1#16 <<< n.val) .proxy) s else s) s = s := by
    intro l
    induction l with
    | nil => rfl
    | cons n l ih =>
      have hn : ¬ s.wakeTest n = true := by simp [State.wakeTest, State.answersFor, h]
      rw [List.foldl_cons, if_neg hn]
      exact ih
  exact hfold _

theorem relieved_orderWatch (l : List OutMsg) (h : s.Relieved) : (orderWatch l s).Relieved :=
  ⟨fun m hm => h.1 m ((mem_orderWatch _ _ _).mp hm), h.2⟩

theorem relieved_placeWatch (h : s.Relieved) : (placeWatch s).Relieved := by
  unfold placeWatch
  split
  · rename_i x rest hs hout
    refine ⟨fun m hm => h.1 m (by rw [hout]; exact List.mem_cons_of_mem _ hm), fun hh => ?_⟩
    have hslot : ((s.onWatch fun w => { w with out := rest }).putSlot .watch (some x)).slot .watch = some x :=
      get_set _ .watch (some x)
    rw [State.slotHolds, hslot] at hh
    have hx : isDutyWork x = false := h.1 x (by rw [hout]; exact List.mem_cons_self)
    rw [show isDutyWork x = true from hh] at hx
    cases hx
  · exact h

theorem relieved_followSleep (h : s.Relieved) : (followSleep s).Relieved := by
  unfold followSleep
  split
  · split
    · exact h
    · exact relieved_withdraw _ h
  · split
    · refine ⟨h.1, fun hh => ?_⟩
      have hslot : (s.putSlot .watch (some .asleep)).slot .watch = some .asleep := get_set _ .watch (some .asleep)
      rw [State.slotHolds, hslot] at hh
      cases hh
    · exact h

theorem duty_of_steadies (h : u.steady = s.steady) : u.duty = s.duty :=
  duty_of_steady (congrArg Steady.power h) (congrArg Steady.shelf h) (congrArg Steady.station h)

theorem relieved_settleWatch (l : List OutMsg) (hd : s.duty = false) (h : s.Relieved) : (settleWatch l s).Relieved := by
  have hst : (followTakeTest (followPass s)).steady = s.steady :=
    (steady_followTakeTest (followPass s)).trans (steady_followPass s)
  unfold settleWatch
  rw [makeWakes_relieved ((duty_of_steadies hst).trans hd)]
  exact relieved_placeWatch (relieved_followSleep (relieved_placeWatch (relieved_orderWatch l
    (relieved_followTakeTest (relieved_followPass h)))))

theorem relieved_of_watch (hw : u.watch = s.watch ∧ u.slot .watch = s.slot .watch) (hst : u.steady = s.steady) (h : s.Relieved) :
    u.Relieved :=
  relieved_less h hst (fun m hm => by rw [hw.1] at hm; exact hm) (.inl hw.2)

/-! ## Duty lost (R165, R173) -/

/-- The DONE on behalf of a target that does not wake in time. -/
def ProxyEntry.given (e : ProxyEntry) : OutMsg := .done e.key.origin e.key.tag .notAwake false none (some e.target)

theorem endProxies_foldl : ∀ (l : List ProxyEntry) (s : State),
    (l.foldl (fun s e => endProxy .notAwake e s) s).watch.out = s.watch.out ++ l.map ProxyEntry.given
      ∧ (l.foldl (fun s e => endProxy .notAwake e s) s).watch.proxy =
        s.watch.proxy.filter fun g => l.all fun e => !(g.target == e.target && g.key == e.key)
  | [], s => by simp
  | e :: l, s => by
    obtain ⟨ho, hp⟩ := endProxies_foldl l (endProxy .notAwake e s)
    have hout : (endProxy .notAwake e s).watch.out = s.watch.out ++ [e.given] := rfl
    have hproxy : (endProxy .notAwake e s).watch.proxy =
      s.watch.proxy.filter fun g => !(g.target == e.target && g.key == e.key) := rfl
    rw [List.foldl_cons, ho, hp, hout, hproxy, List.filter_filter]
    refine ⟨by simp, List.filter_congr fun g _ => ?_⟩
    rw [List.all_cons, Bool.and_comm]

/-- R173: the proxy entries of some stations end, and their DONEs are made ready. -/
theorem endProxies_spec (p : Station → Bool) (s : State) :
    (endProxies p s).watch.out = s.watch.out ++ (s.watch.proxy.filter fun e => p e.target).map ProxyEntry.given
      ∧ (endProxies p s).watch.proxy = s.watch.proxy.filter fun e => !p e.target := by
  obtain ⟨ho, hp⟩ := endProxies_foldl (s.watch.proxy.filter fun e => p e.target) s
  refine ⟨ho, hp.trans (List.filter_congr fun g hg => ?_)⟩
  cases hpg : p g.target with
  | true =>
    refine List.all_eq_false.mpr ⟨g, List.mem_filter.mpr ⟨hg, hpg⟩, ?_⟩
    simp
  | false =>
    refine List.all_eq_true.mpr fun e he => ?_
    have hne : g.target ≠ e.target := fun h => by
      have hpe := (List.mem_filter.mp he).2
      rw [← h, hpg] at hpe
      cases hpe
    simp [hne]

theorem relieved_relieved (s : State) : s.relieved.Relieved := by
  have hr := (watchRetract_spec isDutyWork (endProxies (fun _ => true) s)).2.1
  have hw := (withdraw_spec .watch isDutyWork (watchRetract isDutyWork (endProxies (fun _ => true) s)).2).1
  have hst := steady_withdraw (watchRetract isDutyWork (endProxies (fun _ => true) s)).2 .watch isDutyWork
  unfold State.relieved
  generalize (watchRetract isDutyWork (endProxies (fun _ => true) s)).2 = v at *
  refine ⟨fun m hm => ?_, fun hh => ?_⟩
  · rw [hw.frame] at hm
    have hm' : m ∈ v.watch.out := hm
    rw [hr] at hm'
    simpa using (List.mem_filter.mp hm').2
  · rw [onLine_of_steady hst]
    have hslot := hw.slot
    by_cases hc : v.slotHolds .watch isDutyWork ∧ v.onLine .watch = false
    · rw [if_pos hc] at hslot
      rw [State.slotHolds, hslot] at hh
      cases hh
    · rw [if_neg hc] at hslot
      rw [slotHolds_of_slot hslot] at hh
      exact Bool.eq_true_of_not_eq_false fun hl => hc ⟨hh, hl⟩

theorem waits_relieved {e : ProxyEntry} (he : e ∈ s.watch.proxy) : s.relieved.Waits e.given := by
  refine waits_withdraw rfl (waits_watchRetract rfl (.inl ?_))
  rw [(endProxies_spec _ s).1]
  exact List.mem_append_right _ (List.mem_map.mpr ⟨e, List.mem_filter.mpr ⟨he, rfl⟩, rfl⟩)

theorem proxy_relieved (s : State) : s.relieved.watch.proxy = [] := by
  have h₁ := watch_of_offOut (offOut_withdraw isDutyWork (watchRetract isDutyWork (endProxies (fun _ => true) s)).2)
  have h₂ := watch_of_offOut (offOut_watchRetract isDutyWork (endProxies (fun _ => true) s))
  have hp := (endProxies_spec (fun _ => true) s).2
  refine (congrArg (·.proxy) h₁).trans ((congrArg (·.proxy) h₂).trans (hp.trans ?_))
  exact List.filter_eq_nil_iff.mpr fun _ _ => by simp

theorem watch_stopIdle (s : State) : (stopIdle s).watch = s.watch := by
  unfold stopIdle
  split <;> rfl

end

/-! Watch duty moved by a message (R50, R165 to R167). -/

section
variable {s u : State} {o n : Station} {a : AnswerSlot} {c : Instr}

/-- State `u` is what an event of a LISTENING station `s` leaves when it moves the watch station number to `w`. -/
structure Moves (w : Option Station) (s u : State) : Prop where
  reset : u.resetAsserted = false
  power : u.power = .listening
  station : u.station = s.station
  seconds : u.seconds = s.seconds
  number : u.shelf.watch = w
  proxy : u.watch.proxy = s.watch.proxy
  term : u.watch.term = s.watch.term

theorem Moves.takesPart {w : Option Station} (h : Moves w s u) : u.takesPart = true := by
  simp [State.takesPart, h.reset, h.power]

theorem Moves.duty {w : Option Station} (h : Moves w s u) : u.duty = (w == some s.station) := by
  simp [State.duty, h.power, h.number, h.station]

theorem duty_stopIdle (u : State) : (stopIdle u).duty = u.duty := duty_of_steadies (steady_stopIdle u)

theorem edged_loses (hs : s.duty = true) (hu : u.duty = false) : edged s u = loseDuty (stopIdle u) := by
  unfold edged dutyEdge
  rw [duty_stopIdle, hs, hu]
  rfl

theorem edged_gains (hs : s.duty = false) (hu : u.duty = true) : edged s u = gainDuty (stopIdle u) := by
  unfold edged dutyEdge
  rw [duty_stopIdle, hs, hu]
  rfl

theorem edged_keeps (h : s.duty = u.duty) : edged s u = stopIdle u := by
  unfold edged dutyEdge
  rw [duty_stopIdle, h]
  cases u.duty <;> rfl

theorem term_settle (b : State) (h : u.takesPart = true) : (settle b u).watch.term = (edged b u).watch.term :=
  congrArg (·.term) (watch_settle b h)

theorem gains_settle (hs : s.duty = false) (h : Moves (some s.station) s u) :
    (settle s u).duty = true ∧ (settle s u).watch.term = some s.seconds := by
  have hd : u.duty = true := h.duty.trans (by simp)
  have hsec : (stopIdle u).seconds = s.seconds := (congrArg Steady.seconds (steady_stopIdle u)).trans h.seconds
  refine ⟨(duty_of_steadies (steady_settle u s)).trans hd, ?_⟩
  rw [term_settle s h.takesPart, edged_gains hs hd, ← hsec]
  rfl

theorem dutyKept_settle (hs : s.duty = true) (h : Moves (some s.station) s u) :
    (settle s u).duty = true ∧ (settle s u).watch.term = s.watch.term := by
  have hd : u.duty = true := h.duty.trans (by simp)
  refine ⟨(duty_of_steadies (steady_settle u s)).trans hd, ?_⟩
  rw [term_settle s h.takesPart, edged_keeps (hs.trans hd.symm), watch_stopIdle, h.term]

theorem steady_edged (b s : State) : (edged b s).steady = s.steady := by simp [edged]

theorem steady_budgeted (b s : State) : (updateIdle (budgeted b s)).steady = s.steady := by
  simp [budgeted, worked, edged, settlePages, settleSlots, settleLane, settleMirror]

theorem watchParts_eq {v w : WatchUnit} (h : { v with out := [] } = { w with out := [] }) :
    v.term = w.term ∧ v.passCheck = w.passCheck ∧ v.marks = w.marks ∧ v.proxy = w.proxy :=
  ⟨(WatchUnit.mk.inj h).2.2.2.1, (WatchUnit.mk.inj h).2.2.2.2.1, (WatchUnit.mk.inj h).2.2.2.2.2.1,
    (WatchUnit.mk.inj h).2.2.2.2.2.2.1⟩

/-- A lost duty's timers and marks. -/
def WatchUnit.unmarked (w : WatchUnit) : WatchUnit :=
  { w with term := none, passCheck := none, marks := Vector.replicate 16 .clear }

theorem waits_unmarked {m : OutMsg} (h : s.Waits m) : (s.onWatch WatchUnit.unmarked).Waits m := h

theorem relieved_unmarked (h : s.Relieved) : (s.onWatch WatchUnit.unmarked).Relieved := h

theorem loseDuty_unmarked (s : State) : loseDuty s = s.relieved.onWatch WatchUnit.unmarked := loseDuty_eq s

theorem watch_loseDuty (s : State) : (loseDuty s).watch = s.relieved.watch.unmarked := by rw [loseDuty_unmarked]; rfl

/-- What the loss of duty shows at the end of the tests. -/
structure Loses (s t : State) : Prop where
  duty : t.duty = false
  term : t.watch.term = none
  passCheck : t.watch.passCheck = none
  proxy : t.watch.proxy = []
  marks : ∀ n : Station, t.watch.marks[n] = { waking := none, wakeWanted := false, lastWake := none, absenceHold := none }
  given : ∀ e ∈ s.watch.proxy, t.Waits e.given
  relieved : t.Relieved

theorem loses_settle {w : Option Station} (hs : s.duty = true) (h : Moves w s u) (hw : w ≠ some s.station) :
    Loses s (settle s u) := by
  have hd : u.duty = false := h.duty.trans (by simpa using hw)
  have hedge := edged_loses hs hd
  obtain ⟨hterm, hpass, hmarks, hproxy⟩ := watchParts_eq (watch_settle s h.takesPart)
  rw [hedge, watch_loseDuty] at hterm hpass hmarks hproxy
  have hduty : (updateIdle (budgeted s u)).duty = false := (duty_of_steadies (steady_budgeted s u)).trans hd
  exact
    { duty := (duty_of_steadies (steady_settle u s)).trans hd
      term := hterm
      passCheck := hpass
      proxy := hproxy.trans (proxy_relieved (stopIdle u))
      marks := fun n => by
        rw [hmarks, WatchUnit.unmarked]
        simp [WatchMarks.clear]
      given := fun e he => by
        refine waits_settle s h.takesPart rfl rfl rfl ?_
        rw [hedge, loseDuty_unmarked]
        exact waits_unmarked (waits_relieved (by rw [watch_stopIdle, h.proxy]; exact he))
      relieved := by
        have hedged : (edged s u).Relieved := by
          rw [hedge, loseDuty_unmarked]
          exact relieved_unmarked (relieved_relieved (stopIdle u))
        have hlast := relieved_settleWatch s.watch.out hduty
          (relieved_of_watch (watch_budgeted s u) ((steady_budgeted s u).trans (steady_edged s u).symm) hedged)
        rw [settle_eq s h.takesPart]
        exact relieved_of_watch (watch_of_offAnnounce (offAnnounce_announceChange s _)) (steady_announceChange _ s) hlast }

/-! ## The messages that move it -/

theorem moves_answers (hr : s.resetAsserted = false) (hp : s.power = .listening) (d : Answer) :
    Moves s.shelf.watch s (s.answers d) :=
  { reset := hr, power := hp, station := rfl, seconds := rfl, number := rfl, proxy := rfl, term := rfl }

theorem moves_moveWatch (hr : s.resetAsserted = false) (hp : s.power = .listening) (n : Station) {d : Answer} (hd : d ≠ .busy) :
    Moves (some n) s (moveWatch n (heard o (s.answers d))) := by
  have hst := steady_heard_answers (s := s) o hd
  obtain ⟨hproxy, -⟩ := watch_heard o (s.answers d)
  have hterm : (heard o (s.answers d)).watch.term = s.watch.term := by
    unfold heard
    dsimp only
    rw [(watchRetract_spec _ _).1]
    split <;> rfl
  exact
    { reset := (congrArg Steady.resetAsserted hst).trans hr
      power := (congrArg Steady.power hst).trans hp
      station := congrArg Steady.station hst
      seconds := congrArg Steady.seconds hst
      number := rfl
      proxy := hproxy
      term := hterm }

theorem moves_sent (hr : s.resetAsserted = false) (hp : s.power = .listening) (n : Station) (i : SlotId) :
    Moves (some n) s (moveWatch n (s.lineFreed i)) :=
  { reset := hr, power := hp, station := rfl, seconds := rfl, number := rfl, proxy := rfl, term := rfl }

theorem hearWatchPass_own (hr : s.resetAsserted = false) (hp : s.power = .listening) (ho : o ≠ s.station)
    (ha : a.ack = true ∨ a.ownFails = false) :
    hearWatchPass o s.station [] a s = moveWatch s.station (heard o (s.answers .acknowledge)) :=
  hear_inForce (d := .acknowledge) (by simp [State.takesPart, hr, hp]) ho rfl
    (by rw [watchPassAnswer, if_pos rfl, hp]; rfl) (targetedInForce_acknowledge ha)

theorem hearWatchPass_mute (hr : s.resetAsserted = false) (hp : s.power = .listening) (ho : o ≠ s.station)
    (ha : ¬ (a.ack = true ∨ a.ownFails = false)) :
    hearWatchPass o s.station [] a s = s.answers .acknowledge := by
  rw [not_or, Bool.not_eq_true, Bool.not_eq_false] at ha
  exact hear_notInForce (d := .acknowledge) (by simp [State.takesPart, hr, hp]) ho rfl
    (by rw [watchPassAnswer, if_pos rfl, hp]; rfl) (by simp [targetedInForce, ha.1, ha.2])

theorem hearWatchPass_other (hr : s.resetAsserted = false) (hp : s.power = .listening) (ho : o ≠ s.station)
    {t : Station} (ht : t ≠ s.station) (ha : a.ack = true) :
    hearWatchPass o t [] a s = moveWatch t (heard o (s.answers .nothing)) :=
  hear_inForce (d := .nothing) (by simp [State.takesPart, hr, hp]) ho rfl (by rw [watchPassAnswer, if_neg ht])
    (by simp [targetedInForce, ha])

theorem hearWatchTake_holder (hr : s.resetAsserted = false) (hd : s.duty = true) (ho : o ≠ s.station)
    (hp : s.power = .listening) (ha : a.obj = false) (hf : a.ownFails = true) :
    hearWatchTake o [] a s = moveWatch o (heard o (s.answers .objection)) :=
  hear_inForce (d := .objection) (by simp [State.takesPart, hr, hp]) ho rfl (by rw [watchTakeAnswer, hd]; rfl)
    (by simp [broadcastInForce, ha, hf])

theorem watch_faultEntries (s : State) : (faultEntries s).watch = s.watch :=
  have h : (faultEntries s).offEntries = s.offEntries := offEntries_endWorks .driveFault _ _
  (watch_of_offWork (offWork_of_offEntries h)).1

theorem watch_expelBudget (s : State) : (expelBudget s).watch = s.watch := by
  have hb : ∀ (p : OutMsg → Bool) (v : State), (budgetRetract p v).2.watch = v.watch := fun p v =>
    (watch_of_offClaim (offClaim_budgetRetract p v)).1
  unfold expelBudget
  dsimp only
  rw [hb]
  rfl

theorem watch_enterFault (cause : FaultCause) (s : State) : (enterFault cause s).watch = s.watch := by
  by_cases h : s.drive.state = .fault
  · rw [enterFault_same cause h]
  · obtain ⟨o, c, k, he⟩ := enterFault_eq cause h
    rw [he, (watch_of_offClaim (offClaim_powerRemoved _)).1, (watch_of_offWork (offWork_stopResync _)).1,
      watch_faultEntries]
    rfl

theorem power_of_duty (h : s.duty = true) : s.power = .listening := by
  simp only [State.duty, Bool.and_eq_true, beq_iff_eq] at h
  exact h.1

theorem number_of_duty (h : s.duty = true) : s.shelf.watch = some s.station := by
  simp only [State.duty, Bool.and_eq_true, beq_iff_eq] at h
  exact h.2

theorem moves_expelled (hr : s.resetAsserted = false) (hd : s.duty = true) (hp : s.power = .listening) :
    Moves none s (expelled (s.namedBy o)) := by
  have hst := steady_expelBudget_namedBy o s
  have hwatch : (s.namedBy o).watch.proxy = s.watch.proxy ∧ (s.namedBy o).watch.term = s.watch.term := by
    obtain ⟨b, a, hpl⟩ := placeAwake_frame s
    unfold State.namedBy heard
    dsimp only
    rw [(watchRetract_spec _ _).1, hpl]
    split <;> exact ⟨rfl, rfl⟩
  have hbudget : (expelBudget (s.namedBy o)).watch = (s.namedBy o).watch :=
    watch_expelBudget _
  have hclear : (s.cleared s.station).watch = none := by simp [State.cleared, number_of_duty hd]
  have hw := watch_enterFault .expelled (expelBudget (s.namedBy o))
  unfold expelled
  generalize expelBudget (s.namedBy o) = w at *
  have hkeep : (enterFault .expelled w).steady.resetAsserted = w.steady.resetAsserted
      ∧ (enterFault .expelled w).steady.power = w.steady.power ∧ (enterFault .expelled w).steady.station = w.steady.station
      ∧ (enterFault .expelled w).steady.seconds = w.steady.seconds
      ∧ (enterFault .expelled w).steady.shelf = w.steady.shelf := by
    by_cases h : w.drive.state = .fault
    · rw [enterFault_same _ h]
      exact ⟨rfl, rfl, rfl, rfl, rfl⟩
    · rw [steady_enterFault _ h]
      exact ⟨rfl, rfl, rfl, rfl, rfl⟩
  obtain ⟨h₁, h₂, h₃, h₄, h₅⟩ := hkeep
  rw [hst] at h₁ h₂ h₃ h₄ h₅
  exact
    { reset := h₁.trans hr
      power := h₂.trans hp
      station := h₃
      seconds := h₄
      number := (congrArg (·.watch) h₅).trans hclear
      proxy := by rw [hw, hbudget, hwatch.1]
      term := by rw [hw, hbudget, hwatch.2] }

/-- Settles O22. -/
theorem dutyIsGainedAndLost : Obligations.DutyIsGainedAndLost := by
  unfold Obligations.DutyIsGainedAndLost
  intro loses
  have hloses : ∀ {s t : State} {c : Instr}, exec c s = .next t → Loses s t → loses s c := fun he h =>
    ⟨_, he, h.duty, h.term, h.passCheck, h.proxy, h.marks, h.given, h.relieved.1, h.relieved.2⟩
  refine ⟨fun s x a hr hp hd hx hw hm => ?take, fun s o a hr hp hd ho ha => ?named, fun s o a hr hd ho => ?again,
    fun s o t a hr hd ho => ⟨fun hobj hf => ⟨?taken, ?absent⟩, fun ht hack => ?passed⟩,
    fun s x n b hr hd hx hw hm hn => ?sent⟩
  case take =>
    have hsent : finishSend (fun m => outcomeOf m a false) false s = moveWatch s.station (s.lineFreed x.slot) := by
      rw [finishSend_won hx hw, sendDone, hm]
      rfl
    exact ⟨_, exec_event hr rfl hsent, gains_settle hd (moves_sent hr hp _ _)⟩
  case named =>
    exact ⟨_, exec_event hr rfl (hearWatchPass_own hr hp ho ha),
      gains_settle hd (moves_moveWatch hr hp _ (by decide))⟩
  case again =>
    have hp := power_of_duty hd
    by_cases ha : a.ack = true ∨ a.ownFails = false
    · exact ⟨_, exec_event hr rfl (hearWatchPass_own hr hp ho ha),
        dutyKept_settle hd (moves_moveWatch hr hp _ (by decide))⟩
    · have hown : s.shelf.watch = some s.station := number_of_duty hd
      exact ⟨_, exec_event hr rfl (hearWatchPass_mute hr hp ho ha),
        dutyKept_settle hd (hown ▸ moves_answers hr hp _)⟩
  case taken =>
    have hp := power_of_duty hd
    exact hloses (exec_event hr rfl (hearWatchTake_holder hr hd ho hp hobj hf))
      (loses_settle hd (moves_moveWatch hr hp _ (by decide)) (by simpa using ho))
  case absent =>
    have hp := power_of_duty hd
    have ht : s.takesPart = true := by simp [State.takesPart, hr, hp]
    exact hloses (exec_event hr rfl (absent_expels ht ho rfl ho.symm hf hobj))
      (loses_settle hd (moves_expelled hr hd hp) (by simp))
  case passed =>
    have hp := power_of_duty hd
    exact hloses (exec_event hr rfl (hearWatchPass_other hr hp ho ht hack))
      (loses_settle hd (moves_moveWatch hr hp _ (by decide)) (by simpa using ht))
  case sent =>
    have hp := power_of_duty hd
    have hsent : finishSend (fun m => outcomeOf m true b) false s = moveWatch n (s.lineFreed x.slot) := by
      rw [finishSend_won hx hw, sendDone, hm]
      rfl
    exact hloses (exec_event hr rfl hsent) (loses_settle hd (moves_sent hr hp _ _) (by simpa using hn))

end

/-! When a station announces itself (R31, R32). -/

section
variable {s u : State}

/-! ## The PRESENCE slot through the tests -/

theorem presence_of_offWork (h : u.offWork = s.offWork) : u.slot .presence = s.slot .presence :=
  have hs : u.offWork.slot .presence = s.offWork.slot .presence := congrArg (State.slot .presence) h
  hs

theorem presence_of_offClaim (h : u.offClaim = s.offClaim) : u.slot .presence = s.slot .presence :=
  have hs : u.offClaim.slot .presence = s.offClaim.slot .presence := congrArg (State.slot .presence) h
  hs

theorem presence_of_offWatch (h : u.offWatch = s.offWatch) : u.slot .presence = s.slot .presence :=
  have hs : u.offWatch.slot .presence = s.offWatch.slot .presence := congrArg (State.slot .presence) h
  hs

theorem presence_hotAction (s : State) : (hotAction s).slot .presence = s.slot .presence := by
  unfold hotAction
  split
  · have h := presence_of_offClaim (offClaim_powerRemoved (s.onDrive fun d => { d with deferral := none, offSince := s.tick }))
    unfold giveUpDeferral
    dsimp only
    rw [if_neg Bool.false_ne_true]
    exact h
  · split
    · exact presence_of_offWork (s := s.stopping) (offWork_enterSpinDown s)
    · split <;> rfl

theorem presence_stopIdle (s : State) : (stopIdle s).slot .presence = s.slot .presence := by
  unfold stopIdle
  split <;> rfl

theorem presence_updateIdle (s : State) : (updateIdle s).slot .presence = s.slot .presence := rfl

theorem presence_reportNeed (s : State) : (reportNeed s).slot .presence = s.slot .presence := rfl

/-- What the tests leave before a change is announced. -/
def tested (b s : State) : State := settleWatch b.watch.out (updateIdle (budgeted b s))

theorem settle_tested (b : State) (h : s.takesPart = true) : settle b s = announceChange b (tested b s) := settle_eq b h

theorem power_of_steady (h : u.steady = s.steady) : u.power = s.power := congrArg Steady.power h

theorem presence_tested (b s : State) : (tested b s).slot .presence = s.slot .presence := by
  have hbudget : (budgeted b s).slot .presence = (reportNeed (worked b s)).slot .presence :=
    presence_of_offClaim (offClaim_settleBudget _)
  have hedge : (edged b s).slot .presence = (stopIdle s).slot .presence := presence_of_offWatch (offWatch_dutyEdge b _)
  unfold tested
  rw [presence_of_offWatch (offWatch_settleWatch _ _), presence_updateIdle, hbudget, presence_reportNeed,
    presence_of_offWork (offWork_worked b s), presence_hotAction, hedge, presence_stopIdle]

theorem steady_tested (b s : State) : (tested b s).steady = s.steady := by
  unfold tested
  simp only [settleWatch, steady_placeWatch, steady_followSleep, steady_orderWatch, steady_makeWakes,
    steady_followTakeTest, steady_followPass, steady_budgeted]

/-! ## An AWAKE placed -/

theorem placeAwake_placed (hp : s.power = .listening) (hs : s.slot .presence = none) :
    placeAwake s = (s.onAnnounce fun a => { a with timer := none }).putSlot .presence (some .awake) := by
  unfold placeAwake
  rw [if_pos hp, hs]

theorem timer_placeAwake (hp : s.power = .listening) (hs : s.slot .presence = none) :
    (placeAwake s).announce.timer = none ∧ (placeAwake s).announce.again = s.announce.again := by
  rw [placeAwake_placed hp hs]
  exact ⟨rfl, rfl⟩

theorem announced_of_offAnnounce (h : u.offAnnounce = s.offAnnounce) : u.announced = s.announced :=
  have ha : u.offAnnounce.announced = s.offAnnounce.announced := congrArg State.announced h
  ha

theorem announceChange_ne {b : State} (h : b.announced ≠ s.announced) : announceChange b s = placeAwake s := if_pos h

theorem announced_ne {b t : State} (h : b.drive.state ≠ t.drive.state ∨ b.mirror.role ≠ t.mirror.role
    ∨ b.mirror.epoch ≠ t.mirror.epoch ∨ b.mirror.behind ≠ t.mirror.behind ∨ b.duty ≠ t.duty) :
    b.announced ≠ t.announced := by
  intro he
  simp only [State.announced, Prod.mk.injEq] at he
  obtain ⟨hdrive, hrole, hepoch, hbehind, hduty⟩ := he
  simp [hdrive, hrole, hepoch, hbehind, hduty] at h

theorem announceChange_settle {b : State} (hr : s.resetAsserted = false) (hp : s.power = .listening)
    (hs : s.slot .presence = none) (hne : b.announced ≠ (settle b s).announced) :
    (settle b s).slot .presence = some .awake ∧ (settle b s).announce.timer = none := by
  have ht : s.takesPart = true := by simp [State.takesPart, hr, hp]
  have hpow : (tested b s).power = .listening := (power_of_steady (steady_tested b s)).trans hp
  have hslot : (tested b s).slot .presence = none := (presence_tested b s).trans hs
  rw [settle_tested b ht] at hne ⊢
  generalize tested b s = v at *
  rw [announced_of_offAnnounce (offAnnounce_announceChange b v)] at hne
  rw [announceChange_ne hne]
  exact ⟨slot_placeAwake hpow hslot, (timer_placeAwake hpow hslot).1⟩

/-! ## The outcome of an AWAKE -/

theorem awakeOutcome_again {f : Frame} {o : SendOutcome} (hp : s.power = .listening) (hs : s.slot .presence = none)
    (ho : (∃ a, o = .inForce a ∧ s.announce.again = true) ∨ (∃ a, o = .objected a) ∨ o = .spoiled) :
    (awakeOutcome f o s).slot .presence = some .awake ∧ (awakeOutcome f o s).announce.timer = none
      ∧ (awakeOutcome f o s).announce.again = false := by
  have hplace : ∀ v : State, v.power = .listening → v.slot .presence = none → v.announce.again = false →
      (placeAwake v).slot .presence = some .awake ∧ (placeAwake v).announce.timer = none
        ∧ (placeAwake v).announce.again = false := fun v h₁ h₂ h₃ =>
    ⟨slot_placeAwake h₁ h₂, (timer_placeAwake h₁ h₂).1, (timer_placeAwake h₁ h₂).2.trans h₃⟩
  rcases ho with ⟨a, rfl, ha⟩ | ⟨a, rfl⟩ | rfl
  · unfold awakeOutcome
    dsimp only
    rw [if_pos ha]
    exact hplace _ hp hs rfl
  · exact hplace _ hp hs rfl
  · exact hplace _ hp hs rfl

theorem steady_awakeOutcome (f : Frame) (o : SendOutcome) : (awakeOutcome f o s).steady = s.steady := by
  unfold awakeOutcome
  split
  · dsimp only
    split
    · exact steady_placeAwake _
    · rfl
  · exact steady_placeAwake _
  · exact steady_placeAwake _
  all_goals rfl

end

/-- Settles O14. -/
theorem announcementsFollowTheTimer : Obligations.AnnouncementsFollowTheTimer := by
  unfold Obligations.AnnouncementsFollowTheTimer
  refine ⟨?change, ?expiry, ?early, ?outcome⟩
  case change =>
    intro b s hr hp hs t hne
    exact announceChange_settle hr hp hs (announced_ne hne)
  case expiry =>
    intro s t₀ hr hp ht he hs
    have hx : announceExpired s = placeAwake s :=
      if_pos (expired_iff.mpr ⟨t₀, ht, he⟩)
    exact does_event hr rfl hx (steady_placeAwake s) ⟨slot_placeAwake hp hs, (timer_placeAwake hp hs).1⟩
  case early =>
    intro s t₀ hr ht he
    refine idles_of announceExpired hr rfl (if_neg ?_)
    rw [ht]
    exact fun h => absurd (expired_some.mp h) (Nat.not_le.mpr he)
  case outcome =>
    intro s x a hr hp hx hw hslot hm
    have hfreed : (s.lineFreed x.slot).slot .presence = none := by rw [hslot]; exact get_set _ .presence none
    have hspoiled : (s.lineSpoiled x.slot).slot .presence = none := by rw [hslot]; exact get_set _ .presence none
    have hdone : ∀ o v, sendDone x o v = awakeOutcome x.frame o v := fun o v => by rw [sendDone, hm]
    have hcame : outcomeOf x.msg a false = .inForce a := by rw [hm]; rfl
    refine ⟨fun ha => ?_, fun ha => ?_, ?_, ?_⟩
    · refine does_sendOutcome hr hx hw (hdone _ _) (steady_awakeOutcome _ _) ?_
      rw [hcame]
      unfold awakeOutcome
      dsimp only
      rw [if_neg (by rw [show (s.lineFreed x.slot).announce.again = false from ha]; exact Bool.false_ne_true)]
      exact ⟨hfreed, rfl⟩
    · refine does_sendOutcome hr hx hw (hdone _ _) (steady_awakeOutcome _ _) ?_
      exact awakeOutcome_again hp hfreed (.inl ⟨a, hcame, ha⟩)
    · refine does_sendOutcome hr hx hw (hdone _ _) (steady_awakeOutcome _ _) ?_
      exact awakeOutcome_again hp hfreed (.inr (.inl ⟨a, by rw [hm]; rfl⟩))
    · have hsent : s.sent 2 = s.counted 2 := if_neg (by simp [hp])
      refine does_sendSpoiled hr hx hw (hdone _ _) ?_ (awakeOutcome_again hp hspoiled (.inr (.inr rfl)))
      rw [steady_awakeOutcome, steady_lineSpoiled, hsent]

/-! The budget unit's tests after an event (R57, R58, R60). -/

section
variable {s u v : State} {m : OutMsg}

/-! ## The budget unit through the tests -/

/-- The budget unit and its slot are as they were. -/
structure SameBudget (s u : State) : Prop where
  claim : u.claim = s.claim
  slot : u.slot .budget = s.slot .budget

theorem SameBudget.trans (h : SameBudget s u) (g : SameBudget u v) : SameBudget s v :=
  ⟨g.claim.trans h.claim, g.slot.trans h.slot⟩

theorem sameBudget_of_offWork (h : u.offWork = s.offWork) : SameBudget s u :=
  have hc : u.offWork.claim = s.offWork.claim := congrArg (·.claim) h
  have hs : u.offWork.slot .budget = s.offWork.slot .budget := congrArg (State.slot .budget) h
  ⟨hc, hs⟩

theorem sameBudget_of_offWatch (h : u.offWatch = s.offWatch) : SameBudget s u :=
  have hc : u.offWatch.claim = s.offWatch.claim := congrArg (·.claim) h
  have hs : u.offWatch.slot .budget = s.offWatch.slot .budget := congrArg (State.slot .budget) h
  ⟨hc, hs⟩

theorem sameBudget_of_offAnnounce (h : u.offAnnounce = s.offAnnounce) : SameBudget s u :=
  have hc : u.offAnnounce.claim = s.offAnnounce.claim := congrArg (·.claim) h
  have hs : u.offAnnounce.slot .budget = s.offAnnounce.slot .budget := congrArg (State.slot .budget) h
  ⟨hc, hs⟩

theorem sameBudget_stopIdle (s : State) : SameBudget s (stopIdle s) := by
  unfold stopIdle
  split
  · exact ⟨rfl, rfl⟩
  · exact ⟨rfl, rfl⟩

theorem sameBudget_reportNeed (s : State) : SameBudget s (reportNeed s) := ⟨rfl, rfl⟩

theorem sameBudget_updateIdle (s : State) : SameBudget s (updateIdle s) := ⟨rfl, rfl⟩

/-- R62: the station holds units for its drive. -/
def ClaimState.holds : ClaimState → Bool
  | .spinUnits | .runUnits => true
  | .none | .asking | .waiting | .releasing => false

theorem powerRemoved_unheld (h : s.claim.state.holds = false) : powerRemoved s = s := by
  unfold powerRemoved
  cases hc : s.claim.state <;> first | rfl | (rw [hc] at h; cases h)

theorem sameBudget_hotAction (h : s.claim.state.holds = false) : SameBudget s (hotAction s) := by
  unfold hotAction
  split
  · have hoff : powerRemoved (s.onDrive fun d => { d with deferral := none, offSince := s.tick }) = _ :=
      powerRemoved_unheld h
    unfold giveUpDeferral
    dsimp only
    rw [if_neg Bool.false_ne_true, hoff]
    exact ⟨rfl, rfl⟩
  · split
    · have hstop : SameBudget s s.stopping := ⟨rfl, rfl⟩
      exact hstop.trans (sameBudget_of_offWork (offWork_enterSpinDown s))
    · split
      · exact ⟨rfl, rfl⟩
      · exact ⟨rfl, rfl⟩

/-- What the budget unit's tests begin with. -/
def unbudgeted (b s : State) : State := reportNeed (worked b s)

theorem sameBudget_unbudgeted (b : State) (h : s.claim.state.holds = false) : SameBudget s (unbudgeted b s) := by
  have hedge : SameBudget s (edged b s) := (sameBudget_stopIdle s).trans (sameBudget_of_offWatch (offWatch_dutyEdge b _))
  have hhot : SameBudget (edged b s) (hotAction (edged b s)) := sameBudget_hotAction (by rw [hedge.claim]; exact h)
  exact hedge.trans (hhot.trans ((sameBudget_of_offWork (offWork_worked b s)).trans (sameBudget_reportNeed _)))

/-- The tests after the budget unit's leave the budget unit. -/
theorem sameBudget_settle (b : State) (h : s.takesPart = true) :
    SameBudget (settleBudget (unbudgeted b s)) (settle b s) := by
  rw [settle_eq b h]
  exact (sameBudget_updateIdle _).trans ((sameBudget_of_offWatch (offWatch_settleWatch _ _)).trans
    (sameBudget_of_offAnnounce (offAnnounce_announceChange b _)))

theorem steady_unbudgeted (b s : State) : (unbudgeted b s).steady = s.steady := by
  simp [unbudgeted, worked, edged, settlePages, settleSlots, settleLane, settleMirror]

/-! ## A message of the budget unit that waits -/

/-- A message waits in the budget unit's list or in the BUDGET slot. -/
def State.Asks (m : OutMsg) (s : State) : Prop := m ∈ s.claim.out ∨ s.slot .budget = some m

theorem SameBudget.asks (h : SameBudget s u) (ha : s.Asks m) : u.Asks m := by
  unfold State.Asks
  rw [h.claim, h.slot]
  exact ha

theorem asks_placeBudget (h : s.Asks m) : (placeBudget s).Asks m := by
  unfold placeBudget
  split
  · rename_i x rest hs hout
    rcases h with h | h
    · rw [hout] at h
      rcases List.mem_cons.mp h with rfl | h
      · exact .inr (get_set _ .budget (some m))
      · exact .inl h
    · rw [hs] at h
      cases h
  · exact h

theorem placeBudget_frame (s : State) : (placeBudget s).claim = { s.claim with out := (placeBudget s).claim.out } := by
  unfold placeBudget
  split <;> rfl

theorem state_placeBudget (s : State) : (placeBudget s).claim.state = s.claim.state := by rw [placeBudget_frame]

/-! ## Stray units (R57) -/

theorem giveUpClaim_releasing (h : s.claim.state = .releasing) : giveUpClaim s = s := by
  unfold giveUpClaim
  rw [h]

theorem testClaim_releasing (h : s.claim.state = .releasing) : testClaim s = s := by
  unfold testClaim
  rw [h, if_neg (by simp)]

/-- What a stray release makes ready goes through the rest of the budget unit's tests. -/
theorem settleBudget_releases (h : (releaseStray s).claim.state = .releasing) :
    settleBudget s = placeBudget (releaseStray s) := by
  unfold settleBudget
  dsimp only
  rw [giveUpClaim_releasing h, ite_self, testClaim_releasing h]

theorem releaseStray_units (hc : s.shelf.census = .complete) (hn : s.claim.state = .none) (hh : s.ownHolding ≠ 0) :
    releaseStray s = releaseAll s := by
  rw [releaseStray, if_pos ⟨hc, hn⟩, if_pos hh]

theorem releaseStray_place (hc : s.shelf.census = .complete) (hn : s.claim.state = .none) (hh : s.ownHolding = 0)
    (hw : s.shelf.waits s.station = true) : releaseStray s = releasePlace s := by
  rw [releaseStray, if_pos ⟨hc, hn⟩, if_neg (not_not.mpr hh), if_pos hw]

/-- The own claim is RELEASING, and the RELEASE waits. -/
structure Gives (m : OutMsg) (s : State) : Prop where
  state : s.claim.state = .releasing
  asks : s.Asks m

theorem SameBudget.gives (h : SameBudget s u) (hg : Gives m s) : Gives m u :=
  ⟨(congrArg ClaimUnit.state h.claim).trans hg.state, h.asks hg.asks⟩

theorem gives_settleBudget (h : Gives m (releaseStray s)) : Gives m (settleBudget s) := by
  rw [settleBudget_releases h.state]
  exact ⟨(state_placeBudget _).trans h.state, asks_placeBudget h.asks⟩

theorem gives_releaseAll (s : State) : Gives (.release s.ownHolding false .full) (releaseAll s) :=
  ⟨rfl, .inl (List.mem_append_right _ (List.mem_singleton.mpr rfl))⟩

theorem gives_releasePlace (s : State) : Gives (.release 0 true .giveUp) (releasePlace s) :=
  ⟨rfl, .inl (List.mem_append_right _ (List.mem_singleton.mpr rfl))⟩

/-- The tables and the own number, on which the own holding and the own place depend. -/
theorem shelf_of_steady (h : u.steady = s.steady) : u.shelf = s.shelf ∧ u.station = s.station :=
  ⟨congrArg Steady.shelf h, congrArg Steady.station h⟩

theorem ownHolding_of_steady (h : u.steady = s.steady) : u.ownHolding = s.ownHolding := by
  obtain ⟨hx, hn⟩ := shelf_of_steady h
  simp [State.ownHolding, hx, hn]

/-- R57: stray units, and a stray place in the list, are given back after an event. -/
theorem settle_releasesStray (b : State) (ht : s.takesPart = true) (hc : s.shelf.census = .complete)
    (hn : s.claim.state = .none) :
    (s.ownHolding ≠ 0 → Gives (.release s.ownHolding false .full) (settle b s))
      ∧ (s.ownHolding = 0 → s.shelf.waits s.station = true → Gives (.release 0 true .giveUp) (settle b s)) := by
  have hsame := sameBudget_unbudgeted b (s := s) (by rw [hn]; rfl)
  obtain ⟨hx, hnum⟩ := shelf_of_steady (steady_unbudgeted b s)
  have hown := ownHolding_of_steady (steady_unbudgeted b s)
  have hlast := sameBudget_settle b ht
  generalize unbudgeted b s = v at *
  rw [← hx] at hc
  rw [← hx, ← hnum, ← hown]
  have hnone : v.claim.state = .none := by rw [hsame.claim]; exact hn
  refine ⟨fun hh => hlast.gives (gives_settleBudget ?_), fun hh hw => hlast.gives (gives_settleBudget ?_)⟩
  · rw [releaseStray_units hc hnone hh]
    exact gives_releaseAll v
  · rw [releaseStray_place hc hnone hh hw]
    exact gives_releasePlace v

/-! ## The claim test (R58, R60) -/

/-- What the conditions of R58 depend on. -/
def State.claimBasis (s : State) : Shelf × Station × Option Settings × Bool × DriveState × Bool × Option Tick :=
  (s.shelf, s.station, s.settings, s.drive.need, s.drive.state, s.supply.hot, s.claim.holdOff)

theorem claimBasis_iff : u.claimBasis = s.claimBasis ↔ u.shelf = s.shelf ∧ u.station = s.station
    ∧ u.settings = s.settings ∧ u.drive.need = s.drive.need ∧ u.drive.state = s.drive.state
    ∧ u.supply.hot = s.supply.hot ∧ u.claim.holdOff = s.claim.holdOff := by
  simp [State.claimBasis]

theorem claimConditions_of_basis (h : u.claimBasis = s.claimBasis) : u.claimConditions = s.claimConditions := by
  obtain ⟨hx, hn, hset, hneed, hst, hhot, hold⟩ := claimBasis_iff.mp h
  have hcost : u.spinCost = s.spinCost := by
    unfold State.spinCost
    rw [hset]
  simp only [State.claimConditions, State.claimWanted, State.ownHolding, hcost, hx, hn, hset, hneed, hst, hhot, hold]

theorem claimBasis_of_offWatch (h : u.offWatch = s.offWatch) : u.claimBasis = s.claimBasis :=
  have hc : u.offWatch.claimBasis = s.offWatch.claimBasis := congrArg State.claimBasis h
  hc

theorem claimBasis_of_offAnnounce (h : u.offAnnounce = s.offAnnounce) : u.claimBasis = s.claimBasis :=
  have hc : u.offAnnounce.claimBasis = s.offAnnounce.claimBasis := congrArg State.claimBasis h
  hc

theorem claimBasis_placeBudget (s : State) : (placeBudget s).claimBasis = s.claimBasis := by
  unfold placeBudget
  split <;> rfl

theorem claimBasis_updateIdle (s : State) : (updateIdle s).claimBasis = s.claimBasis := rfl

theorem claimBasis_testClaim (s : State) : (testClaim s).claimBasis = s.claimBasis := by
  unfold testClaim
  split <;> rfl

/-- The state that the claim test looks at. -/
def claimTested (s : State) : State :=
  let s := releaseStray s
  if !s.claimWanted && !s.claim.giveUp then giveUpClaim s else s

theorem settleBudget_tested (s : State) : settleBudget s = placeBudget (testClaim (claimTested s)) := rfl

theorem budgeted_eq (b s : State) : budgeted b s = settleBudget (unbudgeted b s) := rfl

theorem claimBasis_settle (b : State) (h : s.takesPart = true) :
    (settle b s).claimBasis = (claimTested (unbudgeted b s)).claimBasis := by
  rw [settle_eq b h, claimBasis_of_offAnnounce (offAnnounce_announceChange b _),
    claimBasis_of_offWatch (offWatch_settleWatch _ _), claimBasis_updateIdle, budgeted_eq, settleBudget_tested,
    claimBasis_placeBudget, claimBasis_testClaim]

/-- R58, R60: where the conditions hold, the claim test leaves no claim unmade that the tables would take. -/
theorem testClaim_spec (h : s.claimConditions = true) : (testClaim s).claim.state ≠ .none
    ∧ ((testClaim s).claim.state = .waiting → s.shelf.admits s.station s.spinCost = false) := by
  unfold testClaim
  rw [h, Bool.true_and]
  split
  · exact ⟨nofun, nofun⟩
  · rename_i hc
    rw [Bool.or_eq_true, Bool.and_eq_true, beq_iff_eq, beq_iff_eq, not_or] at hc
    exact ⟨hc.1, fun hw => Bool.eq_false_iff.mpr fun ha => hc.2 ⟨hw, ha⟩⟩

theorem testClaim_asks (h : s.claim.state ≠ .asking) (ha : (testClaim s).claim.state = .asking) :
    (testClaim s).Asks (.claim s.spinCost) := by
  unfold testClaim at ha ⊢
  split
  · exact .inl (List.mem_append_right _ (List.mem_singleton.mpr rfl))
  · rename_i hc
    rw [if_neg hc] at ha
    exact absurd ha h

/-- Giving a claim up does not lead back to ASKING from NONE or WAITING. -/
theorem claimTested_state (b : State) (h : s.claim.state = .none ∨ s.claim.state = .waiting) :
    (claimTested (unbudgeted b s)).claim.state ≠ .asking := by
  have hsame := sameBudget_unbudgeted b (s := s) (by rcases h with h | h <;> rw [h] <;> rfl)
  unfold claimTested
  generalize unbudgeted b s = v at *
  rw [← hsame.claim] at h
  have hstray : (releaseStray v).claim.state ≠ .asking := by
    have hv : v.claim.state ≠ .asking := by rcases h with h | h <;> rw [h] <;> nofun
    unfold releaseStray
    split
    · split
      · nofun
      · split
        · nofun
        · exact hv
    · exact hv
  generalize releaseStray v = w at *
  dsimp only
  split
  · unfold giveUpClaim
    cases hw : w.claim.state with
    | asking => exact absurd hw hstray
    | waiting => nofun
    | none => exact hstray
    | spinUnits => exact hstray
    | runUnits => exact hstray
    | releasing => exact hstray
  · exact hstray

end

/-! The station's own CLAIM (R59 to R62, R69). -/

section
variable {s : State} {n : Nat} {x : Sending} {c : Settings}

/-! ## The claim test -/

theorem claimConditions_iff (hc : s.settings = some c) : s.claimConditions = true ↔
    s.shelf.census = .complete ∧ s.drive.need = true ∧ s.drive.state = .off ∧ s.supply.hot = false ∧ s.ownHolding = 0
      ∧ s.claim.holdOff = none ∧ c.spinCost ≤ s.shelf.budget := by
  simp [State.claimConditions, State.claimWanted, State.spinCost, hc, and_assoc]

theorem spinCost_eq (hc : s.settings = some c) : s.spinCost = c.spinCost := by simp [State.spinCost, hc]

theorem claimTest_settle (b : State) (ht : s.takesPart = true) (hc : s.settings = some c) :
    ∃ w : State, w.claimBasis = (settle b s).claimBasis ∧ (settle b s).settings = some c ∧ w.spinCost = c.spinCost
      ∧ (settle b s).claim.state = (testClaim w).claim.state
      ∧ (∀ m, (testClaim w).Asks m → (settle b s).Asks m)
      ∧ (s.claim.state = .none ∨ s.claim.state = .waiting → w.claim.state ≠ .asking) := by
  have hbasis := claimBasis_settle b ht
  have hsame := sameBudget_settle b ht
  have hstate := claimTested_state b (s := s)
  have hset : (settle b s).settings = some c := (congrArg Steady.settings (steady_settle s b)).trans hc
  rw [settleBudget_tested] at hsame
  generalize claimTested (unbudgeted b s) = w at *
  obtain ⟨-, -, hw, -⟩ := claimBasis_iff.mp hbasis
  exact ⟨w, hbasis.symm, hset, spinCost_eq (hw.symm.trans hset),
    (congrArg ClaimUnit.state hsame.claim).trans (state_placeBudget _), fun m h => hsame.asks (asks_placeBudget h), hstate⟩

/-! ## The own CLAIM in the own tables (R59) -/

theorem sendDone_claim (hm : x.msg = .claim n) (o : SendOutcome) (s : State) : sendDone x o s = claimOutcome n o s := by
  simp only [sendDone, hm]

/-- The tables after the own CLAIM has been admitted. -/
def State.raised (n : Nat) (s : State) : Shelf :=
  { s.shelf with
    holdings := s.shelf.holdings.set s.station n, waiters := s.shelf.waiters.filter fun w => w.station != s.station }

/-- The tables after the own CLAIM has been refused. -/
def State.listed (n : Nat) (s : State) : Shelf :=
  { s.shelf with
    waiters :=
      if s.shelf.waits s.station then
        s.shelf.waiters.map fun w => if w.station = s.station then { w with units := n } else w
      else s.shelf.waiters ++ [⟨s.station, n⟩] }

/-- The state in which the admission reaches the drive port. -/
def State.admitted (n : Nat) (s : State) : State :=
  setClaim .spinUnits ((s.onShelf fun _ => s.raised n).onClaim fun c => { c with giveUp := false })

theorem claimOutcome_admitted (a : Bool) (hh : s.ownHolding = 0) (hu : n ≤ s.shelf.budget)
    (ha : s.shelf.admits s.station n = true) : claimOutcome n (.inForce a) s = admission (s.admitted n) := by
  have hd : ownClaimDecided n s = (.admitted, s.admitted n) := by
    unfold ownClaimDecided
    rw [decide_admitted hh hu ha]
    rfl
  unfold claimOutcome
  rw [hd]
  rfl

/-- R61: the state after a refusal, or after a CLAIM that came into force nowhere. -/
def State.refused (s : State) : State :=
  setClaim (if s.shelf.waits s.station then .waiting else .none) (s.onClaim fun c => { c with giveUp := false })

/-- R61: a claim given up while it was on the line gives its place up with the outcome. -/
def State.turnedDown (s : State) : State :=
  if s.claim.giveUp && s.refused.claim.state == .waiting then releasePlace s.refused else s.refused

theorem ownClaimFailed_eq (h : s.claim.state = .asking) : ownClaimFailed s = s.turnedDown := if_pos h

theorem claimOutcome_refused (a : Bool) (hh : s.ownHolding = 0) (hu : n ≤ s.shelf.budget)
    (ha : s.shelf.admits s.station n = false) :
    claimOutcome n (.inForce a) s = (s.onShelf fun _ => s.listed n).turnedDown := by
  have hd : ownClaimDecided n s = (.refused, (s.onShelf fun _ => s.listed n).turnedDown) := by
    unfold ownClaimDecided
    rw [decide_listed hh hu ha]
    rfl
  unfold claimOutcome
  rw [hd]
  rfl

theorem steady_turnedDown (s : State) : s.turnedDown.steady = s.steady := by
  unfold State.turnedDown
  split <;> rfl

theorem steady_ownClaimFailed (s : State) : (ownClaimFailed s).steady = s.steady := by
  by_cases h : s.claim.state = .asking
  · rw [ownClaimFailed_eq h, steady_turnedDown]
  · rw [ownClaimFailed, if_neg h]

/-- The place is given up: the RELEASE of the place is made ready after what waits. -/
def State.GivesUp (s u : State) : Prop := u.claim.state = .releasing ∧ u.claim.out = s.claim.out ++ [.release 0 true .giveUp]

theorem turnedDown_keeps (h : s.claim.giveUp = false) :
    s.turnedDown.claim.state = (if s.shelf.waits s.station then .waiting else .none)
      ∧ s.turnedDown.claim.out = s.claim.out := by
  have hk : s.turnedDown = s.refused := if_neg (by simp [h])
  rw [hk]
  exact ⟨rfl, rfl⟩

theorem turnedDown_place (h : s.claim.giveUp = true) (hw : s.shelf.waits s.station = true) :
    s.GivesUp s.turnedDown := by
  have hk : s.turnedDown = releasePlace s.refused := if_pos (by simp [h, State.refused, setClaim, State.onClaim, hw])
  rw [hk]
  exact ⟨rfl, rfl⟩

theorem turnedDown_nowhere (hw : s.shelf.waits s.station = false) :
    s.turnedDown.claim.state = .none ∧ s.turnedDown.claim.out = s.claim.out := by
  have hk : s.turnedDown = s.refused := if_neg (by simp [State.refused, setClaim, State.onClaim, hw])
  rw [hk]
  exact ⟨by simp [State.refused, setClaim, State.onClaim, hw], rfl⟩

/-- A refused station stands in its own list. -/
theorem waits_listed (s : State) (n : Nat) : (s.listed n).waits s.station = true := by
  unfold State.listed Shelf.waits
  dsimp only
  split
  · rename_i hw
    obtain ⟨w, hw, hs⟩ := List.any_eq_true.mp hw
    refine List.any_eq_true.mpr ⟨_, List.mem_map.mpr ⟨w, hw, rfl⟩, ?_⟩
    split <;> exact hs
  · simp

/-! ## The admission at the drive port (R62, R69) -/

theorem admission_powers (h : s.drive.state = .off) (hd : s.drive.deferral = none) (ha : s.adequate = true) :
    admission s = applyPower s := by
  simp only [admission, h, hd, Option.isSome_none, Bool.false_eq_true, if_false, ha, if_true]

theorem admission_defers (h : s.drive.state = .off) (hd : s.drive.deferral = none) (ha : s.adequate = false) :
    admission s = s.onDrive fun d => { d with deferral := some s.tick } := by
  simp only [admission, h, hd, Option.isSome_none, Bool.false_eq_true, if_false, ha]

theorem admission_fault (h : s.drive.state = .fault) : admission s = releaseAll s := by
  simp only [admission, h]

theorem steady_deferred (s : State) (t : Tick) : (s.onDrive fun d => { d with deferral := some t }).steady =
    { s.steady with coldDrive := s.cold s.drive.state (some t) s.drive.offSince } := rfl

theorem steady_admitted (s : State) (n : Nat) (i : SlotId) :
    ((s.lineFreed i).admitted n).steady = { s.steady with line := none, shelf := s.raised n } := rfl

theorem steady_admitted_deferred {d : DriveState} (n : Nat) (i : SlotId) (h : s.drive.state = d) :
    (((s.lineFreed i).admitted n).onDrive fun d =>
        { d with deferral := some ((s.lineFreed i).admitted n).tick }).steady =
      { s.steady with line := none, shelf := s.raised n, coldDrive := s.cold d (some s.tick) s.drive.offSince } := by
  rw [steady_deferred, steady_admitted, ← h]
  rfl

theorem applyPower_claim (s : State) : (applyPower s).claim = s.claim := rfl

theorem spinningUp_admitted (s : State) (n : Nat) (i : SlotId) :
    ((s.lineFreed i).admitted n).spinningUp = { s.spinningUp with line := none, shelf := s.raised n } := rfl

theorem ownHolding_admitted (s : State) (n : Nat) : (s.admitted n).ownHolding = n := Vector.getElem_set_self _

theorem claim_releaseAll (s : State) :
    (releaseAll s).claim.state = .releasing ∧ (releaseAll s).claim.out = s.claim.out ++ [.release s.ownHolding false .full] :=
  ⟨rfl, rfl⟩

variable {a : Bool} {k : Steady} {P : State → Prop}

/-- R59, R69: an own CLAIM that the own tables take reaches the drive port. -/
theorem does_claim_admitted (hr : s.resetAsserted = false) (hx : s.bus.sending = some x) (hw : x.won = true)
    (hm : x.msg = .claim n) (hh : s.ownHolding = 0) (hu : n ≤ s.shelf.budget) (ha : s.shelf.admits s.station n = true)
    {u : State} (hadm : admission ((s.lineFreed x.slot).admitted n) = u) (hk : u.steady = k) (hP : P u) :
    Does (.sendOutcome a false) s k P := by
  refine does_sendOutcome hr hx hw ?_ hk hP
  rw [show outcomeOf x.msg a false = .inForce a by rw [hm]; rfl, sendDone_claim hm,
    claimOutcome_admitted (s := s.lineFreed x.slot) a hh hu ha, hadm]

theorem does_claim_refused (hr : s.resetAsserted = false) (hx : s.bus.sending = some x) (hw : x.won = true)
    (hm : x.msg = .claim n) (hh : s.ownHolding = 0) (hu : n ≤ s.shelf.budget) (ha : s.shelf.admits s.station n = false) :
    Does (.sendOutcome a false) s { s.steady with line := none, shelf := s.listed n } fun u =>
      (s.claim.giveUp = false → u.claim.state = .waiting) ∧ (s.claim.giveUp = true → s.GivesUp u) := by
  have hwait := waits_listed s n
  refine does_sendOutcome (u := ((s.lineFreed x.slot).onShelf fun _ => s.listed n).turnedDown) hr hx hw ?_
    (steady_turnedDown _) ⟨fun hg => ?_, fun hg => ?_⟩
  · rw [show outcomeOf x.msg a false = .inForce a by rw [hm]; rfl, sendDone_claim hm]
    exact claimOutcome_refused (s := s.lineFreed x.slot) a hh hu ha
  · exact (turnedDown_keeps (s := (s.lineFreed x.slot).onShelf fun _ => s.listed n) hg).1.trans (if_pos hwait)
  · exact turnedDown_place (s := (s.lineFreed x.slot).onShelf fun _ => s.listed n) hg hwait

/-- R61: an own CLAIM that comes into force nowhere. -/
theorem fails_claim (hr : s.resetAsserted = false) (hx : s.bus.sending = some x) (hw : x.won = true)
    (hm : x.msg = .claim n) (hs : s.claim.state = .asking) (h₁ : P (s.lineFreed x.slot).turnedDown)
    (h₂ : P (s.lineSpoiled x.slot).turnedDown) :
    Does (.sendOutcome a true) s { s.steady with line := none } P
      ∧ Does .sendSpoiled s { s.steady with line := none, counters := s.sent 2 } P :=
  fails_of (k := id) (u := ownClaimFailed) hr hx hw (by rw [hm]; rfl)
    (fun o ho v => by rw [sendDone_claim hm, claimOutcome, came_of_failed ho]; rfl)
    steady_ownClaimFailed (by rw [ownClaimFailed_eq (s := s.lineFreed _) hs]; exact h₁)
    (by rw [ownClaimFailed_eq (s := s.lineSpoiled _) hs]; exact h₂)

end

/-- Settles O9. -/
theorem ownClaimIsDecidedInOwnTables : Obligations.OwnClaimIsDecidedInOwnTables := by
  unfold Obligations.OwnClaimIsDecidedInOwnTables
  refine ⟨fun b s c ht hc => ?test, ?outcome⟩
  case test =>
    obtain ⟨w, hbasis, hset, hcost, hstate, hasks, hwas⟩ := claimTest_settle b ht hc
    intro t
    refine ⟨fun h₁ h₂ h₃ h₄ h₅ h₆ h₇ => ?_, fun hs ha => ?_⟩
    · have hw : w.claimConditions = true :=
        (claimConditions_of_basis hbasis).trans ((claimConditions_iff hset).mpr ⟨h₁, h₂, h₃, h₄, h₅, h₆, h₇⟩)
      obtain ⟨hne, hadmits⟩ := testClaim_spec hw
      obtain ⟨hx, hn, -⟩ := claimBasis_iff.mp hbasis
      rw [hx, hn, hcost, ← hstate] at hadmits
      rw [← hstate] at hne
      exact ⟨hne, hadmits⟩
    · have h := hasks _ (testClaim_asks (hwas hs) (hstate.symm.trans ha))
      rw [hcost] at h
      exact h
  case outcome =>
    intro s x n a hr hx hw hm hh hu raised listed fails givesUp
    refine ⟨fun ha hd hdef had => ?_, fun ha hd hdef had => ?_, fun ha hd => ?_, fun ha => ?_, fun hs hg => ?_,
      fun hs hg => ?_⟩
    · exact does_claim_admitted hr hx hw hm hh hu ha (admission_powers hd hdef had)
        ((steady_applyPower _).trans (spinningUp_admitted s n _)) rfl
    · exact does_claim_admitted hr hx hw hm hh hu ha (admission_defers hd hdef had)
        (steady_admitted_deferred n x.slot hd) rfl
    · have hg := claim_releaseAll ((s.lineFreed x.slot).admitted n)
      rw [ownHolding_admitted] at hg
      exact does_claim_admitted hr hx hw hm hh hu ha (admission_fault hd)
        ((steady_releaseAll _).trans (steady_admitted s n _)) hg
    · exact does_claim_refused hr hx hw hm hh hu ha
    · exact fails_claim hr hx hw hm hs (turnedDown_keeps hg) (turnedDown_keeps hg)
    · exact fails_claim hr hx hw hm hs ⟨fun hp => turnedDown_place hg hp, fun hp => turnedDown_nowhere hp⟩
        ⟨fun hp => turnedDown_place hg hp, fun hp => turnedDown_nowhere hp⟩

/-! TABLE received (R54 to R57). -/

section
variable {s u v : State} {p : OutMsg → Bool} {o : Station} {a : AnswerSlot}

/-! ## A message taken back from the budget unit -/

/-- A message of form `p` has been taken back: out of the list or, where the list has none, out of the BUDGET slot; on the line
the withdrawal is held, or refused once arbitration is won (R44). -/
def State.BudgetTakenBack (p : OutMsg → Bool) (s u : State) : Prop :=
  u.claim.out = s.claim.out.filter (fun m => !p m)
    ∧ (s.claim.out.any p = true ∨ s.slotHolds .budget p = false → u.slot .budget = s.slot .budget)
    ∧ (s.claim.out.any p = false → s.slotHolds .budget p = true → s.onLine .budget = false → u.slot .budget = none)
    ∧ ∀ y, s.claim.out.any p = false → s.slotHolds .budget p = true → s.bus.sending = some y → y.slot = .budget →
        u.slot .budget = s.slot .budget
          ∧ u.bus.sending = some { y with withdrawal := if y.won then .refused else .held }

/-- The budget unit's list and slot are as they were, and the line too where it carries the BUDGET slot's message. -/
structure SameAsk (s u : State) : Prop where
  out : u.claim.out = s.claim.out
  slot : u.slot .budget = s.slot .budget
  onLine : u.onLine .budget = s.onLine .budget
  sending : ∀ y, s.bus.sending = some y → y.slot = .budget → u.bus.sending = some y

theorem takenBack_budgetRetract (p : OutMsg → Bool) (s : State) : s.BudgetTakenBack p (budgetRetract p s).2 := by
  obtain ⟨-, hout, hbus, htaken⟩ := budgetRetract_spec p s
  refine ⟨hout, fun h => ?_, fun ha hh ho => ?_, fun y ha hh hy hslot => ?_⟩
  · cases ha : s.claim.out.any p with
    | true => exact congrArg (·.slots.get .budget) (hbus ha)
    | false =>
      have hh : s.slotHolds .budget p = false := h.resolve_left (by rw [ha]; nofun)
      rw [(htaken ha).slot, if_neg fun hc => by rw [hh] at hc; cases hc.1]
  · rw [(htaken ha).slot, if_pos ⟨hh, ho⟩]
  · have ho : s.onLine .budget = true := by simp [State.onLine, hy, hslot]
    refine ⟨?_, ?_⟩
    · rw [(htaken ha).slot, if_neg fun hc => by rw [ho] at hc; cases hc.2]
    · rw [(htaken ha).sending, if_pos hh, hy, Option.map_some, if_pos hslot]

theorem SameAsk.before (h : SameAsk s u) (g : u.BudgetTakenBack p v) : s.BudgetTakenBack p v := by
  obtain ⟨hout, hkeep, hgone, hline⟩ := g
  have hholds : u.slotHolds .budget p = s.slotHolds .budget p := slotHolds_of_slot h.slot p
  rw [h.out] at hout hkeep hgone hline
  rw [hholds] at hkeep hgone hline
  rw [h.onLine] at hgone
  exact ⟨hout, fun hc => (hkeep hc).trans h.slot, hgone, fun y ha hh hy hs =>
    ⟨(hline y ha hh (h.sending y hy hs) hs).1.trans h.slot, (hline y ha hh (h.sending y hy hs) hs).2⟩⟩

theorem onLine_of_line (h : u.steady.line = s.steady.line) (i : SlotId) : u.onLine i = s.onLine i := by
  have hl : u.bus.sending.map (fun t => (t.slot, t.msg, t.frame, t.won)) =
    s.bus.sending.map fun t => (t.slot, t.msg, t.frame, t.won) := h
  unfold State.onLine
  cases hs : s.bus.sending <;> cases hu : u.bus.sending <;> simp_all

theorem sending_watchRetract {y : Sending} (hy : s.bus.sending = some y) (hs : y.slot ≠ .watch) :
    (watchRetract p s).2.bus.sending = some y := by
  unfold watchRetract
  split
  · exact hy
  · rw [(withdraw_spec .watch p s).1.sending, hy, Option.map_some, if_neg hs, ite_self]

theorem sending_heard {y : Sending} (o : Station) (hy : s.bus.sending = some y) (hs : y.slot ≠ .watch) :
    (heard o s).bus.sending = some y := by
  unfold heard
  exact sending_watchRetract (by split <;> exact hy) hs

theorem sameAsk_heard (o : Station) (s : State) : SameAsk s (heard o (s.answers .acknowledge)) where
  out := by rw [claim_heard]; rfl
  slot := (slot_heard_other (by decide) o _).trans rfl
  onLine := onLine_of_line ((congrArg Steady.line (steady_heard_acknowledged o s)).trans rfl) .budget
  sending := fun y hy hs => sending_heard o hy (by rw [hs]; decide)

/-! ## A TABLE at a COMPLETE station (R56) -/

theorem tableInForce_complete (t : TableBody) (h : s.shelf.census = .complete) :
    tableInForce t s = (budgetRetract (isTableFor t.querier) s).2 := if_neg (by rw [h]; decide)

theorem claim_budgetRetract (p : OutMsg → Bool) (s : State) :
    (budgetRetract p s).2.claim = { s.claim with out := (budgetRetract p s).2.claim.out } := by
  have h := (budgetRetract_spec p s).1
  exact congrArg (·.claim) h

/-! ## Adoption (R55) -/

/-- The tables after adoption, with what R55 clears of the budget unit. -/
def State.adopting (t : TableBody) (n : Nat) (s : State) : State :=
  (s.onShelf fun x => x.adopt t s.station n).onClaim fun c => { c with tableTimer := none }

theorem tableInForce_incomplete {c : Settings} (t : TableBody) (h : s.shelf.census = .incomplete) (hc : s.settings = some c) :
    tableInForce t s = enterListening (budgetRetract isQuery (s.adopting t c.budget)).2 := by
  rw [tableInForce, if_pos h]
  unfold adoptTable
  rw [hc]
  rfl

theorem steady_adopted (t : TableBody) (n : Nat) (s : State) :
    (enterListening (budgetRetract isQuery (s.adopting t n)).2).steady =
      { s.steady with
        power := .listening, listeningSince := s.tick, tableTimer := none, shelf := s.shelf.adopt t s.station n } := by
  have hst : (budgetRetract isQuery (s.adopting t n)).2.steady =
    { s.steady with tableTimer := none, shelf := s.shelf.adopt t s.station n } := steady_budgetRetract _ _
  have htick : (budgetRetract isQuery (s.adopting t n)).2.tick = s.tick := (congrArg Steady.tick hst).trans rfl
  rw [steady_enterListening, htick, hst]

theorem sameAsk_adopting (t : TableBody) (n : Nat) (s : State) : SameAsk s (s.adopting t n) where
  out := rfl
  slot := rfl
  onLine := rfl
  sending := fun _ hy _ => hy

theorem placeAwake_line (s : State) :
    (placeAwake s).slot .budget = s.slot .budget ∧ (placeAwake s).bus.sending = s.bus.sending
      ∧ (placeAwake s).claim = s.claim := by
  unfold placeAwake
  split
  · split
    · exact ⟨rfl, rfl, rfl⟩
    · split <;> exact ⟨rfl, rfl, rfl⟩
  · exact ⟨rfl, rfl, rfl⟩

theorem enterListening_line (s : State) :
    (enterListening s).slot .budget = s.slot .budget ∧ (enterListening s).bus.sending = s.bus.sending
      ∧ (enterListening s).claim = s.claim := by
  unfold enterListening
  exact placeAwake_line _

theorem State.BudgetTakenBack.after (h : s.BudgetTakenBack p u) (hslot : v.slot .budget = u.slot .budget)
    (hline : v.bus.sending = u.bus.sending) (hclaim : v.claim = u.claim) : s.BudgetTakenBack p v := by
  unfold State.BudgetTakenBack
  rw [hslot, hline, hclaim]
  exact h

theorem slot_budgetRetract_other {i : SlotId} (h : i ≠ .budget) (p : OutMsg → Bool) (s : State) :
    (budgetRetract p s).2.slot i = s.slot i := by
  unfold budgetRetract
  split
  · rfl
  · exact slot_withdraw_other h p s

theorem presence_enterListening (h : s.slot .presence = none) : (enterListening s).slot .presence = some .awake :=
  slot_placeAwake rfl h

end

/-- Settles O20. -/
theorem tableIsAdoptedOnce : Obligations.TableIsAdoptedOnce := by
  unfold Obligations.TableIsAdoptedOnce
  intro takenBack
  refine ⟨fun s o p x c a ht ho hset hp ha => ⟨fun hc => ?adopted, fun hc => ?ignored⟩, ?stray⟩
  case adopted =>
    have heard_set : (heard o (s.answers .acknowledge)).settings = some c :=
      (congrArg Steady.settings (steady_heard_acknowledged o s)).trans hset
    have heard_census : (heard o (s.answers .acknowledge)).shelf.census = .incomplete :=
      (congrArg (·.shelf.census) (steady_heard_acknowledged o s)).trans hc
    have hf := (hear_taken (effect := fun t _ s => tableInForce t s) ht ho hp ha).trans
      (tableInForce_incomplete x heard_census heard_set)
    have hsame := sameAsk_heard o s
    have hst := steady_heard_acknowledged o s
    have hpres : (heard o (s.answers .acknowledge)).slot .presence = s.slot .presence :=
      slot_heard_other (by decide) o _
    have hclaim : (heard o (s.answers .acknowledge)).claim = s.claim := claim_heard o _
    generalize heard o (s.answers .acknowledge) = w at *
    refine does_event (notReset_of_takesPart ht) rfl hf ?_ ⟨?_, ?_, fun hn => ?_⟩
    · rw [steady_adopted, hst]
      obtain ⟨hshelf, hnum, htick⟩ : w.shelf = s.shelf ∧ w.station = s.station ∧ w.tick = s.tick :=
        ⟨congrArg Steady.shelf hst, congrArg Steady.station hst, congrArg Steady.tick hst⟩
      rw [hshelf, hnum, htick]
      simp [Shelf.adopt, bne, beq_eq_decide]
    · have hback := (takenBack_budgetRetract isQuery (w.adopting x c.budget))
      obtain ⟨h₁, h₂, h₃⟩ := enterListening_line (budgetRetract isQuery (w.adopting x c.budget)).2
      exact hsame.before ((sameAsk_adopting x c.budget w).before (hback.after h₁ h₂ h₃))
    · obtain ⟨-, -, h₃⟩ := enterListening_line (budgetRetract isQuery (w.adopting x c.budget)).2
      rw [h₃, claim_budgetRetract]
      exact (congrArg ClaimUnit.state hclaim :)
    · refine presence_enterListening ?_
      rw [slot_budgetRetract_other (by decide)]
      exact hpres.trans hn
  case ignored =>
    have heard_census : (heard o (s.answers .acknowledge)).shelf.census = .complete :=
      (congrArg (·.shelf.census) (steady_heard_acknowledged o s)).trans hc
    have hf := (hear_taken (effect := fun t _ s => tableInForce t s) ht ho hp ha).trans
      (tableInForce_complete x heard_census)
    refine does_event (notReset_of_takesPart ht) rfl hf ?_ ⟨?_, ?_⟩
    · rw [steady_budgetRetract, steady_heard_acknowledged]
    · exact (sameAsk_heard o s).before (takenBack_budgetRetract _ _)
    · rw [claim_budgetRetract, claim_heard]
      rfl
  case stray =>
    intro b s ht hc hn t gives
    obtain ⟨h₁, h₂⟩ := settle_releasesStray b ht hc hn
    exact ⟨fun hh => ⟨(h₁ hh).state, (h₁ hh).asks⟩, fun hh hw => ⟨(h₂ hh hw).state, (h₂ hh hw).asks⟩⟩

/-! The resync wake through the tests (R155). -/

section
variable {s u v : State} {k : Key} {st : Status}

/-! ## What the lane leaves of the mirror unit -/

/-- The dirty map and the MIRROR slot are as they were, and no message has left the mirror unit's list. -/
structure Grows (s u : State) : Prop where
  dirty : u.mirror.dirty = s.mirror.dirty
  slot : u.slot .mirror = s.slot .mirror
  out : ∀ m ∈ s.mirror.out, m ∈ u.mirror.out

theorem Grows.refl (s : State) : Grows s s := ⟨rfl, rfl, fun _ h => h⟩

theorem Grows.trans (h : Grows s u) (g : Grows u v) : Grows s v :=
  ⟨g.dirty.trans h.dirty, g.slot.trans h.slot, fun m hm => g.out m (h.out m hm)⟩

theorem grows_foldl {α : Type} (f : State → α → State) (hf : ∀ s a, Grows s (f s a)) :
    ∀ (l : List α) (s : State), Grows s (l.foldl f s)
  | [], s => .refl s
  | a :: l, s => (hf s a).trans (grows_foldl f hf l (f s a))

theorem grows_setBehind (s : State) : Grows s (setBehind s) := by
  obtain ⟨b, h, -⟩ := setBehind_eq s
  rw [h]
  exact ⟨rfl, rfl, fun _ h => h⟩

theorem grows_readWake (s : State) : Grows s (readWake s) := by
  unfold readWake
  split
  · split
    · exact ⟨rfl, rfl, fun _ h => List.mem_append_left _ h⟩
    · exact .refl s
  · exact .refl s

/-- An end that marks nothing. -/
theorem grows_endEntry (k : Key) (h : marksAtEnd st = false) (s : State) : Grows s (endEntry k st s) := by
  unfold endEntry
  split
  · exact .refl s
  · rename_i e _
    have hplain : ∀ v : State, Grows v (if e.kind = .write then dropCopy k v else v) := fun v => by
      split
      · exact ⟨rfl, rfl, fun _ h => h⟩
      · exact .refl v
    have hend : Grows s ((s.onEntry k fun e => { e with state := .ending, status := some st, send := none }).onRequest
        fun r => { r with out := r.out ++ [.entryDone k] }) := ⟨rfl, rfl, fun _ h => h⟩
    dsimp only
    rw [if_neg (c := e.kind = .write ∧ marksAtEnd st = true) (by simp [h])]
    split
    · exact hend.trans ((hplain _).trans (grows_readWake _))
    · exact hend.trans (hplain _)

theorem runFailure_unmarked {e : Entry} (h : s.runFailure e = some st) : marksAtEnd st = false := by
  unfold State.runFailure at h
  split at h
  case h_1 | h_2 | h_3 =>
    split at h
    · cases h
      rfl
    · cases h
  all_goals cases h

theorem grows_runChecks (s : State) : Grows s (runChecks s) := by
  unfold runChecks
  refine grows_foldl _ (fun v k => ?_) _ s
  split
  · split
    · split
      · rename_i hf
        exact grows_endEntry k (runFailure_unmarked hf) v
      · exact .refl v
    · exact .refl v
  · exact .refl v

theorem grows_checkResyncBegin (e : Entry) (n : Nat) (s : State) : Grows s (checkResyncBegin e n s) := by
  unfold checkResyncBegin
  split
  · exact (grows_setBehind s).trans (grows_endEntry _ rfl _)
  · exact grows_endEntry _ rfl s

theorem grows_checkPromote (e : Entry) (s : State) : Grows s (checkPromote e s) := by
  unfold checkPromote
  split
  · split
    · exact .refl s
    · exact grows_endEntry _ rfl s
  · split
    · exact ⟨rfl, rfl, fun _ h => h⟩
    · exact grows_endEntry _ rfl s

theorem grows_handSpecials (s : State) : Grows s (handSpecials s) := by
  unfold handSpecials
  refine grows_foldl _ (fun v k => ?_) _ s
  split
  · split
    · split
      · exact grows_checkResyncBegin _ _ v
      · exact grows_checkPromote _ v
      all_goals exact .refl v
    · exact .refl v
  · exact .refl v

theorem grows_takePages (s : State) : Grows s (takePages s) := by
  unfold takePages
  split
  · split
    · dsimp only
      split <;> exact ⟨rfl, rfl, fun _ h => h⟩
    · exact .refl s
  · exact .refl s

theorem grows_sendRecordWork (s : State) : Grows s (sendRecordWork s) := by
  unfold sendRecordWork
  split
  · exact ⟨rfl, rfl, fun _ h => h⟩
  · split <;> exact ⟨rfl, rfl, fun _ h => h⟩

theorem grows_sendChunkRead (s : State) : Grows s (sendChunkRead s) := by
  unfold sendChunkRead
  split <;> exact ⟨rfl, rfl, fun _ h => h⟩

theorem grows_runEntry (e : Entry) (s : State) : Grows s (runEntry e s) := ⟨rfl, rfl, fun _ h => h⟩

theorem grows_chooseCommand (s : State) : Grows s (chooseCommand s) := by
  unfold chooseCommand
  split
  · split
    · exact grows_sendRecordWork s
    · split
      · exact grows_sendChunkRead s
      · dsimp only
        split
        · exact (grows_runChecks s).trans (grows_runEntry _ _)
        · split
          · exact (grows_runChecks s).trans (grows_sendChunkRead _)
          · exact grows_runChecks s
  · exact .refl s

theorem grows_settleLane (s : State) : Grows s (settleLane s) :=
  (grows_handSpecials s).trans ((grows_takePages _).trans (grows_chooseCommand _))

theorem grows_settlePages (s : State) : Grows s (settlePages s) := (grows_takePages s).trans (grows_chooseCommand _)

theorem grows_orderFresh (n : Nat) (s : State) : Grows s (orderFresh n s) := ⟨rfl, rfl, fun _ h => h⟩

theorem grows_orderMirror (l : List OutMsg) (s : State) : Grows s (orderMirror l s) :=
  ⟨rfl, rfl, fun _ h => (mem_orderMirror _ _ _).mpr h⟩

theorem grows_placeRequest (s : State) : Grows s (placeRequest s) := by
  unfold placeRequest
  split
  · dsimp only
    split <;> exact ⟨rfl, slot_putSlot_other _ _ (by decide), fun _ h => h⟩
  · exact .refl s

theorem grows_placeResync (s : State) : Grows s (placeResync s) := by
  unfold placeResync
  split
  · split
    · dsimp only
      split <;> exact ⟨rfl, slot_putSlot_other _ _ (by decide), fun _ h => h⟩
    · exact .refl s
  · exact .refl s

/-! ## A message of the mirror unit that waits -/

/-- A message of some form waits in the mirror unit's list or in the MIRROR slot. -/
def State.Holds (p : OutMsg → Bool) (s : State) : Prop := s.mirror.out.any p = true ∨ s.slotHolds .mirror p = true

theorem Grows.holds {p : OutMsg → Bool} (h : Grows s u) (hs : s.Holds p) : u.Holds p := by
  refine hs.imp (fun ho => ?_) fun hh => ?_
  · obtain ⟨m, hm, hp⟩ := List.any_eq_true.mp ho
    exact List.any_eq_true.mpr ⟨m, h.out m hm, hp⟩
  · rw [slotHolds_of_slot h.slot]
    exact hh

theorem placeMirror_keeps (p : OutMsg → Bool) (s : State) :
    (placeMirror s).mirror.dirty = s.mirror.dirty ∧ (s.Holds p → (placeMirror s).Holds p) := by
  unfold placeMirror
  split
  · rename_i m rest hs hout
    have hkeep : s.Holds p → ((s.onMirror fun x => { x with out := rest }).putSlot .mirror (some m)).Holds p := by
      intro h
      have hslot : ((s.onMirror fun x => { x with out := rest }).putSlot .mirror (some m)).slot .mirror = some m :=
        get_set _ .mirror (some m)
      rcases h with h | h
      · rw [hout, List.any_cons, Bool.or_eq_true] at h
        rcases h with h | h
        · exact .inr (by rw [State.slotHolds, hslot]; exact h)
        · exact .inl h
      · simp [State.slotHolds, hs] at h
    dsimp only
    split <;> exact ⟨rfl, hkeep⟩
  · exact ⟨rfl, id⟩

/-! ## The test for a resync wake -/

/-- R155: the conditions of the resync wake but for one that waits already. -/
def State.wantsWake (p : Station) (c : Settings) (s : State) : Prop :=
  s.mirror.role = .primary ∧ c.wakeThreshold ≠ 0 ∧ c.wakeThreshold ≤ s.dirtyCount
    ∧ (s.presence p).state = .sleeping ∧ s.mirror.wakeInterval = none

theorem resyncWakeTest_eq {p : Station} {c : Settings} (hp : s.partner = some p) (hc : s.settings = some c) :
    resyncWakeTest s =
      if s.mirror.role = .primary ∧ c.wakeThreshold ≠ 0 ∧ c.wakeThreshold ≤ s.dirtyCount
          ∧ (s.presence p).state = .sleeping ∧ s.mirror.wakeInterval = none
          ∧ !(s.mirror.out.any isResyncWake || s.slotHolds .mirror isResyncWake) then
        mirrorReady (.wake (1#16 <<< p.val) .resync) s
      else s := by
  unfold resyncWakeTest
  rw [hp, hc]

theorem resyncWakeTest_keeps (s : State) : (resyncWakeTest s).mirror.dirty = s.mirror.dirty := by
  unfold resyncWakeTest
  split
  · split <;> rfl
  · rfl

theorem resyncWakeTest_holds {p : Station} {c : Settings} (hp : s.partner = some p) (hc : s.settings = some c)
    (hw : s.wantsWake p c) : (resyncWakeTest s).Holds isResyncWake := by
  obtain ⟨hr, h₀, h₁, hs, hi⟩ := hw
  rw [resyncWakeTest_eq hp hc]
  split
  · exact .inl (by simp [mirrorReady, State.onMirror, isResyncWake])
  · rename_i hn
    have hheld : (s.mirror.out.any isResyncWake || s.slotHolds .mirror isResyncWake) = true := by
      by_contra hf
      exact hn ⟨hr, h₀, h₁, hs, hi, by simpa using hf⟩
    simpa [State.Holds] using hheld

/-! ## The resync wake at the end of the tests -/

/-- What the mirror unit's own tests leave before the test for a resync wake. -/
def linked (b s : State) : State := startResync (dropPromotion (judgeLink (hotAction (edged b s))))

theorem worked_linked (b s : State) : worked b s =
    settlePages (placeResync (placeMirror (placeRequest (orderMirror b.mirror.out (orderFresh b.request.out.length
      (settleLane (resyncWakeTest (linked b s)))))))) := rfl

theorem worked_keeps (p : OutMsg → Bool) (b s : State) :
    (worked b s).mirror.dirty = (resyncWakeTest (linked b s)).mirror.dirty
      ∧ ((resyncWakeTest (linked b s)).Holds p → (worked b s).Holds p) := by
  rw [worked_linked]
  generalize resyncWakeTest (linked b s) = w
  have h₁ : Grows w (placeRequest (orderMirror b.mirror.out (orderFresh b.request.out.length (settleLane w)))) :=
    (grows_settleLane w).trans ((grows_orderFresh _ _).trans ((grows_orderMirror _ _).trans (grows_placeRequest _)))
  generalize placeRequest (orderMirror b.mirror.out (orderFresh b.request.out.length (settleLane w))) = x at *
  obtain ⟨hd, hh⟩ := placeMirror_keeps p x
  generalize placeMirror x = y at *
  have h₂ : Grows y (settlePages (placeResync y)) := (grows_placeResync y).trans (grows_settlePages _)
  exact ⟨h₂.dirty.trans (hd.trans h₁.dirty), fun h => h₂.holds (hh (h₁.holds h))⟩

theorem mirror_of_offClaim (h : u.offClaim = s.offClaim) : u.mirror = s.mirror ∧ u.slot .mirror = s.slot .mirror :=
  have hm : u.offClaim.mirror = s.offClaim.mirror := congrArg (·.mirror) h
  have hs : u.offClaim.slot .mirror = s.offClaim.slot .mirror := congrArg (State.slot .mirror) h
  ⟨hm, hs⟩

theorem mirror_of_offWatch (h : u.offWatch = s.offWatch) : u.mirror = s.mirror ∧ u.slot .mirror = s.slot .mirror :=
  have hm : u.offWatch.mirror = s.offWatch.mirror := congrArg (·.mirror) h
  have hs : u.offWatch.slot .mirror = s.offWatch.slot .mirror := congrArg (State.slot .mirror) h
  ⟨hm, hs⟩

theorem mirror_of_offAnnounce (h : u.offAnnounce = s.offAnnounce) : u.mirror = s.mirror ∧ u.slot .mirror = s.slot .mirror :=
  have hm : u.offAnnounce.mirror = s.offAnnounce.mirror := congrArg (·.mirror) h
  have hs : u.offAnnounce.slot .mirror = s.offAnnounce.slot .mirror := congrArg (State.slot .mirror) h
  ⟨hm, hs⟩

theorem mirror_reportNeed (s : State) : (reportNeed s).mirror = s.mirror ∧ (reportNeed s).slot .mirror = s.slot .mirror :=
  ⟨rfl, rfl⟩

theorem mirror_updateIdle (s : State) : (updateIdle s).mirror = s.mirror ∧ (updateIdle s).slot .mirror = s.slot .mirror :=
  ⟨rfl, rfl⟩

/-- The tests after the lane's leave the mirror unit and its slot. -/
theorem mirror_settle (b : State) (h : s.takesPart = true) :
    (settle b s).mirror = (worked b s).mirror ∧ (settle b s).slot .mirror = (worked b s).slot .mirror := by
  have h₁ := mirror_of_offAnnounce (offAnnounce_announceChange b (settleWatch b.watch.out (updateIdle (budgeted b s))))
  have h₂ := mirror_of_offWatch (offWatch_settleWatch b.watch.out (updateIdle (budgeted b s)))
  have h₃ := mirror_updateIdle (budgeted b s)
  have h₄ := mirror_of_offClaim (offClaim_settleBudget (reportNeed (worked b s)))
  have h₅ := mirror_reportNeed (worked b s)
  rw [settle_eq b h]
  exact ⟨h₁.1.trans (h₂.1.trans (h₃.1.trans (h₄.1.trans h₅.1))), h₁.2.trans (h₂.2.trans (h₃.2.trans (h₄.2.trans h₅.2)))⟩

theorem steady_linked (b s : State) : (linked b s).steady = s.steady := by simp [linked, edged]

theorem presenceState_of_steady (h : u.steady = s.steady) (n : Station) : (u.presence n).state = (s.presence n).state := by
  have hn : u.station = s.station := congrArg Steady.station h
  have hp : u.power = s.power := congrArg Steady.power h
  have hv : u.peers = s.peers := congrArg Steady.peers h
  unfold State.presence
  rw [hn, hv]
  split
  · unfold State.ownEntry
    rw [hp]
  · rfl

theorem wantsWake_of_steady {p : Station} {c : Settings} (hst : u.steady = s.steady) (hd : u.mirror.dirty = s.mirror.dirty)
    (h : s.wantsWake p c) : u.wantsWake p c := by
  have hr : u.mirror.role = s.mirror.role := congrArg Steady.role hst
  have hp := presenceState_of_steady hst p
  have hi : u.mirror.wakeInterval = s.mirror.wakeInterval := congrArg Steady.wakeInterval hst
  unfold State.wantsWake State.dirtyCount at *
  rw [hr, hp, hi, hd]
  exact h

/-- R155: after the tests no resync wake that is called for is missing. -/
theorem resyncWake_settle {p : Station} {c : Settings} (b : State) (ht : s.takesPart = true) (hp : s.partner = some p)
    (hc : s.settings = some c) (hw : (settle b s).wantsWake p c) : (settle b s).Holds isResyncWake := by
  obtain ⟨hm, hslot⟩ := mirror_settle b ht
  obtain ⟨hd, hh⟩ := worked_keeps isResyncWake b s
  have hst := steady_linked b s
  have hset := steady_settle s b
  have hdirty : (linked b s).mirror.dirty = (settle b s).mirror.dirty :=
    (resyncWakeTest_keeps _).symm.trans (hd.symm.trans (congrArg MirrorUnit.dirty hm).symm)
  have hlast : (worked b s).Holds isResyncWake → (settle b s).Holds isResyncWake := fun h => by
    unfold State.Holds
    rw [hm, slotHolds_of_slot hslot]
    exact h
  generalize linked b s = w at *
  have hpw : w.partner = some p := (partner_of_steady (congrArg Steady.settings hst)).trans hp
  have hcw : w.settings = some c := (congrArg Steady.settings hst).trans hc
  exact hlast (hh (resyncWakeTest_holds hpw hcw (wantsWake_of_steady (hst.trans hset.symm) hdirty hw)))

end

/-! The outcome of an own message at its owner (R16). -/

section
variable {s : State} {x : Sending} {m : OutMsg} {d : Station} {mask : BitVec 16} {n : Station}

theorem outcomeOf_targeted (h : m.dest = some d) : outcomeOf m true true = .taken ∧ outcomeOf m true false = .taken
    ∧ outcomeOf m false true = .busy ∧ outcomeOf m false false = .unanswered := by
  simp [outcomeOf, h]

theorem outcomeOf_broadcast (h : m.dest = none) (a : Bool) :
    outcomeOf m a false = .inForce a ∧ outcomeOf m a true = .objected a := by
  simp [outcomeOf, h]

theorem lineSpoiled_eq (i : SlotId) (s : State) : s.lineSpoiled i =
    { s with bus := { s.bus with
        sending := none, slots := s.bus.slots.set i none
        spoiled := if s.power = .unset ∨ s.power = .sleeping then s.bus.spoiled else satInc s.bus.spoiled } } := rfl

/-- Both failures of a broadcast, whatever its acknowledge bit (see `fails_of`). -/
theorem fails_all {k : Steady → Steady} {u : State → State} {P : State → Prop} (hr : s.resetAsserted = false)
    (hx : s.bus.sending = some x) (hw : x.won = true) (hd : x.msg.dest = none)
    (hu : ∀ o, (∃ a, o = .objected a) ∨ o = .spoiled → ∀ v, sendDone x o v = u v)
    (hk : ∀ v, (u v).steady = k v.steady) (h₁ : P (u (s.lineFreed x.slot))) (h₂ : P (u (s.lineSpoiled x.slot))) :
    (∀ a, Does (.sendOutcome a true) s (k { s.steady with line := none }) P)
      ∧ Does .sendSpoiled s (k { s.steady with line := none, counters := s.sent 2 }) P :=
  ⟨fun a => (fails_of (a := a) hr hx hw hd hu hk h₁ h₂).1, (fails_of (a := false) hr hx hw hd hu hk h₁ h₂).2⟩

/-- A message in force at its sender. -/
theorem does_inForce {a : Bool} {k : Steady} {P : State → Prop} (hr : s.resetAsserted = false)
    (hx : s.bus.sending = some x) (hw : x.won = true) (hd : x.msg.dest = none) {u : State}
    (hu : sendDone x (.inForce a) (s.lineFreed x.slot) = u) (hk : u.steady = k) (hP : P u) :
    Does (.sendOutcome a false) s k P :=
  does_sendOutcome hr hx hw (by rw [(outcomeOf_broadcast hd a).1]; exact hu) hk hP

theorem acked_of_failed {o : SendOutcome} : ((∃ a, o = .objected a) ∨ o = .spoiled) → o.acked = false := by
  rintro (⟨a, rfl⟩ | rfl) <;> rfl

/-! ## TABLE -/

theorem sendDone_table {q : Station} (hm : x.msg = .table q) (o : SendOutcome) (s : State) :
    sendDone x o s = if o.came then s else readyTable q s := by
  simp only [sendDone, hm, tableOutcome]

theorem readyTable_waits {q : Station} (h : s.claim.out.any (isTableFor q) = true) : readyTable q s = s :=
  if_pos (by rw [State.budgetPending, h]; rfl)

theorem out_readyTable {q : Station} (h : s.claim.out.any (isTableFor q) = false) (hs : s.slot .budget = none) :
    (readyTable q s).claim.out = s.claim.out ++ [.table q] := by
  unfold readyTable
  rw [if_neg (by simp only [State.budgetPending, h, State.slotHolds, hs]; nofun)]
  rfl

/-! ## WAKE -/

theorem sendDone_wake {why : WakeWhy} (hm : x.msg = .wake mask why) (o : SendOutcome) (s : State) :
    sendDone x o s = wakeOutcome mask why o s := by
  simp only [sendDone, hm]

theorem wakeOutcome_failed {o : SendOutcome} (why : WakeWhy) (ho : o.came = false) (ha : o.acked = false) (s : State) :
    wakeOutcome mask why o s = match why with
      | .proxy => if s.duty then watchReady (.wake mask .proxy) s else s
      | .resync => mirrorReady (.wake mask .resync) s
      | .read => mirrorReady (.wake mask .read) s := by
  unfold wakeOutcome proxyWakeOutcome
  rw [ho, ha]
  cases why <;> rfl

theorem duty_markWaking (mask : BitVec 16) (s : State) : (markWaking mask s).duty = s.duty :=
  duty_of_steadies (steady_markWaking mask s)

theorem mirror_markWaking (mask : BitVec 16) (s : State) : (markWaking mask s).mirror = s.mirror := by
  by_cases h : s.duty = true
  · rw [markWaking, if_pos h]
    rfl
  · rw [markWaking, if_neg h]

theorem steady_proxyWake (mask : BitVec 16) (o : SendOutcome) (s : State) : (proxyWakeOutcome mask o s).steady = s.steady := by
  unfold proxyWakeOutcome
  split
  · split <;> rfl
  · rfl

theorem marks_markWaking (mask : BitVec 16) (hd : s.duty = true) (n : Station) : (markWaking mask s).watch.marks[n] =
    if mask.getLsbD n.val ∧ n ≠ s.station ∧ s.peers[n].state = .sleeping then
      { s.watch.marks[n] with waking := some s.tick }
    else s.watch.marks[n] := by
  unfold markWaking
  rw [if_pos hd]
  exact Vector.getElem_ofFn n.isLt

theorem marks_proxyWake (mask : BitVec 16) (a : Bool) (hd : s.duty = true) (n : Station) :
    (proxyWakeOutcome mask (.inForce a) s).watch.marks[n] =
      if mask.getLsbD n.val then { s.watch.marks[n] with lastWake := some s.tick, wakeWanted := false }
      else s.watch.marks[n] := by
  unfold proxyWakeOutcome
  rw [if_pos hd, if_pos (show (SendOutcome.inForce a).came = true from rfl)]
  exact Vector.getElem_ofFn n.isLt

theorem marks_wakeOutcome (mask : BitVec 16) (a : Bool) (hd : s.duty = true) (n : Station) :
    (wakeOutcome mask .proxy (.inForce a) s).watch.marks[n] =
      if mask.getLsbD n.val then
        { s.watch.marks[n] with
          lastWake := some s.tick, wakeWanted := false
          waking :=
            if a = true ∧ n ≠ s.station ∧ s.peers[n].state = .sleeping then some s.tick else s.watch.marks[n].waking }
      else s.watch.marks[n] := by
  have htick : (markWaking mask s).tick = s.tick := congrArg Steady.tick (steady_markWaking mask s)
  cases a with
  | false =>
    refine (marks_proxyWake mask false hd n).trans ?_
    simp
  | true =>
    refine (marks_proxyWake (s := markWaking mask s) mask true ((duty_markWaking mask s).trans hd) n).trans ?_
    rw [marks_markWaking mask hd n, htick]
    by_cases hb : mask.getLsbD n.val = true
    · simp only [hb, if_true, true_and]
      split <;> rfl
    · rw [if_neg hb, if_neg hb, if_neg fun h => hb h.1]

theorem wakeOutcome_resync (a : Bool) (s : State) :
    (wakeOutcome mask .resync (.inForce a) s).steady =
        { s.steady with wakeInterval := if s.mirror.role = .primary then some s.tick else s.mirror.wakeInterval }
      ∧ (wakeOutcome mask .resync (.inForce a) s).mirror.out = s.mirror.out := by
  have hw : ∀ v : State, v.steady = s.steady → v.mirror.out = s.mirror.out →
      let u := if v.mirror.role = .primary then v.onMirror fun m => { m with wakeInterval := some v.tick } else v
      u.steady = { s.steady with
          wakeInterval := if s.mirror.role = .primary then some s.tick else s.mirror.wakeInterval }
        ∧ u.mirror.out = s.mirror.out := by
    intro v hv ho
    have hr : v.mirror.role = s.mirror.role := congrArg Steady.role hv
    have ht : v.tick = s.tick := congrArg Steady.tick hv
    dsimp only
    rw [hr, ht]
    split
    · refine ⟨?_, ho⟩
      rw [← hv]
      rfl
    · exact ⟨hv, ho⟩
  cases a with
  | false => exact hw s rfl rfl
  | true => exact hw _ (steady_markWaking mask s) (congrArg MirrorUnit.out (mirror_markWaking mask s))

theorem wakeOutcome_read (a : Bool) (s : State) :
    (wakeOutcome mask .read (.inForce a) s).steady = s.steady
      ∧ (wakeOutcome mask .read (.inForce a) s).mirror = s.mirror := by
  cases a with
  | false => exact ⟨rfl, rfl⟩
  | true => exact ⟨steady_markWaking mask s, mirror_markWaking mask s⟩

/-! ## ABSENT -/

theorem marks_endProxies (p : Station → Bool) (s : State) : (endProxies p s).watch.marks = s.watch.marks := by
  have hfold : ∀ (l : List ProxyEntry) (v : State), (l.foldl (fun s e => endProxy .notAwake e s) v).watch.marks = v.watch.marks := by
    intro l
    induction l with
    | nil => exact fun _ => rfl
    | cons e l ih => exact fun v => ih _
  exact hfold _ s

theorem sendDone_absent (hm : x.msg = .absent n) (o : SendOutcome) (s : State) : sendDone x o s = absentOutcome n o s := by
  simp only [sendDone, hm]

theorem absentOutcome_failed {o : SendOutcome} (ho : o.came = false) (hd : s.duty = true) : absentOutcome n o s =
    onMarks n (fun m => { m with absenceHold := some (tickAfter s.tick Config.holdTicks) }) s := by
  unfold absentOutcome
  rw [ho, hd]
  rfl

/-- The watch unit after a WAKE mark is cleared and the ABSENT messages for a station are taken back. -/
theorem absentInForce_watch (n : Station) (s : State) :
    (absentInForce n s).watch.marks[n].waking = none
      ∧ (∀ e ∈ (absentInForce n s).watch.proxy, e.target ≠ n)
      ∧ ∀ e ∈ s.watch.proxy, e.target = n → e.given ∈ (absentInForce n s).watch.out := by
  have hbase : ∀ v : State, (clearWaking n (noteCleared n v)).watch.marks[n].waking = none
      ∧ (clearWaking n (noteCleared n v)).watch.proxy = v.watch.proxy := fun v => by
    unfold noteCleared
    split
    · exact ⟨by simp [clearWaking, onMarks, State.onWatch], rfl⟩
    · exact ⟨by simp [clearWaking, onMarks, State.onWatch], rfl⟩
  unfold absentInForce
  dsimp only
  obtain ⟨hmark, hproxy⟩ := hbase ((s.onPeers fun v => v.set n { v[n] with state := .absent, holding := 0 }).onShelf
    fun x => x.clearStation n)
  generalize clearWaking n (noteCleared n ((s.onPeers fun v => v.set n { v[n] with state := .absent, holding := 0 }).onShelf
    fun x => x.clearStation n)) = v at *
  have hp : v.watch.proxy = s.watch.proxy := hproxy
  have hf := (watchRetract_spec (isAbsentFor n) v).1
  generalize (watchRetract (isAbsentFor n) v).2 = w at *
  obtain ⟨hout, hproxies⟩ := endProxies_spec (fun t => t == n) w
  have hw : w.watch.proxy = s.watch.proxy := by rw [hf]; exact hp
  refine ⟨?_, fun e he => ?_, fun e he hn => ?_⟩
  · rw [marks_endProxies, hf]
    exact hmark
  · rw [hproxies] at he
    simpa using (List.mem_filter.mp he).2
  · rw [hout, hw]
    exact List.mem_append_right _ (List.mem_map.mpr ⟨e, List.mem_filter.mpr ⟨he, by simpa using hn⟩, rfl⟩)

end

/-! The outcome of an own message at its owner: MIRROR-ACK, MIRROR-MISS and the whole (R16, R130). -/

section
variable {s : State} {x : Sending} {n : Nat} {next : OutMsg}

/-! ## MIRROR-ACK and MIRROR-MISS -/

/-- The message is a MIRROR-ACK or MIRROR-MISS after `n` attempts, and `next` is the same after one more. -/
def MirrorAnswer (m : OutMsg) (n : Nat) (next : OutMsg) : Prop :=
  ∃ (d : Station) (k : Key) (st : BlockNo) (c : Nat) (ans : Bool),
    (m = .mirrorAck d k st n ans ∧ next = .mirrorAck d k st (n + 1) ans)
      ∨ (m = .mirrorMiss d k st c n ans ∧ next = .mirrorMiss d k st c (n + 1) ans)

theorem MirrorAnswer.done (h : MirrorAnswer x.msg n next) (o : SendOutcome) (s : State) :
    sendDone x o s = mirrorAnswerOutcome n next o s := by
  obtain ⟨d, k, st, c, ans, ⟨hm, rfl⟩ | ⟨hm, rfl⟩⟩ := h <;> rw [sendDone, hm]

theorem MirrorAnswer.dest (h : MirrorAnswer x.msg n next) : ∃ d, x.msg.dest = some d := by
  obtain ⟨d, k, st, c, ans, ⟨hm, -⟩ | ⟨hm, -⟩⟩ := h <;> exact ⟨d, by rw [hm]; rfl⟩

theorem mirrorAnswerOutcome_again {o : SendOutcome} (h : n + 1 < 4) (ho : o = .busy ∨ o = .spoiled) :
    mirrorAnswerOutcome n next o s = s.onMirror fun m => { m with out := next :: m.out } := by
  rcases ho with rfl | rfl <;> exact if_pos h

theorem mirrorAnswerOutcome_ends {o : SendOutcome} (h : 4 ≤ n + 1) (ho : o = .busy ∨ o = .spoiled) :
    mirrorAnswerOutcome n next o s = s := by
  rcases ho with rfl | rfl <;> exact if_neg (Nat.not_lt.mpr h)

/-- The front of the mirror unit's list. -/
def State.Again (next : OutMsg) (s u : State) : Prop := u.mirror.out = next :: s.mirror.out ∧ u.mirror.behind = s.mirror.behind

theorem mirrorAnswer_outcome (hr : s.resetAsserted = false) (hx : s.bus.sending = some x) (hw : x.won = true)
    (hm : MirrorAnswer x.msg n next) :
    (∀ b, Does (.sendOutcome true b) s { s.steady with line := none } fun u => u.mirror = s.mirror)
      ∧ (Does (.sendOutcome false false) s { s.steady with line := none } fun u => u.mirror = s.mirror)
      ∧ (n + 1 < 4 → Does (.sendOutcome false true) s { s.steady with line := none } (s.Again next)
          ∧ Does .sendSpoiled s { s.steady with line := none, counters := s.sent 2 } (s.Again next))
      ∧ (4 ≤ n + 1 →
        (Does (.sendOutcome false true) s { s.steady with line := none } fun u => u.mirror = s.mirror)
          ∧ Does .sendSpoiled s { s.steady with line := none, counters := s.sent 2 } fun u => u.mirror = s.mirror) := by
  obtain ⟨d, hd⟩ := hm.dest
  obtain ⟨ht, ht', hbusy, hnone⟩ := outcomeOf_targeted hd
  have hsp : (s.lineSpoiled x.slot).steady = { s.steady with line := none, counters := s.sent 2 } := steady_lineSpoiled _
  refine ⟨fun b => ?_, ?_, fun h => ⟨?_, ?_⟩, fun h => ⟨?_, ?_⟩⟩
  · refine does_sendOutcome hr hx hw (u := s.lineFreed x.slot) ?_ rfl rfl
    cases b
    · rw [ht', hm.done]
      rfl
    · rw [ht, hm.done]
      rfl
  · refine does_sendOutcome hr hx hw (u := s.lineFreed x.slot) ?_ rfl rfl
    rw [hnone, hm.done]
    rfl
  · refine does_sendOutcome hr hx hw ?_ (steady_lineFreed x.slot) ?_
      (u := (s.lineFreed x.slot).onMirror fun m => { m with out := next :: m.out })
    · rw [hbusy, hm.done, mirrorAnswerOutcome_again h (.inl rfl)]
    · exact ⟨rfl, rfl⟩
  · exact does_sendSpoiled hr hx hw ((hm.done _ _).trans (mirrorAnswerOutcome_again h (.inr rfl))) hsp ⟨rfl, rfl⟩
  · refine does_sendOutcome hr hx hw (u := s.lineFreed x.slot) ?_ rfl rfl
    rw [hbusy, hm.done, mirrorAnswerOutcome_ends h (.inl rfl)]
  · exact does_sendSpoiled hr hx hw ((hm.done _ _).trans (mirrorAnswerOutcome_ends h (.inr rfl))) hsp rfl

/-! ## The broadcasts of the budget unit, the mirror unit and the watch unit -/

theorem table_outcome {q : Station} (hr : s.resetAsserted = false) (hx : s.bus.sending = some x) (hw : x.won = true)
    (hm : x.msg = .table q) (hs : x.slot = .budget) :
    (∀ a, Does (.sendOutcome a false) s { s.steady with line := none } fun u => u.claim = s.claim)
      ∧ (s.claim.out.any (isTableFor q) = false →
        (∀ a, Does (.sendOutcome a true) s { s.steady with line := none } fun u => u.claim.out = s.claim.out ++ [.table q])
          ∧ Does .sendSpoiled s { s.steady with line := none, counters := s.sent 2 }
              fun u => u.claim.out = s.claim.out ++ [.table q])
      ∧ (s.claim.out.any (isTableFor q) = true →
        (∀ a, Does (.sendOutcome a true) s { s.steady with line := none } fun u => u.claim = s.claim)
          ∧ Does .sendSpoiled s { s.steady with line := none, counters := s.sent 2 } fun u => u.claim = s.claim) := by
  have hd : x.msg.dest = none := by rw [hm]; rfl
  have hu : ∀ o, (∃ a, o = .objected a) ∨ o = .spoiled → ∀ v, sendDone x o v = readyTable q v := fun o ho v => by
    rw [sendDone_table hm, came_of_failed ho]
    rfl
  have hfreed : (s.lineFreed x.slot).slot .budget = none := by rw [hs]; exact get_set _ .budget none
  have hspoiled : (s.lineSpoiled x.slot).slot .budget = none := by rw [hs]; exact get_set _ .budget none
  refine ⟨fun a => ?_, fun h => ?_, fun h => ?_⟩
  · exact does_inForce hr hx hw hd (sendDone_table hm _ _) rfl rfl
  · exact fails_all (k := id) hr hx hw hd hu (steady_readyTable q) (out_readyTable (s := s.lineFreed x.slot) h hfreed)
      (out_readyTable (s := s.lineSpoiled x.slot) h hspoiled)
  · exact fails_all (k := id) hr hx hw hd hu (steady_readyTable q)
      (congrArg (·.claim) (readyTable_waits (s := s.lineFreed x.slot) h))
      (congrArg (·.claim) (readyTable_waits (s := s.lineSpoiled x.slot) h))

variable {mask : BitVec 16}

theorem proxyWake_outcome (hr : s.resetAsserted = false) (hx : s.bus.sending = some x) (hw : x.won = true)
    (hm : x.msg = .wake mask .proxy) (hd : s.duty = true) :
    (∀ a, Does (.sendOutcome a false) s { s.steady with line := none } fun u => ∀ n : Station, u.watch.marks[n] =
        if mask.getLsbD n.val then
          { s.watch.marks[n] with
            lastWake := some s.tick, wakeWanted := false
            waking :=
              if a = true ∧ n ≠ s.station ∧ s.peers[n].state = .sleeping then some s.tick else s.watch.marks[n].waking }
        else s.watch.marks[n])
      ∧ (∀ a, Does (.sendOutcome a true) s { s.steady with line := none }
          fun u => u.watch.out = s.watch.out ++ [.wake mask .proxy])
      ∧ Does .sendSpoiled s { s.steady with line := none, counters := s.sent 2 }
          fun u => u.watch.out = s.watch.out ++ [.wake mask .proxy] := by
  have hdest : x.msg.dest = none := by rw [hm]; rfl
  refine ⟨fun a => ?_, ?_⟩
  · refine does_inForce hr hx hw hdest (sendDone_wake hm _ _) ?_ fun n => ?_
    · cases a with
      | false => exact steady_proxyWake _ _ _
      | true => exact (steady_proxyWake _ _ _).trans (steady_markWaking _ _)
    · exact marks_wakeOutcome (s := s.lineFreed x.slot) mask a hd n
  · refine fails_all (k := id) (u := fun v => if v.duty then watchReady (.wake mask .proxy) v else v) hr hx hw hdest
      (fun o ho v => ?_) (fun v => ?_) ?_ ?_
    · rw [sendDone_wake hm, wakeOutcome_failed .proxy (came_of_failed ho) (acked_of_failed ho)]
    · split <;> rfl
    · rw [if_pos (show (s.lineFreed x.slot).duty = true from hd)]
      rfl
    · rw [if_pos (show (s.lineSpoiled x.slot).duty = true from hd)]
      rfl

theorem resyncWake_outcome (hr : s.resetAsserted = false) (hx : s.bus.sending = some x) (hw : x.won = true)
    (hm : x.msg = .wake mask .resync) :
    (∀ a, Does (.sendOutcome a false) s
        { s.steady with
          line := none, wakeInterval := if s.mirror.role = .primary then some s.tick else s.mirror.wakeInterval }
        fun u => u.mirror.out = s.mirror.out)
      ∧ (∀ a, Does (.sendOutcome a true) s { s.steady with line := none }
          fun u => u.mirror.out = s.mirror.out ++ [.wake mask .resync])
      ∧ Does .sendSpoiled s { s.steady with line := none, counters := s.sent 2 }
          fun u => u.mirror.out = s.mirror.out ++ [.wake mask .resync] := by
  have hdest : x.msg.dest = none := by rw [hm]; rfl
  refine ⟨fun a => ?_, ?_⟩
  · obtain ⟨hst, hout⟩ := wakeOutcome_resync (mask := mask) a (s.lineFreed x.slot)
    exact does_inForce hr hx hw hdest (sendDone_wake hm _ _) hst hout
  · refine fails_all (k := id) (u := mirrorReady (.wake mask .resync)) hr hx hw hdest (fun o ho v => ?_)
      (fun v => rfl) rfl rfl
    rw [sendDone_wake hm, wakeOutcome_failed .resync (came_of_failed ho) (acked_of_failed ho)]

theorem readWake_outcome (hr : s.resetAsserted = false) (hx : s.bus.sending = some x) (hw : x.won = true)
    (hm : x.msg = .wake mask .read) :
    (∀ a, Does (.sendOutcome a false) s { s.steady with line := none } fun u => u.mirror = s.mirror)
      ∧ (∀ a, Does (.sendOutcome a true) s { s.steady with line := none }
          fun u => u.mirror.out = s.mirror.out ++ [.wake mask .read])
      ∧ Does .sendSpoiled s { s.steady with line := none, counters := s.sent 2 }
          fun u => u.mirror.out = s.mirror.out ++ [.wake mask .read] := by
  have hdest : x.msg.dest = none := by rw [hm]; rfl
  refine ⟨fun a => ?_, ?_⟩
  · obtain ⟨hst, hmir⟩ := wakeOutcome_read (mask := mask) a (s.lineFreed x.slot)
    exact does_inForce hr hx hw hdest (sendDone_wake hm _ _) hst hmir
  · refine fails_all (k := id) (u := mirrorReady (.wake mask .read)) hr hx hw hdest (fun o ho v => ?_)
      (fun v => rfl) rfl rfl
    rw [sendDone_wake hm, wakeOutcome_failed .read (came_of_failed ho) (acked_of_failed ho)]

theorem absent_outcome {n : Station} (hr : s.resetAsserted = false) (hx : s.bus.sending = some x) (hw : x.won = true)
    (hm : x.msg = .absent n) :
    (∀ a, Does (.sendOutcome a false) s
        { s.steady with
          line := none, peers := s.peers.set n { s.peers[n] with state := .absent, holding := 0 }, shelf := s.cleared n
          partnerBehind := if s.partner = some n then false else s.mirror.partnerBehind }
        fun u => u.watch.marks[n].waking = none ∧ (∀ e ∈ u.watch.proxy, e.target ≠ n)
          ∧ ∀ e ∈ s.watch.proxy, e.target = n → e.given ∈ u.watch.out)
      ∧ (s.duty = true →
        (∀ a, Does (.sendOutcome a true) s { s.steady with line := none } fun u =>
          u.watch.marks = s.watch.marks.set n { s.watch.marks[n] with absenceHold := some (s.tick + 100#32) })
        ∧ Does .sendSpoiled s { s.steady with line := none, counters := s.sent 2 } fun u =>
          u.watch.marks = s.watch.marks.set n { s.watch.marks[n] with absenceHold := some (s.tick + 100#32) }) := by
  have hdest : x.msg.dest = none := by rw [hm]; rfl
  refine ⟨fun a => ?_, fun hd => ?_⟩
  · refine does_inForce hr hx hw hdest ((sendDone_absent hm _ _).trans (if_pos rfl)) ?_
      (absentInForce_watch n (s.lineFreed x.slot))
    rw [steady_absentInForce]
    rfl
  · refine fails_all (k := id)
      (u := fun v => if v.duty then onMarks n (fun m => { m with absenceHold := some (v.tick + 100#32) }) v else v)
      hr hx hw hdest (fun o ho v => ?_) (fun v => ?_) ?_ ?_
    · rw [sendDone_absent hm, absentOutcome, came_of_failed ho]
      rfl
    · split <;> rfl
    · dsimp only
      rw [if_pos (show (s.lineFreed x.slot).duty = true from hd)]
      rfl
    · dsimp only
      rw [if_pos (show (s.lineSpoiled x.slot).duty = true from hd)]
      rfl

theorem watchPass_outcome {n : Station} (hr : s.resetAsserted = false) (hx : s.bus.sending = some x) (hw : x.won = true)
    (hm : x.msg = .watchPass n) :
    (∀ b, Does (.sendOutcome false b) s { s.steady with line := none } fun u => u.watch = s.watch)
      ∧ Does .sendSpoiled s { s.steady with line := none, counters := s.sent 2 } fun u => u.watch = s.watch := by
  have hdone : ∀ o v, sendDone x o v = watchPassOutcome n o v := fun o v => by rw [sendDone, hm]
  refine ⟨fun b => ?_, ?_⟩
  · refine does_sendOutcome hr hx hw (u := s.lineFreed x.slot) ?_ rfl rfl
    rw [hdone, hm]
    cases b <;> rfl
  · exact does_sendSpoiled hr hx hw (hdone _ _) (steady_lineSpoiled _) rfl

theorem watchTake_outcome (hr : s.resetAsserted = false) (hx : s.bus.sending = some x) (hw : x.won = true)
    (hm : x.msg = .watchTake) :
    (∀ a, Does (.sendOutcome a true) s { s.steady with line := none, takeHold := some (s.tick + 100#32) }
        fun u => u.duty = s.duty)
      ∧ Does .sendSpoiled s { s.steady with line := none, counters := s.sent 2, takeHold := some (s.tick + 100#32) }
        fun u => u.duty = s.duty := by
  have hdest : x.msg.dest = none := by rw [hm]; rfl
  refine fails_all (k := fun k => { k with takeHold := some (k.tick + 100#32) })
    (u := fun v => v.onWatch fun w => { w with takeHold := some (v.tick + 100#32) }) hr hx hw hdest
    (fun o ho v => ?_) (fun v => rfl) rfl rfl
  rw [sendDone, hm]
  exact if_neg (by rw [came_of_failed ho]; exact Bool.false_ne_true)

end

/-- Settles O8. -/
theorem outcomeIsReportedToTheOwner : Obligations.OutcomeIsReportedToTheOwner := by
  unfold Obligations.OutcomeIsReportedToTheOwner
  refine ⟨fun m d h => outcomeOf_targeted h, fun m a h => outcomeOf_broadcast h a, fun s x hr hx hw => ⟨fun a o => ?_, ?_⟩,
    fun s p c hp hc => ?test, fun b s p c ht hp hc => ?settled, fun s k e p he hp => ?stale,
    fun s x hr hx hw => ?outcomes⟩
  · exact exec_event hr rfl (finishSend_won hx hw _)
  · exact exec_event hr rfl (finishSend_spoiled hx hw)
  case test =>
    intro calls
    have heq := resyncWakeTest_eq hp hc
    refine ⟨fun ⟨h₁, h₂, h₃, h₄, h₅, h₆, h₇⟩ => ?_, fun h => ?_⟩
    · rw [heq, if_pos ⟨h₁, h₂, h₃, h₄, h₅, by simp [h₆, h₇]⟩]
      rfl
    · rw [heq, if_neg fun ⟨h₁, h₂, h₃, h₄, h₅, h₆⟩ => h ⟨h₁, h₂, h₃, h₄, h₅, by simpa using h₆⟩]
  case settled =>
    intro t h₁ h₂ h₃ h₄ h₅
    exact resyncWake_settle b ht hp hc ⟨h₁, h₂, h₃, h₄, h₅⟩
  case stale =>
    exact ⟨fun hr hl hw => stale_wakes he hp hr hl hw, fun h => stale_waits he hp h⟩
  case outcomes =>
    refine ⟨fun q hm hs => ?_, fun m hm hd => ?_, fun m hm => ?_, fun m hm => ?_, fun n hm hn => ?_, fun hm => ?_,
      fun n hm => ?_, fun d k st c n ans next hm => ?_⟩
    · exact table_outcome hr hx hw hm hs
    · exact proxyWake_outcome hr hx hw hm hd
    · exact resyncWake_outcome hr hx hw hm
    · exact readWake_outcome hr hx hw hm
    · obtain ⟨hcame, hfails⟩ := absent_outcome hr hx hw hm
      refine ⟨fun a => ?_, hfails⟩
      obtain ⟨u, hu, hk, h₁, h₂, h₃⟩ := hcame a
      refine ⟨u, hu, hk, h₁, h₂, fun e he ht => ?_⟩
      have h := h₃ e he ht
      rw [ProxyEntry.given, ht] at h
      exact h
    · exact watchTake_outcome hr hx hw hm
    · exact watchPass_outcome hr hx hw hm
    · exact mirrorAnswer_outcome hr hx hw ⟨d, k, st, c, ans, hm⟩

/-! An entry that has ended, and its DONE, through the tests (R115, R118). -/

section
variable {s u v : State} {k j : Key} {st : Status}

/-! ## What the tests leave of one entry -/

/-- The origins and tags of the queue, in its order. -/
def State.keys (s : State) : List Key := s.request.queue.map (·.key)

/-- Whatever entry has the name has ended, and no other entry has that name. -/
structure State.Over (k : Key) (s : State) : Prop where
  nodup : s.keys.Nodup
  ending : ∀ e, s.entry k = some e → e.state = .ending

/-- The entry of one name, the names, the REQUEST slot and what waits for it are as they were, but for what joins the list at its
back. -/
structure Spares (k : Key) (s u : State) : Prop where
  keys : u.keys = s.keys
  entry : u.entry k = s.entry k
  slot : u.slot .request = s.slot .request
  out : ∃ r, u.request.out = s.request.out ++ r

theorem Spares.refl (k : Key) (s : State) : Spares k s s := ⟨rfl, rfl, rfl, [], by simp⟩

theorem Spares.trans (h : Spares k s u) (g : Spares k u v) : Spares k s v := by
  obtain ⟨r, hr⟩ := h.out
  obtain ⟨r', hr'⟩ := g.out
  exact ⟨g.keys.trans h.keys, g.entry.trans h.entry, g.slot.trans h.slot, r ++ r', by rw [hr', hr, List.append_assoc]⟩

theorem Spares.over (h : Spares k s u) (ho : s.Over k) : u.Over k :=
  ⟨by rw [h.keys]; exact ho.nodup, fun e he => ho.ending e (by rw [← h.entry]; exact he)⟩

/-- The request unit and its slot are as they were. -/
theorem spares_of_request (hr : u.request = s.request) (hs : u.slot .request = s.slot .request) : Spares k s u :=
  ⟨by unfold State.keys; rw [hr], by unfold State.entry; rw [hr], hs, [], by rw [hr, List.append_nil]⟩

theorem spares_foldl {α : Type} (f : State → α → State) :
    ∀ (l : List α) (s : State), s.Over k → (∀ a ∈ l, ∀ v : State, v.Over k → Spares k v (f v a)) → Spares k s (l.foldl f s)
  | [], s, _, _ => .refl k s
  | a :: l, s, ho, hf =>
    have h := hf a List.mem_cons_self s ho
    h.trans (spares_foldl f l (f s a) (h.over ho) fun b hb => hf b (List.mem_cons_of_mem a hb))

/-! ## Ends of other entries -/

theorem entry_onEntry_other (h : j ≠ k) (f : Entry → Entry) (hf : ∀ e, (f e).key = e.key) (s : State) :
    (s.onEntry j f).entry k = s.entry k := by
  rw [entry_onEntry _ _ _ hf]
  cases he : s.entry k with
  | none => rfl
  | some e =>
    rw [Option.map_some, if_neg (by rw [entry_key he]; exact h.symm)]

theorem keys_onEntry (j : Key) (f : Entry → Entry) (hf : ∀ e, (f e).key = e.key) (s : State) :
    (s.onEntry j f).keys = s.keys := by
  unfold State.keys State.onEntry State.onRequest
  rw [List.map_map]
  refine List.map_congr_left fun e _ => ?_
  dsimp only [Function.comp]
  split
  · exact hf e
  · rfl

theorem spares_onEntry (h : j ≠ k) (f : Entry → Entry) (hf : ∀ e, (f e).key = e.key) (s : State) :
    Spares k s (s.onEntry j f) :=
  ⟨keys_onEntry j f hf s, entry_onEntry_other h f hf s, rfl, [], by simp [State.onEntry, State.onRequest]⟩

theorem spares_markRegions (m : BitVec 256) (s : State) : Spares k s (markRegions m s) := by
  unfold markRegions
  split
  · exact spares_of_request rfl rfl
  · exact .refl k s

theorem spares_markExtent (x : Extent) (s : State) : Spares k s (markExtent x s) := spares_markRegions _ s

theorem spares_setBehind (s : State) : Spares k s (setBehind s) := by
  unfold setBehind
  split
  · exact spares_of_request rfl rfl
  · exact .refl k s

theorem spares_readWake (s : State) : Spares k s (readWake s) := by
  unfold readWake
  split
  · split
    · exact spares_of_request rfl rfl
    · exact .refl k s
  · exact .refl k s

theorem spares_endEntry (h : j ≠ k) (st : Status) (s : State) : Spares k s (endEntry j st s) := by
  have hdone : ∀ v : State, Spares k v (v.onRequest fun r => { r with out := r.out ++ [.entryDone j] }) := fun v =>
    ⟨rfl, rfl, rfl, [.entryDone j], rfl⟩
  unfold endEntry
  split
  · exact .refl k s
  · rename_i e _
    dsimp only
    have hend := (spares_onEntry h (fun e => { e with state := .ending, status := some st, send := none }) (fun _ => rfl) s).trans
      (hdone _)
    have hdrop : ∀ y : State, Spares k s y → Spares k s (if e.kind = .write then dropCopy j y else y) := fun y hy => by
      split
      · exact hy.trans (spares_of_request rfl rfl)
      · exact hy
    have hstale : ∀ y : State, Spares k s y → Spares k s (if st = .stale then readWake y else y) := fun y hy => by
      split
      · exact hy.trans (spares_readWake y)
      · exact hy
    refine hstale _ ?_
    split
    · split
      · exact (hdrop _ hend).trans (spares_markExtent _ _)
      · exact hdrop _ hend
    · exact hdrop _ hend

theorem spares_endReplica (h : j ≠ k) (b : Bool) (s : State) : Spares k s (endReplica j b s) := by
  unfold endReplica
  split
  · dsimp only
    refine (spares_onEntry h (fun e => { e with state := .ending }) (fun _ => rfl) s).trans ?_
    have hready : ∀ (m : OutMsg) (v : State), Spares k v (mirrorReady m v) := fun _ _ => spares_of_request rfl rfl
    split
    · exact (hready _ _).trans (spares_setBehind _)
    · exact hready _ _
  · exact .refl k s

theorem spares_endWork {e : Entry} (h : e.key ≠ k) (st : Status) (s : State) : Spares k s (endWork st s e) := by
  unfold endWork
  split
  · exact spares_endReplica h true s
  · exact spares_endEntry h st s

/-- In a queue of distinct names, an entry of another state has another name. -/
theorem State.Over.other (ho : s.Over k) {e : Entry} (he : e ∈ s.request.queue) (hs : e.state ≠ .ending) : e.key ≠ k := by
  intro hk
  have hfind : ∀ q : List Entry, (q.map (·.key)).Nodup → e ∈ q → q.find? (fun g => g.key == k) = some e := by
    intro q
    induction q with
    | nil => exact fun _ h => nomatch h
    | cons g q ih =>
      intro hn hm
      rw [List.map_cons, List.nodup_cons] at hn
      rcases List.mem_cons.mp hm with rfl | hm
      · rw [List.find?_cons_of_pos (by simpa using hk)]
      · have hg : ¬ (g.key == k) = true := fun hg => hn.1 (by
          rw [beq_iff_eq.mp hg, ← hk]
          exact List.mem_map_of_mem hm)
        rw [List.find?_cons_of_neg (p := fun (g : Entry) => g.key == k) hg]
        exact ih hn.2 hm
  exact hs (ho.ending e (hfind _ ho.nodup he))

theorem State.Over.notOver (ho : s.Over k) {e : Entry} (he : s.entry j = some e) (hs : e.state ≠ .ending) : j ≠ k := by
  rintro rfl
  exact hs (ho.ending e he)

/-- The ends of the entries of some form, none of which has ended. -/
theorem spares_sweep (p : Entry → Bool) (f : State → Entry → State) (ho : s.Over k)
    (hp : ∀ e, p e = true → e.state ≠ .ending) (hf : ∀ e v, e.key ≠ k → Spares k v (f v e)) :
    Spares k s ((s.request.queue.filter p).foldl f s) := by
  refine spares_foldl f _ s ho fun e he v _ => hf e v ?_
  obtain ⟨hq, hpe⟩ := List.mem_filter.mp he
  exact ho.other hq (hp e hpe)

theorem runnable_queued {e : Entry} (h : s.runnable e = true) : e.state ≠ .ending := by
  simp only [State.runnable, Bool.and_eq_true, beq_iff_eq] at h
  rw [h.1.1.1]
  decide

/-! ## The tests before the REQUEST slot's -/

theorem spares_ageSweep (ho : s.Over k) : Spares k s (ageSweep s) := by
  refine spares_sweep _ _ ho (fun e he => ?_) fun e v hk => spares_endWork hk _ v
  simp only [State.aged, Bool.and_eq_true, beq_iff_eq] at he
  rw [he.1]
  decide

theorem slot_withdrawEngine (s : State) : (withdrawEngine s).slot .request = s.slot .request := by
  have hm : ∀ (i : SlotId) (p : OutMsg → Bool) (v : State), i ≠ .request → (withdraw i p v).2.slot .request = v.slot .request :=
    fun i p v hi => slot_withdraw_other hi.symm p v
  unfold withdrawEngine
  dsimp only
  rw [hm _ _ _ (by decide), hm _ _ _ (by decide)]
  rfl

theorem spares_stopResync (s : State) : Spares k s (stopResync false s) := by
  obtain ⟨hf, -, -⟩ := stopResync_spec s
  refine spares_of_request (by rw [hf]) ?_
  unfold stopResync
  split
  · rfl
  · dsimp only
    split <;> exact slot_withdrawEngine s

theorem spares_enterSpinDown (ho : s.Over k) : Spares k s (enterSpinDown s) := by
  have hstopping : Spares k s s.stopping := spares_of_request rfl rfl
  have hstop : Spares k s (stopResync false s.stopping) := hstopping.trans (spares_stopResync _)
  have hstopped : Spares k s s.stopped := hstop.trans (spares_ageSweep (hstop.over ho))
  rw [enterSpinDown_eq]
  split
  · exact hstopped.trans (spares_of_request rfl rfl)
  · exact hstopped.trans (spares_of_request rfl rfl)

theorem request_of_offClaim (h : u.offClaim = s.offClaim) : Spares k s u :=
  have hr : u.offClaim.request = s.offClaim.request := congrArg (·.request) h
  have hs : u.offClaim.slot .request = s.offClaim.slot .request := congrArg (State.slot .request) h
  spares_of_request hr hs

theorem request_of_offWatch (h : u.offWatch = s.offWatch) : Spares k s u :=
  have hr : u.offWatch.request = s.offWatch.request := congrArg (·.request) h
  have hs : u.offWatch.slot .request = s.offWatch.slot .request := congrArg (State.slot .request) h
  spares_of_request hr hs

theorem request_of_offAnnounce (h : u.offAnnounce = s.offAnnounce) : Spares k s u :=
  have hr : u.offAnnounce.request = s.offAnnounce.request := congrArg (·.request) h
  have hs : u.offAnnounce.slot .request = s.offAnnounce.slot .request := congrArg (State.slot .request) h
  spares_of_request hr hs

theorem spares_hotAction (ho : s.Over k) : Spares k s (hotAction s) := by
  unfold hotAction
  split
  · have hoff : Spares k s (s.onDrive fun d => { d with deferral := none, offSince := s.tick }) := spares_of_request rfl rfl
    unfold giveUpDeferral
    dsimp only
    rw [if_neg Bool.false_ne_true]
    exact hoff.trans (request_of_offClaim (offClaim_powerRemoved _))
  · split
    · exact spares_enterSpinDown ho
    · split
      · exact spares_of_request rfl rfl
      · exact .refl k s

theorem spares_edged (b s : State) : Spares k s (edged b s) := by
  have hstop : Spares k s (stopIdle s) := by
    unfold stopIdle
    split
    · exact .refl k s
    · exact spares_of_request rfl rfl
  exact hstop.trans (request_of_offWatch (offWatch_dutyEdge b _))

theorem spares_endWaits (st : Status) (b : Bool) (ho : s.Over k) : Spares k s (endWaits st b s) := by
  refine spares_sweep _ _ ho (fun e he => by rw [beq_iff_eq.mp he]; decide) fun e v hk => ?_
  dsimp only
  split
  · split
    · exact (spares_markExtent _ v).trans (spares_endEntry hk st _)
    · exact spares_endEntry hk st v
  · exact spares_endEntry hk st v

theorem spares_linkLeft (a b : Link) (ho : s.Over k) : Spares k s (linkLeft a b s) := by
  have h₁ : Spares k s (if a = .following ∧ b ≠ .following then
      ((setBehind s).request.queue.filter fun e =>
        e.kind == .replica && (e.state == .dataIn || e.state == .queued)).foldl (fun s e => endReplica e.key true s) (setBehind s)
      else s) := by
    split
    · refine (spares_setBehind s).trans (spares_sweep _ _ ((spares_setBehind s).over ho) (fun e he hs => ?_)
        fun e v hk => spares_endReplica hk true v)
      simp [hs] at he
    · exact .refl k s
  unfold linkLeft
  dsimp only
  generalize (if a = .following ∧ b ≠ .following then
      ((setBehind s).request.queue.filter fun e =>
        e.kind == .replica && (e.state == .dataIn || e.state == .queued)).foldl (fun s e => endReplica e.key true s) (setBehind s)
      else s) = w at *
  have h₂ : Spares k w (if a.together = true ∧ (!b.together) = true ∧ w.mirror.role = .primary then
      endWaits .okDegraded true w else w) := by
    split
    · exact spares_endWaits _ _ (h₁.over ho)
    · exact .refl k w
  have h₃ : ∀ y : State, Spares k w y →
      Spares k w (if a = .resyncing ∧ (!b.together) = true then stopResync false y else y) := fun y hy => by
    split
    · exact hy.trans (spares_stopResync y)
    · exact hy
  exact h₁.trans (h₃ _ h₂)

theorem spares_judgeLink (ho : s.Over k) : Spares k s (judgeLink s) := by
  have hl : ∀ l : Link, Spares k s (s.onMirror fun x => { x with link := l }) := fun _ => spares_of_request rfl rfl
  unfold judgeLink
  dsimp only
  split
  · exact .refl k s
  · exact (hl _).trans (spares_linkLeft _ _ ((hl _).over ho))

theorem spares_dropPromotion (ho : s.Over k) : Spares k s (dropPromotion s) := by
  unfold dropPromotion
  split
  · rename_i p _
    split
    · dsimp only
      have hm : Spares k s (s.onMirror fun m => { m with promotion := none }) := spares_of_request rfl rfl
      split
      · rename_i hq
        refine hm.trans (spares_endEntry (fun hk => ?_) _ _)
        unfold State.queuedEntry at hq
        split at hq
        · rename_i e he
          exact (hm.over ho).notOver he (by rw [beq_iff_eq.mp hq]; decide) hk
        · cases hq
      · exact hm
    · exact .refl k s
  · exact .refl k s

theorem spares_startResync (s : State) : Spares k s (startResync s) := by
  unfold startResync
  split
  · split
    · exact spares_of_request rfl rfl
    · exact .refl k s
  · exact .refl k s

theorem spares_resyncWakeTest (s : State) : Spares k s (resyncWakeTest s) := by
  unfold resyncWakeTest
  split
  · split
    · exact spares_of_request rfl rfl
    · exact .refl k s
  · exact .refl k s

theorem spares_settleMirror (ho : s.Over k) : Spares k s (settleMirror s) := by
  have h₁ := spares_judgeLink ho
  have h₂ := h₁.trans (spares_dropPromotion (h₁.over ho))
  exact h₂.trans ((spares_startResync _).trans (spares_resyncWakeTest _))

theorem spares_checkPromote {e : Entry} (h : e.key ≠ k) (s : State) : Spares k s (checkPromote e s) := by
  unfold checkPromote
  split
  · split
    · exact .refl k s
    · exact spares_endEntry h _ s
  · split
    · exact spares_of_request rfl rfl
    · exact spares_endEntry h _ s

theorem spares_checkResyncBegin {e : Entry} (h : e.key ≠ k) (n : Nat) (s : State) : Spares k s (checkResyncBegin e n s) := by
  unfold checkResyncBegin
  split
  · exact (spares_setBehind s).trans (spares_endEntry h _ _)
  · exact spares_endEntry h _ s

theorem spares_handSpecials (ho : s.Over k) : Spares k s (handSpecials s) := by
  unfold handSpecials
  refine spares_foldl _ _ s ho fun j _ v hv => ?_
  split
  · rename_i e he
    split
    · rename_i hrun
      have hj : e.key ≠ k := by
        rw [entry_key he]
        exact hv.notOver he (runnable_queued hrun)
      split
      · exact spares_checkResyncBegin hj _ v
      · exact spares_checkPromote hj v
      all_goals exact .refl k v
    · exact .refl k v
  · exact .refl k v

theorem spares_takePages (s : State) : Spares k s (takePages s) := by
  unfold takePages
  split
  · split
    · dsimp only
      split <;> exact spares_of_request rfl rfl
    · exact .refl k s
  · exact .refl k s

theorem spares_runChecks (ho : s.Over k) : Spares k s (runChecks s) := by
  unfold runChecks
  refine spares_foldl _ _ s ho fun j _ v hv => ?_
  split
  · rename_i e he
    split
    · rename_i hrun
      split
      · exact spares_endEntry (hv.notOver he (runnable_queued hrun)) _ v
      · exact .refl k v
    · exact .refl k v
  · exact .refl k v

theorem spares_sendRecordWork (s : State) : Spares k s (sendRecordWork s) := by
  unfold sendRecordWork
  split
  · exact spares_of_request rfl rfl
  · split <;> exact spares_of_request rfl rfl

theorem spares_sendChunkRead (s : State) : Spares k s (sendChunkRead s) := by
  unfold sendChunkRead
  split
  · exact spares_of_request rfl rfl
  · exact .refl k s

theorem spares_runEntry {e : Entry} (h : e.key ≠ k) (s : State) : Spares k s (runEntry e s) := by
  have hlane : ∀ v : State, Spares k v (sendLane e.lane (.entry e.key) v) := fun v => spares_of_request rfl rfl
  exact (spares_onEntry h (fun e => { e with state := .running }) (fun _ => rfl) s).trans (hlane _)

theorem spares_chooseCommand (ho : s.Over k) : Spares k s (chooseCommand s) := by
  have hc := spares_runChecks ho
  unfold chooseCommand
  split
  · split
    · exact spares_sendRecordWork s
    · split
      · exact spares_sendChunkRead s
      · dsimp only
        split
        · rename_i e he
          have hrun := List.find?_some he
          rw [Bool.and_eq_true] at hrun
          exact hc.trans (spares_runEntry ((hc.over ho).other (List.mem_of_find?_eq_some he) (runnable_queued hrun.1)) _)
        · split
          · exact hc.trans (spares_sendChunkRead _)
          · exact hc
  · exact .refl k s

theorem spares_settlePages (ho : s.Over k) : Spares k s (settlePages s) :=
  (spares_takePages s).trans (spares_chooseCommand ((spares_takePages s).over ho))

theorem spares_settleLane (ho : s.Over k) : Spares k s (settleLane s) := by
  have h := spares_handSpecials ho
  exact h.trans (spares_settlePages (h.over ho))

end

/-! DATA pieces and the DONE that goes before them (R115, R116, R118). -/

section
variable {s u v : State} {k : Key} {e : Entry}

/-! ## The oldest DONE goes first -/

theorem nextRequestOut_done {l r : List ReqOut} (hl : ∀ m ∈ l, m.isDone = false) :
    nextRequestOut (l ++ .entryDone k :: r) = some (.entryDone k) := by
  have hfind : (l ++ ReqOut.entryDone k :: r).find? (·.isDone) = some (.entryDone k) := by
    rw [List.find?_append, List.find?_eq_none.mpr fun m hm => by rw [hl m hm]; exact Bool.false_ne_true]
    rfl
  rw [nextRequestOut, hfind]

theorem orderFresh_prefix {n : Nat} {l r : List ReqOut} {m : ReqOut} (h : s.request.out = l ++ m :: r) (hn : l.length < n) :
    ∃ r', (orderFresh n s).request.out = l ++ m :: r' := by
  have htake : s.request.out.take n = l ++ m :: r.take (n - l.length - 1) := by
    rw [h, List.take_append, List.take_of_length_le hn.le]
    obtain ⟨i, hi⟩ : ∃ i, n - l.length = i + 1 := ⟨n - l.length - 1, by omega⟩
    rw [hi, List.take_succ_cons, Nat.add_sub_cancel]
  exact ⟨_, by
    unfold orderFresh State.onRequest
    dsimp only
    rw [htake, List.append_assoc, List.cons_append]⟩

theorem spares_orderMirror (l : List OutMsg) (s : State) : Spares k s (orderMirror l s) := spares_of_request rfl rfl

theorem orderFresh_entry (n : Nat) (s : State) :
    (orderFresh n s).keys = s.keys ∧ (orderFresh n s).entry k = s.entry k ∧ (orderFresh n s).slot .request = s.slot .request :=
  ⟨rfl, rfl, rfl⟩

theorem placeRequest_done {l r : List ReqOut} (ho : s.request.out = l ++ .entryDone k :: r) (hl : ∀ m ∈ l, m.isDone = false)
    (hs : s.slot .request = none) :
    placeRequest s = ((s.onRequest fun q => { q with out := q.out.erase (.entryDone k) }).putSlot .request
      (s.fillRequest (.entryDone k))).onRequest fun q => { q with queue := q.queue.filter fun e => e.key != k } := by
  have hnext : nextRequestOut s.request.out = some (.entryDone k) := by
    rw [ho]
    exact nextRequestOut_done hl
  unfold placeRequest
  rw [hs, hnext]

theorem fillRequest_done (k : Key) (s : State) : s.fillRequest (.entryDone k) =
    (s.entry k).map fun e => .done k.origin k.tag (e.status.getD .ok) e.cancelLate e.forwardedBy none := rfl

/-- No entry has the name. -/
structure State.Gone (k : Key) (s : State) : Prop where
  nodup : s.keys.Nodup
  entry : s.entry k = none

theorem State.Gone.over (h : s.Gone k) : s.Over k := ⟨h.nodup, fun e he => by rw [h.entry] at he; cases he⟩

theorem Spares.gone (h : Spares k s u) (hg : s.Gone k) : u.Gone k :=
  ⟨by rw [h.keys]; exact hg.nodup, h.entry.trans hg.entry⟩

/-- A part of the queue has the names of some entries, and no others. -/
theorem gone_filter (hn : s.keys.Nodup) (p : Entry → Bool) (hg : ∀ e ∈ s.request.queue, p e = true → e.key ≠ k)
    (hq : u.request.queue = s.request.queue.filter p) : u.Gone k := by
  refine ⟨?_, ?_⟩
  · unfold State.keys
    rw [hq]
    exact hn.sublist (List.filter_sublist.map _)
  · unfold State.entry
    rw [hq]
    refine List.find?_eq_none.mpr fun e he => ?_
    obtain ⟨hm, hp⟩ := List.mem_filter.mp he
    simpa using hg e hm hp

theorem entry_none_iff : s.entry k = none ↔ ∀ e ∈ s.request.queue, e.key ≠ k := by
  unfold State.entry
  rw [List.find?_eq_none]
  simp

theorem gone_placeMirror (h : s.Gone k) : (placeMirror s).Gone k ∧ (placeMirror s).slot .request = s.slot .request := by
  have hplain : ∀ v : State, v.request = s.request → v.Gone k := fun v hv =>
    ⟨by unfold State.keys; rw [hv]; exact h.nodup, by unfold State.entry; rw [hv]; exact h.entry⟩
  unfold placeMirror
  split
  · dsimp only
    split
    · exact ⟨gone_filter h.nodup _ (fun e he _ => entry_none_iff.mp h.entry e he) rfl, slot_putSlot_other _ _ (by decide)⟩
    · exact ⟨hplain _ rfl, slot_putSlot_other _ _ (by decide)⟩
  · exact ⟨h, rfl⟩

theorem spares_placeResync (s : State) : Spares k s (placeResync s) := by
  unfold placeResync
  split
  · split
    · dsimp only
      split <;> exact spares_of_request rfl (slot_putSlot_other _ _ (by decide))
    · exact .refl k s
  · exact .refl k s

/-- What the tests leave before the slots are filled. -/
def laned (b s : State) : State := settleLane (settleMirror (hotAction (edged b s)))

theorem worked_laned (b s : State) : worked b s =
    settlePages (placeResync (placeMirror (placeRequest (orderMirror b.mirror.out (orderFresh b.request.out.length
      (laned b s)))))) := rfl

theorem spares_laned (b : State) (ho : s.Over k) : Spares k s (laned b s) := by
  have h₁ : Spares k s (hotAction (edged b s)) := (spares_edged b s).trans (spares_hotAction ((spares_edged b s).over ho))
  have h₂ := h₁.trans (spares_settleMirror (h₁.over ho))
  exact h₂.trans (spares_settleLane (h₂.over ho))

theorem spares_settle_worked (b : State) (h : s.takesPart = true) : Spares k (worked b s) (settle b s) := by
  have h₁ : ∀ v : State, Spares k v (reportNeed v) := fun _ => spares_of_request rfl rfl
  have hb : (budgeted b s).offClaim = (reportNeed (worked b s)).offClaim := offClaim_settleBudget _
  have h₃ : ∀ v : State, Spares k v (updateIdle v) := fun _ => spares_of_request rfl rfl
  rw [settle_eq b h]
  exact (h₁ _).trans ((request_of_offClaim hb).trans ((h₃ _).trans ((request_of_offWatch (offWatch_settleWatch _ _)).trans
    (request_of_offAnnounce (offAnnounce_announceChange b _)))))

/-- R115, R118: the oldest DONE that waited before the event takes the empty REQUEST slot, and its entry leaves. -/
theorem settle_placesDone {l r : List ReqOut} (b : State) (ht : s.takesPart = true) (hq : QueueSound s)
    (hs : s.slot .request = none) (ho : s.request.out = l ++ .entryDone k :: r) (hl : ∀ m ∈ l, m.isDone = false)
    (hn : l.length < b.request.out.length) (he : s.entry k = some e) (hst : e.state = .ending) :
    (settle b s).slot .request = some (.done k.origin k.tag (e.status.getD .ok) e.cancelLate e.forwardedBy none)
      ∧ (settle b s).entry k = none := by
  have hover : s.Over k := ⟨hq.2, fun g hg => by rw [he] at hg; cases hg; exact hst⟩
  have h₁ := spares_laned b hover
  have hlast := spares_settle_worked (k := k) b ht
  have hw := worked_laned b s
  generalize laned b s = x at *
  obtain ⟨r₁, hr₁⟩ := h₁.out
  obtain ⟨r₂, hr₂⟩ := orderFresh_prefix (s := x) (n := b.request.out.length) (l := l) (m := .entryDone k) (r := r ++ r₁)
    (by rw [hr₁, ho, List.append_assoc, List.cons_append]) hn
  obtain ⟨hkeys, hentry, hslot⟩ := orderFresh_entry (k := k) b.request.out.length x
  have hm := spares_orderMirror (k := k) b.mirror.out (orderFresh b.request.out.length x)
  have hout : (orderMirror b.mirror.out (orderFresh b.request.out.length x)).request.out = l ++ .entryDone k :: r₂ := hr₂
  generalize orderMirror b.mirror.out (orderFresh b.request.out.length x) = y at *
  have hey : y.entry k = some e := by rw [hm.entry, hentry, h₁.entry, he]
  have hplace := placeRequest_done hout hl (by rw [hm.slot, hslot, h₁.slot, hs])
  have hny : y.keys.Nodup := by rw [hm.keys, hkeys, h₁.keys]; exact hq.2
  have hpslot : (placeRequest y).slot .request =
      some (.done k.origin k.tag (e.status.getD .ok) e.cancelLate e.forwardedBy none) := by
    rw [hplace]
    refine (get_set _ .request _).trans ?_
    rw [fillRequest_done, hey]
    rfl
  have hgone : (placeRequest y).Gone k := by
    rw [hplace]
    exact gone_filter hny (fun e => e.key != k) (fun e _ h => by simpa using h) rfl
  generalize placeRequest y = z at *
  obtain ⟨hgm, hsm⟩ := gone_placeMirror hgone
  generalize placeMirror z = z' at *
  have hres := spares_placeResync (k := k) z'
  have hpages := hres.trans (spares_settlePages (hres.over hgm.over))
  rw [← hw] at hpages
  have h := hpages.trans hlast
  exact ⟨by rw [h.slot, hsm, hpslot], by rw [h.entry, hgm.entry]⟩

end

/-! The outcome of a READ's DATA piece, and its retry wait (R116). -/

section
variable {s v : State} {k : Key} {e : Entry} {p : SendPos} {ext : Extent} {st : Status}

/-! ## What ends the sending -/

theorem behind_endEntry (k : Key) (st : Status) (s : State) : (endEntry k st s).mirror.behind = s.mirror.behind := by
  have hmark : ∀ (x : Extent) (v : State), (markExtent x v).mirror.behind = v.mirror.behind := fun x v => by
    unfold markExtent markRegions
    split <;> rfl
  have hdrop : ∀ (c : Prop) [Decidable c] (v : State), (if c then dropCopy k v else v).mirror.behind = v.mirror.behind :=
    fun c _ v => by split <;> rfl
  have hstale : ∀ v : State, (if st = .stale then readWake v else v).mirror.behind = v.mirror.behind := fun v => by
    split
    · unfold readWake
      split
      · split <;> rfl
      · rfl
    · rfl
  unfold endEntry
  split
  · rfl
  · refine (hstale _).trans ?_
    split
    · split
      · exact (hmark _ _).trans (hdrop _ _)
      · exact hdrop _ _
    · exact hdrop _ _

theorem steady_endUndelivered (k : Key) (s : State) :
    (endUndelivered k s).steady = { s.steady with counters := s.counters.modify 7 satInc } := by
  have hcount : ∀ v : State, (v.onRequest fun r => { r with undelivered := satInc r.undelivered }).steady =
    { v.steady with counters := v.counters.modify 7 satInc } := fun _ => rfl
  have hc : (endEntry k .undelivered s).counters = s.counters := congrArg Steady.counters (steady_endEntry s k .undelivered)
  unfold endUndelivered
  rw [hcount, hc, steady_endEntry]

theorem endUndelivered_keeps (k : Key) (s : State) : (endUndelivered k s).entry k = (endEntry k .undelivered s).entry k
    ∧ (endUndelivered k s).mirror = (endEntry k .undelivered s).mirror := ⟨rfl, rfl⟩

/-! ## The outcome at the entry -/

/-- The send position on the next piece. -/
def SendPos.next (p : SendPos) : SendPos := ⟨p.pos + 1, 0, none⟩

/-- One more attempt counted, with the retry wait. -/
def SendPos.again (p : SendPos) (now : Tick) : SendPos := ⟨p.pos, p.attempts + 1, some now⟩

/-- The state with a new send position in an entry. -/
def State.atSend (k : Key) (q : SendPos) (s : State) : State := s.onEntry k fun e => { e with send := some q }

theorem entry_atSend (he : s.entry k = some e) (q : SendPos) : (s.atSend k q).entry k = some { e with send := some q } := by
  unfold State.atSend
  rw [entry_onEntry k k (fun e => { e with send := some q }) (fun _ => rfl), he, Option.map_some, if_pos (entry_key he)]

/-- The state with the next piece made ready. -/
def State.nextPiece (k : Key) (p : SendPos) (s : State) : State :=
  (s.atSend k p.next).onRequest fun r => { r with out := r.out ++ [.piece k] }

theorem nextPiece_spec (he : s.entry k = some e) (p : SendPos) :
    (s.nextPiece k p).entry k = some { e with send := some p.next }
      ∧ (s.nextPiece k p).request.out = s.request.out ++ [.piece k] :=
  ⟨entry_atSend he p.next, rfl⟩

theorem pieceOutcome_taken (he : s.entry k = some e) (hp : e.send = some p) (hx : e.extent = some ext) :
    pieceOutcome k .taken s = if p.pos + 1 < ext.count then s.nextPiece k p else endEntry k .ok s := by
  unfold pieceOutcome
  simp only [he, hp, hx]
  rfl

theorem pieceOutcome_busy (he : s.entry k = some e) (hp : e.send = some p) :
    pieceOutcome k .busy s = if p.attempts + 1 < 8 then s.atSend k (p.again s.tick) else endUndelivered k s := by
  unfold pieceOutcome
  simp only [he, hp]
  rfl

theorem pieceOutcome_lost {o : SendOutcome} (he : s.entry k = some e) (hp : e.send = some p)
    (ho : o = .unanswered ∨ o = .spoiled) : pieceOutcome k o s = endUndelivered k s := by
  unfold pieceOutcome
  rcases ho with rfl | rfl <;> simp only [he, hp]

theorem endUndelivered_spec (he : s.entry k = some e) :
    (endUndelivered k s).entry k = some { e with state := .ending, status := some .undelivered, send := none }
      ∧ (endUndelivered k s).mirror.behind = s.mirror.behind := by
  obtain ⟨h₁, h₂⟩ := endUndelivered_keeps k s
  exact ⟨h₁.trans (entry_endEntry he .undelivered), (congrArg MirrorUnit.behind h₂).trans (behind_endEntry k .undelivered s)⟩

/-! ## The piece at a FOLLOWING secondary (R127) -/

theorem entry_ownData (d : Station) (o : SendOutcome) (s : State) (k : Key) : (ownData d o s).entry k = s.entry k :=
  entry_of_request (congrArg RequestUnit.queue (request_ownData d o)) k

theorem ownData_failed {o : SendOutcome} (d : Station) (ho : o.came = false) (s : State) : ownData d o s = s :=
  if_neg fun h => by rw [ho] at h; cases h.1

theorem behind_ownData {d : Station} (hr : s.mirror.role = .secondary) (hl : s.mirror.link = .following)
    (hp : s.partner = some d) : (ownData d .taken s).mirror.behind = true := by
  unfold ownData
  rw [if_pos ⟨rfl, hl, hp⟩]
  unfold setBehind
  split
  · rfl
  · rename_i h
    exact Bool.eq_true_of_not_eq_false fun hb => h ⟨hr, hb⟩

theorem ownData_other {d : Station} (h : s.mirror.link ≠ .following ∨ s.partner ≠ some d) (o : SendOutcome) :
    ownData d o s = s :=
  if_neg fun ⟨_, hl, hp⟩ => h.elim (fun h => h hl) fun h => h hp

/-! ## The outcomes -/

variable {x : Sending} {d : Station} {tag : Tag} {i : Nat} {bs : List Byte} {K : Steady} {P : State → Prop}

theorem sendDone_piece (hm : x.msg = .data d tag i false bs) (o : SendOutcome) (s : State) :
    sendDone x o s = pieceOutcome ⟨d, tag⟩ o (ownData d o s) := by
  unfold sendDone
  simp only [hm, Bool.false_eq_true, if_false]

/-- The state in which a piece that came into force is handled. -/
def State.pieceCame (d : Station) (i : SlotId) (s : State) : State := ownData d .taken (s.lineFreed i)

theorem pieceCame_spec (d : Station) (i : SlotId) (s : State) :
    (s.pieceCame d i).steady = { s.steady with line := none } ∧ (∀ k, (s.pieceCame d i).entry k = s.entry k)
      ∧ (s.pieceCame d i).request = s.request :=
  ⟨steady_ownData _ _, fun k => entry_ownData d .taken _ k, request_ownData _ _⟩

theorem does_pieceTaken (hr : s.resetAsserted = false) (hx : s.bus.sending = some x) (hw : x.won = true)
    (hm : x.msg = .data d tag i false bs) (o : Bool) {u : State}
    (hu : pieceOutcome ⟨d, tag⟩ .taken (s.pieceCame d x.slot) = u) (hk : u.steady = K) (hP : P u) :
    Does (.sendOutcome true o) s K P := by
  refine does_sendOutcome hr hx hw ?_ hk hP
  rw [hm, sendDone_piece hm, (show outcomeOf (.data d tag i false bs) true o = .taken by cases o <;> rfl)]
  exact hu

theorem does_pieceFailed (hr : s.resetAsserted = false) (hx : s.bus.sending = some x) (hw : x.won = true)
    (hm : x.msg = .data d tag i false bs) {b : Bool} {u : State}
    (hu : pieceOutcome ⟨d, tag⟩ (if b then .busy else .unanswered) (s.lineFreed x.slot) = u) (hk : u.steady = K) (hP : P u) :
    Does (.sendOutcome false b) s K P := by
  refine does_sendOutcome hr hx hw ?_ hk hP
  rw [hm, sendDone_piece hm, (show outcomeOf (.data d tag i false bs) false b = if b then .busy else .unanswered by
    cases b <;> rfl), ownData_failed d (by cases b <;> rfl)]
  exact hu

theorem steady_undelivered (k : Key) (i : SlotId) (s : State) :
    (endUndelivered k (s.lineFreed i)).steady = { s.steady with line := none, counters := s.counted 7 } :=
  (steady_endUndelivered k (s.lineFreed i)).trans rfl

theorem counters_lineSpoiled (i : SlotId) (s : State) : (s.lineSpoiled i).counters = s.sent 2 :=
  congrArg Steady.counters (steady_lineSpoiled (s := s) i)

/-- The moves of a piece that the destination takes. -/
theorem piece_taken (hr : s.resetAsserted = false) (hx : s.bus.sending = some x) (hw : x.won = true)
    (hm : x.msg = .data d tag i false bs) (he : s.entry ⟨d, tag⟩ = some e) (hp : e.send = some p) (hext : e.extent = some ext)
    (o : Bool) :
    (p.pos + 1 < ext.count → Does (.sendOutcome true o) s { s.steady with line := none } fun u =>
        u.entry ⟨d, tag⟩ = some { e with send := some p.next } ∧ u.request.out = s.request.out ++ [.piece ⟨d, tag⟩])
      ∧ (ext.count ≤ p.pos + 1 → Does (.sendOutcome true o) s { s.steady with line := none } fun u =>
        u.entry ⟨d, tag⟩ = some { e with state := .ending, status := some .ok, send := none }
          ∧ u.request.out = s.request.out ++ [.entryDone ⟨d, tag⟩])
      ∧ Does (.sendOutcome true o) s { s.steady with line := none } fun u =>
        (s.mirror.role = .secondary → s.mirror.link = .following → s.partner = some d → u.mirror.behind = true)
          ∧ (s.mirror.link ≠ .following ∨ s.partner ≠ some d → u.mirror.behind = s.mirror.behind) := by
  obtain ⟨hst, hent, hreq⟩ := pieceCame_spec d x.slot s
  have hb₁ := behind_ownData (s := s.lineFreed x.slot) (d := d)
  have hb₂ := ownData_other (s := s.lineFreed x.slot) (d := d)
  have hv := (hent ⟨d, tag⟩).trans he
  have hout := pieceOutcome_taken hv hp hext
  have hcase : ∀ u : State, u.mirror.behind = (s.pieceCame d x.slot).mirror.behind →
      (s.mirror.role = .secondary → s.mirror.link = .following → s.partner = some d → u.mirror.behind = true)
        ∧ (s.mirror.link ≠ .following ∨ s.partner ≠ some d → u.mirror.behind = s.mirror.behind) := fun u hu =>
    ⟨fun h₁ h₂ h₃ => hu.trans (hb₁ h₁ h₂ h₃), fun h => hu.trans (congrArg (·.mirror.behind) (hb₂ h .taken))⟩
  have hd := fun (u : State) (P : State → Prop) => does_pieceTaken (P := P) (u := u) (K := { s.steady with line := none }) hr hx hw hm o
  generalize s.pieceCame d x.slot = w at *
  refine ⟨fun h => ?_, fun h => ?_, ?_⟩
  · rw [if_pos h] at hout
    obtain ⟨h₁, h₂⟩ := nextPiece_spec hv p
    exact hd _ _ hout hst ⟨h₁, by rw [h₂, hreq]⟩
  · rw [if_neg (Nat.not_lt.mpr h)] at hout
    exact hd _ _ hout ((steady_endEntry w _ _).trans hst) ⟨entry_endEntry hv .ok, by rw [out_endEntry hv, hreq]⟩
  · by_cases h : p.pos + 1 < ext.count
    · rw [if_pos h] at hout
      exact hd _ _ hout hst (hcase _ rfl)
    · rw [if_neg h] at hout
      exact hd _ _ hout ((steady_endEntry w _ _).trans hst) (hcase _ (behind_endEntry _ _ w))

/-- The moves of a piece that is not taken. -/
theorem piece_failed (hr : s.resetAsserted = false) (hx : s.bus.sending = some x) (hw : x.won = true)
    (hm : x.msg = .data d tag i false bs) (he : s.entry ⟨d, tag⟩ = some e) (hp : e.send = some p) :
    (p.attempts + 1 < 8 → Does (.sendOutcome false true) s { s.steady with line := none } fun u =>
        u.entry ⟨d, tag⟩ = some { e with send := some (p.again s.tick) } ∧ u.request.out = s.request.out)
      ∧ (8 ≤ p.attempts + 1 → Does (.sendOutcome false true) s { s.steady with line := none, counters := s.counted 7 } fun u =>
        u.entry ⟨d, tag⟩ = some { e with state := .ending, status := some .undelivered, send := none })
      ∧ Does (.sendOutcome false false) s { s.steady with line := none, counters := s.counted 7 } (fun u =>
        u.entry ⟨d, tag⟩ = some { e with state := .ending, status := some .undelivered, send := none }
          ∧ u.mirror.behind = s.mirror.behind)
      ∧ Does .sendSpoiled s { s.steady with line := none, counters := (s.sent 2).modify 7 satInc } (fun u =>
        u.entry ⟨d, tag⟩ = some { e with state := .ending, status := some .undelivered, send := none }) := by
  have hv : (s.lineFreed x.slot).entry ⟨d, tag⟩ = some e := he
  have hv' : (s.lineSpoiled x.slot).entry ⟨d, tag⟩ = some e := he
  have hbusy := pieceOutcome_busy hv hp
  refine ⟨fun h => ?_, fun h => ?_, ?_, ?_⟩
  · rw [if_pos h] at hbusy
    exact does_pieceFailed (b := true) hr hx hw hm hbusy rfl ⟨entry_atSend hv _, rfl⟩
  · rw [if_neg (Nat.not_lt.mpr h)] at hbusy
    exact does_pieceFailed (b := true) hr hx hw hm hbusy (steady_undelivered _ _ s) (endUndelivered_spec hv).1
  · exact does_pieceFailed (b := false) hr hx hw hm (pieceOutcome_lost hv hp (.inl rfl)) (steady_undelivered _ _ s)
      (endUndelivered_spec hv)
  · refine does_sendSpoiled hr hx hw (u := endUndelivered ⟨d, tag⟩ (s.lineSpoiled x.slot)) ?_ ?_ (endUndelivered_spec hv').1
    · rw [sendDone_piece hm, ownData_failed d rfl, pieceOutcome_lost hv' hp (.inr rfl)]
    · rw [steady_endUndelivered, counters_lineSpoiled, steady_lineSpoiled]

/-! ## The retry wait -/

theorem pieceRetry_over {t₀ : Tick} (he : s.entry k = some e) (hs : e.state = .sending) (hp : e.send = some p)
    (ht : p.retry = some t₀) (h : 5 ≤ (s.tick - t₀).toNat) :
    (pieceRetry k s).steady = s.steady
      ∧ (pieceRetry k s).entry k = some { e with send := some { p with retry := none } }
      ∧ (pieceRetry k s).request.out = s.request.out ++ [.piece k] := by
  have hover : e.retryOver s.tick = true := by
    unfold Entry.retryOver
    rw [hp]
    dsimp only
    rw [hs, ht]
    exact expired_some.mpr h
  have hr : pieceRetry k s = (s.onEntry k fun e => { e with send := e.send.map fun p => { p with retry := none } }).onRequest
      fun r => { r with out := r.out ++ [.piece k] } := by
    unfold pieceRetry
    rw [he]
    exact if_pos hover
  rw [hr]
  refine ⟨rfl, ?_, rfl⟩
  refine (entry_onEntry k k (fun e => { e with send := e.send.map fun p => { p with retry := none } }) (fun _ => rfl)).trans ?_
  rw [he, Option.map_some, if_pos (entry_key he), hp]
  rfl

theorem pieceRetry_waits {t₀ : Tick} (he : s.entry k = some e) (hp : e.send = some p) (ht : p.retry = some t₀)
    (h : (s.tick - t₀).toNat < 5) : pieceRetry k s = s := by
  have hover : ¬ e.retryOver s.tick = true := by
    unfold Entry.retryOver
    rw [hp]
    dsimp only
    rw [ht, Bool.and_eq_true, not_and]
    exact fun _ hx => absurd (expired_some.mp hx) (Nat.not_le.mpr h)
  unfold pieceRetry
  rw [he]
  exact if_neg hover

end

/-- Settles O13. -/
theorem dataPiecesAreDelivered : Obligations.DataPiecesAreDelivered := by
  unfold Obligations.DataPiecesAreDelivered
  refine ⟨fun b s k e l r ht hq hs ho hl hn he hst => settle_placesDone b ht hq hs ho hl hn he hst,
    fun s x d tag i bs e p ext hr hx hw hm he hp hext => ?outcome, fun s k e p t₀ hr he hs hp ht => ?retry⟩
  case outcome =>
    have ht := piece_taken hr hx hw hm he hp hext
    obtain ⟨hagain, hgiven, hlost, hspoiled⟩ := piece_failed hr hx hw hm he hp
    exact ⟨fun o => (ht o).1, fun o h _ => (ht o).2.1 h, hagain, hgiven, hlost, fun o => (ht o).2.2, hspoiled⟩
  case retry =>
    refine ⟨fun h => ?_, fun h => idles_of (pieceRetry k) hr rfl (pieceRetry_waits he hp ht h)⟩
    obtain ⟨hk, hP⟩ := pieceRetry_over he hs hp ht h
    exact does_event hr rfl rfl hk hP

/-! The line code: fill bits put in and taken out (R1, R7). -/

section
variable {lvl l b : Bool} {n k : Nat} {bs : List Bool}

/-! ## What goes in comes out -/

theorem unfillFrom_filled (h : b ≠ lvl) : unfillFrom lvl 5 (b :: bs) = unfillFrom b 1 bs := by
  simp [unfillFrom, h]

theorem unfillFrom_run (hn : n ≠ 5) : unfillFrom lvl n (lvl :: bs) = (unfillFrom lvl (n + 1) bs).map (lvl :: ·) := by
  simp [unfillFrom, hn]

theorem unfillFrom_change (hn : n ≠ 5) (h : b ≠ lvl) : unfillFrom lvl n (b :: bs) = (unfillFrom b 1 bs).map (b :: ·) := by
  simp [unfillFrom, hn, h]

theorem unfillFrom_fillFrom : ∀ (bs : List Bool) (lvl : Bool) (n : Nat), unfillFrom lvl n (fillFrom lvl n bs) = some bs
  | [], _, _ => rfl
  | b :: bs, lvl, n => by
    have ih := unfillFrom_fillFrom bs b
    have hne : (!lvl) ≠ lvl := by cases lvl <;> decide
    unfold fillFrom
    by_cases hn : n = 5
    · subst hn
      rw [if_pos rfl]
      by_cases hb : b = !lvl
      · rw [if_pos hb, unfillFrom_filled hne, ← hb, unfillFrom_run (by decide), ih 2]
        rfl
      · rw [if_neg hb, unfillFrom_filled hne, unfillFrom_change (by decide) hb, ih 1]
        rfl
    · rw [if_neg hn]
      by_cases hb : b = lvl
      · subst hb
        rw [if_pos rfl, unfillFrom_run hn, ih (n + 1)]
        rfl
      · rw [if_neg hb, unfillFrom_change hn hb, ih 1]
        rfl

theorem unfill_fill (bs : List Bool) : unfill (fill bs) = some bs := by
  cases bs with
  | nil => rfl
  | cons b bs =>
    show (unfillFrom b 1 (fillFrom b 1 bs)).map (b :: ·) = some (b :: bs)
    rw [unfillFrom_fillFrom]
    rfl

/-! ## Six equal levels are refused -/

theorem unfillFrom_tooLong : ∀ (k n : Nat), n ≤ 5 → 6 ≤ n + k → unfillFrom l n (List.replicate k l ++ bs) = none
  | 0, n, hn, hk => by omega
  | k + 1, n, hn, hk => by
    rw [List.replicate_succ, List.cons_append]
    by_cases h : n = 5
    · simp [unfillFrom, h]
    · rw [unfillFrom_run h, unfillFrom_tooLong k (n + 1) (by omega) (by omega)]
      rfl

theorem unfillFrom_six (hn : n ≤ 5) : unfillFrom lvl n (List.replicate 6 l ++ bs) = none := by
  have hrest : unfillFrom l 1 (List.replicate 5 l ++ bs) = none := unfillFrom_tooLong 5 1 (by decide) (by decide)
  rw [List.replicate_succ, List.cons_append]
  by_cases h : n = 5
  · subst h
    by_cases hl : l = lvl
    · simp [unfillFrom, hl]
    · rw [unfillFrom_filled hl, hrest]
  · by_cases hl : l = lvl
    · subst hl
      rw [unfillFrom_run h, unfillFrom_tooLong 5 (n + 1) (by omega) (by omega)]
      rfl
    · rw [unfillFrom_change h hl, hrest]
      rfl

theorem unfillFrom_append {y : List Bool} (hy : ∀ lvl n, n ≤ 5 → unfillFrom lvl n y = none) :
    ∀ (a : List Bool) (lvl : Bool) (n : Nat), n ≤ 5 → unfillFrom lvl n (a ++ y) = none
  | [], lvl, n, hn => hy lvl n hn
  | b :: a, lvl, n, hn => by
    have ih := unfillFrom_append hy a b
    rw [List.cons_append]
    by_cases h : n = 5
    · subst h
      by_cases hb : b = lvl
      · simp [unfillFrom, hb]
      · rw [unfillFrom_filled hb, ih 1 (by decide)]
    · by_cases hb : b = lvl
      · subst hb
        rw [unfillFrom_run h, ih (n + 1) (by omega)]
        rfl
      · rw [unfillFrom_change h hb, ih 1 (by decide)]
        rfl

theorem unfill_six (a b : List Bool) (l : Bool) : unfill (a ++ List.replicate 6 l ++ b) = none := by
  rw [List.append_assoc]
  cases a with
  | nil =>
    show (unfillFrom l 1 (List.replicate 5 l ++ b)).map (l :: ·) = none
    rw [unfillFrom_tooLong 5 1 (by decide) (by decide)]
    rfl
  | cons c a =>
    show (unfillFrom c 1 (a ++ (List.replicate 6 l ++ b))).map (c :: ·) = none
    rw [unfillFrom_append (fun _ _ hn => unfillFrom_six hn) a c 1 (by decide)]
    rfl

end

/-- Settles O60. -/
theorem lineCodeReadsBack : Obligations.LineCodeReadsBack := by
  refine ⟨unfill_fill, fun bs a b l h => ?_, unfill_six⟩
  have hs := unfill_six a b l
  rw [← h, unfill_fill] at hs
  cases hs

/-! What a station writes, a station reads: the fields and the short payloads (section 1.2). -/

/-! ## Fields -/

theorem byte_toNat {n : Nat} (h : n ≤ 255) : (byte n).toNat = n := by
  simp [byte]
  omega

theorem byte_ne_zero {n : Nat} (h₁ : 1 ≤ n) (h₂ : n ≤ 255) : byte n ≠ 0 := fun h => by
  have hn := byte_toNat h₂
  rw [h] at hn
  simp at hn
  omega

theorem flagOf_flagByte (b : Bool) : flagOf (flagByte b) = some b := by cases b <;> rfl

theorem stationByte_toNat (n : Station) : (stationByte n).toNat = n.val := byte_toNat (by omega)

theorem stationOf_stationByte (n : Station) : stationOf (stationByte n) = some n := by
  simp [stationOf, stationByte_toNat]

theorem stationOf_optStationByte (o : Option Station) : stationOf (optStationByte o) = o := by
  cases o with
  | none => rfl
  | some n => exact stationOf_stationByte n

theorem optStationByte_valid (o : Option Station) :
    ((optStationByte o).toNat < 16 || optStationByte o = 255) = true := by
  cases o with
  | none => rfl
  | some n => simp [optStationByte, stationByte_toNat]

theorem countOf_byte {n : Nat} (h₁ : 1 ≤ n) (h₂ : n ≤ 64) : countOf (byte n) = some n := by
  have hn : (byte n).toNat = n := byte_toNat (by omega)
  simp [countOf, hn, h₁, h₂]

theorem word16_be16 {n : Nat} (h : n ≤ 65535) : word16 (byte (n / 256)) (byte n) = n := by
  simp [word16, byte]
  omega

theorem word32_be32 (w : BitVec 32) :
    word32 (w.extractLsb' 24 8) (w.extractLsb' 16 8) (w.extractLsb' 8 8) (w.extractLsb' 0 8) = w := by
  unfold word32
  ext i hi
  simp only [BitVec.getElem_append, BitVec.getElem_extractLsb']
  split
  · rw [Nat.zero_add, BitVec.getLsbD_eq_getElem hi]
  · split
    · rw [show 8 + (i - 8) = i by omega, BitVec.getLsbD_eq_getElem hi]
    · split
      · rw [show 16 + (i - 8 - 8) = i by omega, BitVec.getLsbD_eq_getElem hi]
      · rw [show 24 + (i - 8 - 8 - 8) = i by omega, BitVec.getLsbD_eq_getElem hi]

theorem driveState_code (d : DriveState) : DriveState.ofCode (byte d.code).toNat = some d := by cases d <;> rfl

theorem role_code (r : Role) : Role.ofCode (byte r.code).toNat = some r := by cases r <;> rfl

theorem status_code (st : Status) : Status.ofCode (byte st.code).toNat = some st := by cases st <;> rfl

/-! ## AWAKE (R30) -/

theorem announcement_bytes (x : Announcement) : x.bytes =
    [flagByte x.bay, byte x.drive.code, byte x.role.code, byte (x.epoch / 256), byte x.epoch, flagByte x.behind,
      x.usable.extractLsb' 24 8, x.usable.extractLsb' 16 8, x.usable.extractLsb' 8 8, x.usable.extractLsb' 0 8,
      flagByte x.duty, byte x.budget, byte x.holding] := rfl

theorem parseAwake_bytes {x : Announcement} (he : x.epoch ≤ 65535) (hr : x.epoch = 0 ↔ x.role = .notLoaded)
    (h₁ : 1 ≤ x.budget) (h₂ : x.budget ≤ 255) (hh : x.holding ≤ 255) : parseAwake x.bytes = some x := by
  have hrole : ((x.epoch == 0) == (x.role == .notLoaded)) = true := by
    by_cases h : x.epoch = 0
    · simp [h, hr.mp h]
    · have hn : x.role ≠ .notLoaded := fun hn => h (hr.mpr hn)
      simp [h, hn]
  rw [announcement_bytes]
  unfold parseAwake
  simp only [flagOf_flagByte, driveState_code, role_code, word16_be16 he, word32_be32, byte_toNat h₂, byte_toNat hh, hrole,
    bne_iff_ne.mpr (byte_ne_zero h₁ h₂), Bool.and_self, if_true]

/-! ## The short payloads -/

section
variable {ann : Announcement} {tab : Station → TableBody} {d : Station}

theorem parseClaim_payload {n : Nat} (h₁ : 1 ≤ n) (h₂ : n ≤ 255) : parseClaim ((OutMsg.claim n).payload ann tab) = some n :=
  (parseClaim_byte (byte_ne_zero h₁ h₂)).trans (by rw [byte_toNat h₂])

theorem parseRelease_payload {n : Nat} (w : Bool) (why : ReleaseWhy) (h : n ≤ 255) :
    parseRelease ((OutMsg.release n w why).payload ann tab) = some (n, w) := by
  show (flagOf (flagByte w)).map (fun f => ((byte n).toNat, f)) = some (n, w)
  rw [flagOf_flagByte, byte_toNat h]
  rfl

theorem parseWake_payload {m : BitVec 16} (why : WakeWhy) (h : m ≠ 0) :
    parseWake ((OutMsg.wake m why).payload ann tab) = some m := by
  have hw : word16 (byte (m.toNat / 256)) (byte m.toNat) = m.toNat := word16_be16 (by omega)
  show (if word16 (byte (m.toNat / 256)) (byte m.toNat) = 0 then none
    else some (BitVec.ofNat 16 (word16 (byte (m.toNat / 256)) (byte m.toNat)))) = some m
  have hm : m.toNat ≠ 0 := fun h₀ => h (BitVec.eq_of_toNat_eq h₀)
  rw [hw, if_neg hm, BitVec.ofNat_toNat, BitVec.setWidth_eq]

theorem parseAbsent_payload {n o : Station} (h : n ≠ o) : parseAbsent o ((OutMsg.absent n).payload ann tab) = some n :=
  parseAbsent_other h

theorem parseDone_payload (t : Tag) (st : Status) (cl : Bool) (via ob : Option Station) :
    parseDone ((OutMsg.done d t st cl via ob).payload ann tab) = some ⟨t, st, cl, via, ob⟩ := by
  have hvia := optStationByte_valid via
  cases ob with
  | none =>
    show parseDone [t, byte st.code, flagByte cl, optStationByte via] = _
    unfold parseDone
    simp only [status_code, flagOf_flagByte, stationOf_optStationByte, hvia, if_true]
  | some n =>
    show parseDone [t, byte st.code, flagByte cl, optStationByte via, stationByte n] = _
    unfold parseDone
    simp only [status_code, flagOf_flagByte, stationOf_optStationByte, stationOf_stationByte, hvia, if_true, Option.map_some]

theorem parseData_payload {i : Nat} (t : Tag) (r : Bool) {bs : List Byte} (hi : i ≤ 63) (hb : bs.length = 512) :
    parseData ((OutMsg.data d t i r bs).payload ann tab) = some ⟨t, i, r, bs⟩ := by
  show parseData (t :: byte i :: flagByte r :: bs) = _
  unfold parseData
  simp only [flagOf_flagByte, byte_toNat (show i ≤ 255 by omega), hb, hi, decide_true, Bool.and_self, if_true]

theorem parseMirrorAck_payload (k : Key) (st : BlockNo) (n : Nat) (e : Bool) :
    parseMirrorAck ((OutMsg.mirrorAck d k st n e).payload ann tab) = some (k, st) := by
  show (stationOf (stationByte k.origin)).map (fun n => (Key.mk n k.tag, word32 _ _ _ _)) = _
  rw [stationOf_stationByte, word32_be32]
  rfl

theorem parseMirrorMiss_payload {c : Nat} (k : Key) (st : BlockNo) (n : Nat) (e : Bool) (h₁ : 1 ≤ c) (h₂ : c ≤ 64) :
    parseMirrorMiss ((OutMsg.mirrorMiss d k st c n e).payload ann tab) = some (k, ⟨st, c⟩) := by
  show parseMirrorMiss [stationByte k.origin, k.tag, st.extractLsb' 24 8, st.extractLsb' 16 8, st.extractLsb' 8 8,
    st.extractLsb' 0 8, byte c] = _
  unfold parseMirrorMiss
  simp only [stationOf_stationByte, countOf_byte h₁ h₂, word32_be32]

theorem parseResyncBegin_payload {ep : Nat} (t : Tag) (h₁ : 1 ≤ ep) (h₂ : ep ≤ 65535) :
    parseResyncBegin ((OutMsg.resyncBegin d t ep).payload ann tab) = some (t, ep) := by
  show (if word16 (byte (ep / 256)) (byte ep) = 0 then none else some (t, word16 (byte (ep / 256)) (byte ep))) = _
  rw [word16_be16 h₂, if_neg (by omega)]

theorem parseResyncEnd_payload {ep : Nat} (re : Bool) (h₁ : 1 ≤ ep) (h₂ : ep ≤ 65535) :
    parseResyncEnd ((OutMsg.resyncEnd d ep re).payload ann tab) = some ep := by
  show (if word16 (byte (ep / 256)) (byte ep) = 0 then none else some (word16 (byte (ep / 256)) (byte ep))) = _
  rw [word16_be16 h₂, if_neg (by omega)]

theorem parseExtent_payload {c : Nat} (t : Tag) (st : BlockNo) (h₁ : 1 ≤ c) (h₂ : c ≤ 64) :
    parseExtent ((OutMsg.resyncWrite d t st c).payload ann tab) = some (t, ⟨st, c⟩) := by
  show (countOf (byte c)).map (fun k => (t, Extent.mk (word32 _ _ _ _) k)) = _
  rw [countOf_byte h₁ h₂, word32_be32]
  rfl

theorem parseForward_read {c : Nat} {k : Key} (st : BlockNo) (hk : k.origin ≠ d) (h₁ : 1 ≤ c) (h₂ : c ≤ 64) :
    parseForward d ((OutMsg.forward d k (.read st c)).payload ann tab) = some (k, .read st c) := by
  show parseForward d [stationByte k.origin, 16, k.tag, st.extractLsb' 24 8, st.extractLsb' 16 8, st.extractLsb' 8 8,
    st.extractLsb' 0 8, byte c] = _
  unfold parseForward
  simp [stationOf_stationByte, countOf_byte h₁ h₂, word32_be32, hk]

theorem parseForward_probe {i : Nat} {k : Key} (hk : k.origin ≠ d) (hi : i ≤ 4) :
    parseForward d ((OutMsg.forward d k (.probe i)).payload ann tab) = some (k, .probe i) := by
  show parseForward d [stationByte k.origin, 21, k.tag, byte i] = _
  unfold parseForward
  simp [stationOf_stationByte, byte_toNat (show i ≤ 255 by omega), hk, hi]

end

/-! What a station writes, a station reads: TABLE and the mirror record's block (R54, R138, R140). -/

/-! ## TABLE (R54) -/

section
variable {x : TableBody} {ws : List Waiter}

/-- The waiters as bytes. -/
def waiterBytes (ws : List Waiter) : List Byte := ws.flatMap fun w => [stationByte w.station, byte w.units]

/-- The holdings as bytes. -/
def holdingBytes (h : Vector Nat 16) : List Byte := h.toList.map byte

theorem table_bytes (x : TableBody) : x.bytes =
    stationByte x.querier :: byte x.budget :: optStationByte x.watch ::
      (holdingBytes x.holdings ++ byte x.waiters.length :: waiterBytes x.waiters) := by
  simp [TableBody.bytes, holdingBytes, waiterBytes]

theorem waiterBytes_length (ws : List Waiter) : (waiterBytes ws).length = 2 * ws.length := by
  induction ws with
  | nil => rfl
  | cons w ws ih =>
    simp only [waiterBytes, List.flatMap_cons, List.length_append, List.length_cons, List.length_nil] at ih ⊢
    omega

theorem parseWaiters_bytes : ∀ (ws : List Waiter), (∀ w ∈ ws, 1 ≤ w.units ∧ w.units ≤ 255) →
    parseWaiters (waiterBytes ws) = some ws
  | [], _ => rfl
  | w :: ws, h => by
    obtain ⟨h₁, h₂⟩ := h w List.mem_cons_self
    have ih := parseWaiters_bytes ws fun v hv => h v (List.mem_cons_of_mem w hv)
    show parseWaiters (stationByte w.station :: byte w.units :: waiterBytes ws) = _
    unfold parseWaiters
    rw [stationOf_stationByte, ih]
    show (if byte w.units = 0 then none else some (⟨w.station, (byte w.units).toNat⟩ :: ws)) = _
    rw [if_neg (byte_ne_zero h₁ h₂), byte_toNat h₂]

theorem distinctWaiters_of_nodup (h : (ws.map (·.station)).Nodup) : distinctWaiters ws = true := by
  induction ws with
  | nil => rfl
  | cons w ws ih =>
    rw [List.map_cons, List.nodup_cons] at h
    have hall : ws.all (fun v => v.station != w.station) = true := List.all_eq_true.mpr fun v hv =>
      bne_iff_ne.mpr fun he => h.1 (he ▸ List.mem_map_of_mem hv)
    rw [distinctWaiters, hall, ih h.2]
    rfl

theorem waiters_length (h : (ws.map (·.station)).Nodup) : ws.length ≤ 16 := by
  have hc := h.length_le_card
  rwa [List.length_map, Fintype.card_fin] at hc

theorem holding_le (h : Vector Nat 16) (n : Station) : h[n] ≤ sumOf h := by
  have hm : h[n] ∈ h.toList := by simp
  exact List.single_le_sum (fun _ _ => Nat.zero_le _) _ hm

theorem getD_holding (x : TableBody) (n : Station) : x.bytes.getD (3 + n.val) 0 = byte x.holdings[n] := by
  have hl : (holdingBytes x.holdings).length = 16 := by simp [holdingBytes]
  rw [table_bytes, Nat.add_comm]
  show (holdingBytes x.holdings ++ byte x.waiters.length :: waiterBytes x.waiters).getD n.val 0 = _
  rw [List.getD_append _ _ _ _ (by omega)]
  simp [holdingBytes, List.getD_eq_getElem?_getD]

theorem getD_count (x : TableBody) : x.bytes.getD 19 0 = byte x.waiters.length := by
  have hl : (holdingBytes x.holdings).length = 16 := by simp [holdingBytes]
  rw [table_bytes]
  show (holdingBytes x.holdings ++ byte x.waiters.length :: waiterBytes x.waiters).getD 16 0 = _
  rw [List.getD_append_right _ _ _ _ (by omega), hl]
  rfl

theorem drop_waiters (x : TableBody) : x.bytes.drop 20 = waiterBytes x.waiters := by
  have hl : (holdingBytes x.holdings).length = 16 := by simp [holdingBytes]
  rw [table_bytes]
  show (holdingBytes x.holdings ++ byte x.waiters.length :: waiterBytes x.waiters).drop 17 = _
  rw [List.drop_append, List.drop_eq_nil_of_le (by omega), hl]
  rfl

theorem table_length (x : TableBody) : x.bytes.length = 20 + 2 * x.waiters.length := by
  have hl : (holdingBytes x.holdings).length = 16 := by simp [holdingBytes]
  rw [table_bytes]
  simp only [List.length_cons, List.length_append, hl, waiterBytes_length]
  omega

theorem parseTable_bytes {o : Station} (hq : x.querier ≠ o) (h₁ : 1 ≤ x.budget) (h₂ : x.budget ≤ 255)
    (hs : sumOf x.holdings ≤ x.budget)
    (hw : ∀ w ∈ x.waiters, 1 ≤ w.units ∧ w.units ≤ 255 ∧ x.holdings[w.station] = 0)
    (hn : (x.waiters.map (·.station)).Nodup) : parseTable o x.bytes = some x := by
  have hholds : (Vector.ofFn fun i : Fin 16 => (x.bytes.getD (3 + i.val) 0).toNat) = x.holdings := by
    refine Vector.ext fun i hi => ?_
    rw [Vector.getElem_ofFn]
    have h := getD_holding x ⟨i, hi⟩
    have hle := holding_le x.holdings ⟨i, hi⟩
    dsimp only at h ⊢
    rw [h, byte_toNat (by omega)]
    rfl
  have hlen := waiters_length hn
  have hcount : (x.bytes.getD 19 0).toNat = x.waiters.length := by rw [getD_count, byte_toNat (by omega)]
  have hbudget : x.bytes.getD 1 0 = byte x.budget := by rw [table_bytes]; rfl
  have hquerier : x.bytes.getD 0 0 = stationByte x.querier := by rw [table_bytes]; rfl
  have hwatch : x.bytes.getD 2 0 = optStationByte x.watch := by rw [table_bytes]; rfl
  have hzero : x.waiters.all (fun w => x.holdings[w.station] == 0) = true :=
    List.all_eq_true.mpr fun w hm => beq_iff_eq.mpr (hw w hm).2.2
  have hne : (byte x.budget != 0) = true := bne_iff_ne.mpr (byte_ne_zero h₁ h₂)
  unfold parseTable
  simp only [hholds, hcount, hbudget, hquerier, hwatch, drop_waiters, table_length, stationOf_stationByte,
    stationOf_optStationByte, parseWaiters_bytes x.waiters fun w hm => ⟨(hw w hm).1, (hw w hm).2.1⟩,
    optStationByte_valid, distinctWaiters_of_nodup hn, hzero, hne, byte_toNat h₂, hs, hlen, bne_iff_ne.mpr hq,
    decide_true, Bool.and_self, if_true]

end

/-! ## The dirty map (R138) -/

theorem getMsbD_byteOfBits : ∀ (b₀ b₁ b₂ b₃ b₄ b₅ b₆ b₇ : Bool) (j : Fin 8),
    (byteOfBits [b₀, b₁, b₂, b₃, b₄, b₅, b₆, b₇]).getMsbD j.val = [b₀, b₁, b₂, b₃, b₄, b₅, b₆, b₇][j] := by
  decide

theorem getMsbD_dirtyBytes (d : BitVec 256) {r : Nat} (h : r < 256) :
    ((dirtyBytes d).getD (r / 8) 0).getMsbD (r % 8) = d.getLsbD r := by
  have hi : r / 8 < 32 := by omega
  have hj : r % 8 < 8 := Nat.mod_lt _ (by decide)
  have hbyte : (dirtyBytes d).getD (r / 8) 0 = byteOfBits ((List.range 8).map fun j => d.getLsbD (8 * (r / 8) + j)) := by
    unfold dirtyBytes
    rw [List.getD_eq_getElem?_getD, List.getElem?_map, List.getElem?_range hi]
    rfl
  rw [hbyte]
  refine (getMsbD_byteOfBits _ _ _ _ _ _ _ _ ⟨r % 8, hj⟩).trans ?_
  have hbit : ((List.range 8).map fun j => d.getLsbD (8 * (r / 8) + j))[r % 8]'(by simpa using hj) = d.getLsbD r := by
    rw [List.getElem_map, List.getElem_range, Nat.div_add_mod]
  exact hbit

/-- Bits set one by one where a test says so. -/
theorem getLsbD_setBits (c : Nat → Bool) (i : Nat) : ∀ n ≤ 256,
    ((List.range n).foldl (fun acc r => if c r then acc ||| (1#256 <<< r) else acc) 0).getLsbD i = (decide (i < n) && c i)
  | 0, _ => by simp
  | n + 1, h => by
    have ih := getLsbD_setBits c i n (by omega)
    rw [List.range_succ, List.foldl_append]
    simp only [List.foldl_cons, List.foldl_nil]
    by_cases hc : c n = true
    · rw [if_pos hc, BitVec.getLsbD_or, ih, BitVec.getLsbD_shiftLeft, BitVec.getLsbD_one]
      by_cases hi : i = n
      · subst hi
        simp [hc]
        omega
      · have hlt : i < n + 1 ↔ i < n := by omega
        have hz : decide (i - n = 0) = true → decide (i < n) = true := fun hd => by
          have := of_decide_eq_true hd
          exact decide_eq_true (by omega)
        simp only [hlt]
        by_cases hin : i < n
        · simp [hin]
        · have hd : i - n ≠ 0 := by omega
          simp [hin, hd]
    · rw [if_neg hc, ih]
      by_cases hi : i = n
      · subst hi
        simp [Bool.eq_false_iff.mpr hc]
      · have hlt : i < n + 1 ↔ i < n := by omega
        simp only [hlt]

theorem dirtyOf_dirtyBytes (d : BitVec 256) : dirtyOf (dirtyBytes d) = d := by
  refine BitVec.eq_of_getLsbD_eq fun i hi => ?_
  unfold dirtyOf
  rw [getLsbD_setBits (fun r => ((dirtyBytes d).getD (r / 8) 0).getMsbD (r % 8)) i 256 (le_refl _), decide_eq_true hi,
    Bool.true_and, getMsbD_dirtyBytes d hi]

/-! ## The record block (R138, R140) -/

section
variable {f : RecordFields}

theorem dirtyBytes_length (d : BitVec 256) : (dirtyBytes d).length = 32 := by simp [dirtyBytes]

/-- The bytes of a record before the dirty map. -/
def RecordFields.front (f : RecordFields) : List Byte :=
  [0xE5, 0x4D, byte f.role.code, byte (f.epoch / 256), byte f.epoch, f.partner,
    (BitVec.ofNat 32 f.regionSize).extractLsb' 24 8, (BitVec.ofNat 32 f.regionSize).extractLsb' 16 8,
    (BitVec.ofNat 32 f.regionSize).extractLsb' 8 8, (BitVec.ofNat 32 f.regionSize).extractLsb' 0 8, flagByte f.clean]

theorem record_head (f : RecordFields) : f.head = f.front ++ dirtyBytes f.dirty := rfl

theorem record_head_length (f : RecordFields) : f.head.length = 43 := by
  rw [record_head, List.length_append, dirtyBytes_length]
  rfl

/-- The check of a record. -/
def RecordFields.check (f : RecordFields) : Nat := (checkOfBits (bitsOfBytes f.head)).toNat

theorem fit_append {bs cs : List Byte} (h : (bs ++ cs).length ≤ 512) : ∃ ds, fit (bs ++ cs) = bs ++ (cs ++ ds) := by
  refine ⟨List.replicate (512 - (bs ++ cs).length) 0, ?_⟩
  unfold fit
  rw [List.take_of_length_le (by rw [List.length_append, List.length_replicate]; show _ ≤ 512; simp only [Config.pageBytes]; omega),
    List.append_assoc]
  rfl

theorem record_block (f : RecordFields) : ∃ ds, f.block =
    f.head ++ (byte (f.check / 256) :: byte f.check :: ds) := by
  obtain ⟨ds, h⟩ := fit_append (bs := f.head) (cs := be16 f.check) (by
    rw [List.length_append, record_head_length]
    show 43 + 2 ≤ 512
    decide)
  exact ⟨ds, h⟩

theorem parseRecord_block (hr : f.role ≠ .notLoaded) (h₁ : 1 ≤ f.epoch) (h₂ : f.epoch ≤ 65535)
    (hs : f.regionSize < 4294967296) : parseRecord f.block = some f := by
  obtain ⟨ds, hb⟩ := record_block f
  have hfront : ∀ i, i < 11 → f.block.getD i 0 = f.front.getD i 0 := fun i hi => by
    rw [hb, record_head, List.append_assoc, List.getD_append _ _ _ _ (by exact hi)]
  have hhead : f.block.take 43 = f.head := by
    rw [hb, List.take_append, record_head_length, List.take_of_length_le (record_head_length f).le]
    simp
  have hdirty : (f.block.drop 11).take 32 = dirtyBytes f.dirty := by
    rw [hb, record_head, List.append_assoc, show f.front ++ (dirtyBytes f.dirty ++ (byte (f.check / 256) :: byte f.check :: ds)) =
      f.front ++ (dirtyBytes f.dirty ++ (byte (f.check / 256) :: byte f.check :: ds)) from rfl,
      List.drop_append, List.drop_eq_nil_of_le (by exact le_refl 11)]
    show (dirtyBytes f.dirty ++ _).take 32 = _
    rw [List.take_append, List.take_of_length_le (dirtyBytes_length f.dirty).le, dirtyBytes_length]
    simp
  have hc₁ : f.block.getD 43 0 = byte (f.check / 256) := by
    rw [hb, List.getD_append_right _ _ _ _ (record_head_length f).le, record_head_length]
    rfl
  have hc₂ : f.block.getD 44 0 = byte f.check := by
    rw [hb, List.getD_append_right _ _ _ _ (by rw [record_head_length]; decide), record_head_length]
    rfl
  have hcheck : f.check ≤ 65535 := by
    have := (checkOfBits (bitsOfBytes f.head)).isLt
    unfold RecordFields.check
    omega
  have hsum : ((checkOfBits (bitsOfBytes f.head)).toNat == f.check) = true := beq_self_eq_true _
  have hrole : (f.role != .notLoaded) = true := bne_iff_ne.mpr hr
  have hepoch : (f.epoch != 0) = true := bne_iff_ne.mpr (by omega)
  have hsize : (BitVec.ofNat 32 f.regionSize).toNat = f.regionSize := by
    rw [BitVec.toNat_ofNat, Nat.mod_eq_of_lt hs]
  have hword := word32_be32 (BitVec.ofNat 32 f.regionSize)
  have hmarks : f.block.getD 0 0 = 0xE5 ∧ f.block.getD 1 0 = 0x4D := ⟨hfront 0 (by decide), hfront 1 (by decide)⟩
  have hfields : f.block.getD 2 0 = byte f.role.code ∧ f.block.getD 3 0 = byte (f.epoch / 256) ∧ f.block.getD 4 0 = byte f.epoch
      ∧ f.block.getD 5 0 = f.partner ∧ f.block.getD 10 0 = flagByte f.clean :=
    ⟨hfront 2 (by decide), hfront 3 (by decide), hfront 4 (by decide), hfront 5 (by decide), hfront 10 (by decide)⟩
  have hregion : word32 (f.block.getD 6 0) (f.block.getD 7 0) (f.block.getD 8 0) (f.block.getD 9 0) =
      BitVec.ofNat 32 f.regionSize := by
    rw [hfront 6 (by decide), hfront 7 (by decide), hfront 8 (by decide), hfront 9 (by decide)]
    exact hword
  obtain ⟨h₀, hm⟩ := hmarks
  obtain ⟨hro, heh, hel, hpa, hcl⟩ := hfields
  unfold parseRecord
  simp only [h₀, hm, hro, heh, hel, hpa, hcl, hregion, hc₁, hc₂, hhead, hdirty, role_code, flagOf_flagByte, word16_be16 h₂,
    word16_be16 hcheck, hsize, hsum, hrole, hepoch, dirtyOf_dirtyBytes, decide_true, Bool.and_self, if_true]

theorem record_block_length (f : RecordFields) : f.block.length = 512 := by
  have hl : (be16 f.check).length = 2 := rfl
  show (((f.head ++ be16 f.check) ++ List.replicate (512 - (f.head ++ be16 f.check).length) 0).take 512).length = 512
  rw [List.length_take, List.length_append, List.length_replicate, List.length_append, record_head_length, hl]
  rfl

end

/-- Settles O59. -/
theorem payloadsReadBackAsWritten : Obligations.PayloadsReadBackAsWritten := by
  refine ⟨fun x he hr h₁ h₂ hh => ⟨rfl, parseAwake_bytes he hr h₁ h₂ hh⟩,
    fun x o hq h₁ h₂ hs hw hn => parseTable_bytes hq h₁ h₂ hs hw hn, fun ann tab d => ?payloads,
    fun f hr h₁ h₂ hs => ⟨record_block_length f, parseRecord_block hr h₁ h₂ hs⟩⟩
  case payloads =>
    exact ⟨fun n h₁ h₂ => parseClaim_payload h₁ h₂, fun n w why h => parseRelease_payload w why h,
      fun m why h => parseWake_payload why h, fun n o h => parseAbsent_payload h, parseDone_payload,
      fun t i r bs hi hb => parseData_payload t r hi hb, parseMirrorAck_payload,
      fun k st c n e h₁ h₂ => parseMirrorMiss_payload k st n e h₁ h₂, fun t ep h₁ h₂ => parseResyncBegin_payload t h₁ h₂,
      fun ep re h₁ h₂ => parseResyncEnd_payload re h₁ h₂, fun t st c h₁ h₂ => parseExtent_payload t st h₁ h₂,
      fun k st c hk h₁ h₂ => parseForward_read st hk h₁ h₂, fun k i hk hi => parseForward_probe hk hi⟩

/-! The link through the tests (R123, R124). -/

section
variable {s u v : State} {k : Key} {st : Status}

/-! ## What the tests after the link's keep -/

/-- No entry waits for a copy. -/
def State.NoWaits (s : State) : Prop := ∀ e ∈ s.request.queue, e.state ≠ .waitMirror

/-- The link and the use of the record are as they were; the behind flag is not cleared, and no entry begins to wait for a copy. -/
structure LinkKept (s u : State) : Prop where
  link : u.mirror.link = s.mirror.link
  inUse : u.recordInUse = s.recordInUse
  behind : s.mirror.behind = true → u.mirror.behind = true
  waits : s.NoWaits → u.NoWaits

theorem LinkKept.refl (s : State) : LinkKept s s := ⟨rfl, rfl, id, id⟩

theorem LinkKept.trans (h : LinkKept s u) (g : LinkKept u v) : LinkKept s v :=
  ⟨g.link.trans h.link, g.inUse.trans h.inUse, fun hb => g.behind (h.behind hb), fun hw => g.waits (h.waits hw)⟩

theorem linkKept_of_mirror (hm : u.mirror = s.mirror) (hq : u.request.queue = s.request.queue) : LinkKept s u :=
  ⟨by rw [hm], by unfold State.recordInUse; rw [hm], fun hb => by rw [hm]; exact hb, fun hw => by
    unfold State.NoWaits
    rw [hq]
    exact hw⟩

theorem linkKept_of_offClaim (h : u.offClaim = s.offClaim) : LinkKept s u :=
  have hr : u.offClaim.request = s.offClaim.request := congrArg (·.request) h
  linkKept_of_mirror (mirror_of_offClaim h).1 (congrArg RequestUnit.queue hr)

theorem linkKept_of_offWatch (h : u.offWatch = s.offWatch) : LinkKept s u :=
  have hr : u.offWatch.request = s.offWatch.request := congrArg (·.request) h
  linkKept_of_mirror (mirror_of_offWatch h).1 (congrArg RequestUnit.queue hr)

theorem linkKept_of_offAnnounce (h : u.offAnnounce = s.offAnnounce) : LinkKept s u :=
  have hr : u.offAnnounce.request = s.offAnnounce.request := congrArg (·.request) h
  linkKept_of_mirror (mirror_of_offAnnounce h).1 (congrArg RequestUnit.queue hr)

theorem linkKept_foldl {α : Type} (f : State → α → State) (hf : ∀ s a, LinkKept s (f s a)) :
    ∀ (l : List α) (s : State), LinkKept s (l.foldl f s)
  | [], s => .refl s
  | a :: l, s => (hf s a).trans (linkKept_foldl f hf l (f s a))

theorem linkKept_onEntry (k : Key) (f : Entry → Entry) (hf : ∀ e, (f e).state ≠ .waitMirror) (s : State) :
    LinkKept s (s.onEntry k f) := by
  refine ⟨rfl, rfl, id, fun hw e he => ?_⟩
  obtain ⟨g, hg, rfl⟩ := List.mem_map.mp he
  split
  · exact hf g
  · exact hw g hg

theorem linkKept_onRequest (f : RequestUnit → RequestUnit) (hf : ∀ e ∈ (f s.request).queue, e ∈ s.request.queue) :
    LinkKept s (s.onRequest f) :=
  ⟨rfl, rfl, id, fun hw e he => hw e (hf e he)⟩

theorem linkKept_markRegions (m : BitVec 256) (s : State) : LinkKept s (markRegions m s) := by
  unfold markRegions
  split
  · exact ⟨rfl, rfl, id, id⟩
  · exact .refl s

theorem linkKept_setBehind (s : State) : LinkKept s (setBehind s) := by
  unfold setBehind
  split
  · exact ⟨rfl, rfl, fun _ => rfl, id⟩
  · exact .refl s

theorem linkKept_readWake (s : State) : LinkKept s (readWake s) := by
  unfold readWake
  split
  · split
    · exact ⟨rfl, rfl, id, id⟩
    · exact .refl s
  · exact .refl s

theorem linkKept_endEntry (k : Key) (st : Status) (s : State) : LinkKept s (endEntry k st s) := by
  have hdone : ∀ v : State, LinkKept v (v.onRequest fun r => { r with out := r.out ++ [.entryDone k] }) := fun v =>
    linkKept_onRequest _ fun _ h => h
  unfold endEntry
  split
  · exact .refl s
  · rename_i e _
    dsimp only
    have hend := (linkKept_onEntry k (fun e => { e with state := .ending, status := some st, send := none }) (fun _ => nofun) s).trans
      (hdone _)
    have hdrop : ∀ y : State, LinkKept s y → LinkKept s (if e.kind = .write then dropCopy k y else y) := fun y hy => by
      split
      · exact hy.trans ⟨rfl, rfl, id, id⟩
      · exact hy
    have hstale : ∀ y : State, LinkKept s y → LinkKept s (if st = .stale then readWake y else y) := fun y hy => by
      split
      · exact hy.trans (linkKept_readWake y)
      · exact hy
    refine hstale _ ?_
    split
    · split
      · exact (hdrop _ hend).trans (linkKept_markRegions _ _)
      · exact hdrop _ hend
    · exact hdrop _ hend

theorem linkKept_endReplica (k : Key) (b : Bool) (s : State) : LinkKept s (endReplica k b s) := by
  have hready : ∀ (m : OutMsg) (v : State), LinkKept v (mirrorReady m v) := fun _ _ => ⟨rfl, rfl, id, id⟩
  unfold endReplica
  split
  · dsimp only
    refine (linkKept_onEntry k (fun e => { e with state := .ending }) (fun _ => nofun) s).trans ?_
    split
    · exact (hready _ _).trans (linkKept_setBehind _)
    · exact hready _ _
  · exact .refl s

theorem linkKept_endWork (e : Entry) (st : Status) (s : State) : LinkKept s (endWork st s e) := by
  unfold endWork
  split
  · exact linkKept_endReplica _ _ s
  · exact linkKept_endEntry _ _ s

theorem linkKept_endWaits (st : Status) (b : Bool) (s : State) : LinkKept s (endWaits st b s) := by
  refine linkKept_foldl _ (fun v e => ?_) _ s
  dsimp only
  split
  · split
    · exact (linkKept_markRegions _ v).trans (linkKept_endEntry _ _ _)
    · exact linkKept_endEntry _ _ v
  · exact linkKept_endEntry _ _ v

theorem linkKept_stopResync (s : State) : LinkKept s (stopResync false s) := by
  obtain ⟨hf, -, -⟩ := stopResync_spec s
  refine ⟨by rw [hf], ?_, fun hb => by rw [hf]; exact hb, fun hw => ?_⟩
  · unfold State.recordInUse
    rw [hf]
  · unfold State.NoWaits
    rw [hf]
    exact hw

theorem linkKept_dropPromotion (s : State) : LinkKept s (dropPromotion s) := by
  have hm : LinkKept s (s.onMirror fun m => { m with promotion := none }) := ⟨rfl, rfl, id, id⟩
  unfold dropPromotion
  split
  · split
    · dsimp only
      split
      · exact hm.trans (linkKept_endEntry _ _ _)
      · exact hm
    · exact .refl s
  · exact .refl s

theorem linkKept_startResync (s : State) : LinkKept s (startResync s) := by
  unfold startResync
  split
  · split
    · exact ⟨rfl, rfl, id, id⟩
    · exact .refl s
  · exact .refl s

theorem linkKept_resyncWakeTest (s : State) : LinkKept s (resyncWakeTest s) := by
  unfold resyncWakeTest
  split
  · split
    · exact ⟨rfl, rfl, id, id⟩
    · exact .refl s
  · exact .refl s

theorem linkKept_checkResyncBegin (e : Entry) (n : Nat) (s : State) : LinkKept s (checkResyncBegin e n s) := by
  unfold checkResyncBegin
  split
  · exact (linkKept_setBehind s).trans (linkKept_endEntry _ _ _)
  · exact linkKept_endEntry _ _ s

theorem linkKept_checkPromote (e : Entry) (s : State) : LinkKept s (checkPromote e s) := by
  unfold checkPromote
  split
  · split
    · exact .refl s
    · exact linkKept_endEntry _ _ s
  · split
    · exact ⟨rfl, rfl, id, id⟩
    · exact linkKept_endEntry _ _ s

theorem linkKept_handSpecials (s : State) : LinkKept s (handSpecials s) := by
  unfold handSpecials
  refine linkKept_foldl _ (fun v k => ?_) _ s
  split
  · split
    · split
      · exact linkKept_checkResyncBegin _ _ v
      · exact linkKept_checkPromote _ v
      all_goals exact .refl v
    · exact .refl v
  · exact .refl v

theorem linkKept_takePages (s : State) : LinkKept s (takePages s) := by
  unfold takePages
  split
  · split
    · dsimp only
      split <;> exact ⟨rfl, rfl, id, id⟩
    · exact .refl s
  · exact .refl s

theorem linkKept_sendRecordWrite (b : Bool) (s : State) : LinkKept s (sendRecordWrite b s) := ⟨rfl, rfl, id, id⟩

theorem linkKept_sendRecordWork (s : State) : LinkKept s (sendRecordWork s) := by
  unfold sendRecordWork
  split
  · rename_i h
    refine ⟨rfl, ?_, id, id⟩
    unfold State.recordInUse
    rw [h]
    rfl
  · split
    · exact linkKept_sendRecordWrite _ s
    · exact ⟨rfl, rfl, id, id⟩

theorem linkKept_sendChunkRead (s : State) : LinkKept s (sendChunkRead s) := by
  unfold sendChunkRead
  split
  · exact ⟨rfl, rfl, id, id⟩
  · exact .refl s

theorem linkKept_runChecks (s : State) : LinkKept s (runChecks s) := by
  unfold runChecks
  refine linkKept_foldl _ (fun v k => ?_) _ s
  split
  · split
    · split
      · exact linkKept_endEntry _ _ v
      · exact .refl v
    · exact .refl v
  · exact .refl v

theorem linkKept_runEntry (e : Entry) (s : State) : LinkKept s (runEntry e s) := by
  have hlane : ∀ v : State, LinkKept v (sendLane e.lane (.entry e.key) v) := fun _ => ⟨rfl, rfl, id, id⟩
  exact (linkKept_onEntry e.key (fun e => { e with state := .running }) (fun _ => nofun) s).trans (hlane _)

theorem linkKept_chooseCommand (s : State) : LinkKept s (chooseCommand s) := by
  have hc := linkKept_runChecks s
  unfold chooseCommand
  split
  · split
    · exact linkKept_sendRecordWork s
    · split
      · exact linkKept_sendChunkRead s
      · dsimp only
        split
        · exact hc.trans (linkKept_runEntry _ _)
        · split
          · exact hc.trans (linkKept_sendChunkRead _)
          · exact hc
  · exact .refl s

theorem linkKept_settleLane (s : State) : LinkKept s (settleLane s) :=
  (linkKept_handSpecials s).trans ((linkKept_takePages _).trans (linkKept_chooseCommand _))

theorem linkKept_settlePages (s : State) : LinkKept s (settlePages s) :=
  (linkKept_takePages s).trans (linkKept_chooseCommand _)

theorem linkKept_placeRequest (s : State) : LinkKept s (placeRequest s) := by
  have hput : ∀ (m : ReqOut) (o : Option OutMsg) (v : State),
      LinkKept v ((v.onRequest fun r => { r with out := r.out.erase m }).putSlot .request o) :=
    fun _ _ _ => ⟨rfl, rfl, id, id⟩
  unfold placeRequest
  split
  · dsimp only
    split
    · exact (hput _ _ s).trans (linkKept_onRequest _ fun _ h => (List.mem_filter.mp h).1)
    all_goals exact hput _ _ s
  · exact .refl s

theorem linkKept_placeMirror (s : State) : LinkKept s (placeMirror s) := by
  have hput : ∀ (l : List OutMsg) (o : Option OutMsg) (v : State),
      LinkKept v ((v.onMirror fun x => { x with out := l }).putSlot .mirror o) := fun _ _ _ => ⟨rfl, rfl, id, id⟩
  unfold placeMirror
  split
  · dsimp only
    split
    · exact (hput _ _ s).trans (linkKept_onRequest _ fun _ h => (List.mem_filter.mp h).1)
    · exact hput _ _ s
  · exact .refl s

theorem linkKept_placeResync (s : State) : LinkKept s (placeResync s) := by
  unfold placeResync
  split
  · split
    · dsimp only
      split <;> exact ⟨rfl, rfl, id, id⟩
    · exact .refl s
  · exact .refl s

theorem linkKept_settleSlots (b s : State) : LinkKept s (settleSlots b s) := by
  have horder : ∀ (n : Nat) (l : List OutMsg) (v : State), LinkKept v (orderMirror l (orderFresh n v)) :=
    fun _ _ _ => ⟨rfl, rfl, id, id⟩
  exact (horder _ _ s).trans ((linkKept_placeRequest _).trans ((linkKept_placeMirror _).trans (linkKept_placeResync _)))

theorem linkKept_enterSpinDown (s : State) : LinkKept s (enterSpinDown s) := by
  have hstop : LinkKept s s.stopping := ⟨rfl, rfl, id, id⟩
  have hage : LinkKept s s.stopped :=
    hstop.trans ((linkKept_stopResync _).trans (linkKept_foldl _ (fun v e => linkKept_endWork e _ v) _ _))
  rw [enterSpinDown_eq]
  split
  · exact hage.trans (linkKept_sendRecordWrite _ _)
  · exact hage.trans ⟨rfl, rfl, id, id⟩

theorem linkKept_hotAction (s : State) : LinkKept s (hotAction s) := by
  unfold hotAction
  split
  · have hoff : LinkKept s (s.onDrive fun d => { d with deferral := none, offSince := s.tick }) := ⟨rfl, rfl, id, id⟩
    unfold giveUpDeferral
    dsimp only
    rw [if_neg Bool.false_ne_true]
    exact hoff.trans (linkKept_of_offClaim (offClaim_powerRemoved _))
  · split
    · exact linkKept_enterSpinDown s
    · split
      · exact ⟨rfl, rfl, id, id⟩
      · exact .refl s

theorem linkKept_edged (b s : State) : LinkKept s (edged b s) := by
  have hstop : LinkKept s (stopIdle s) := by
    unfold stopIdle
    split
    · exact .refl s
    · exact ⟨rfl, rfl, id, id⟩
  exact hstop.trans (linkKept_of_offWatch (offWatch_dutyEdge b _))

/-! ## The link judged -/

theorem linkKept_linkLeft (a b : Link) (s : State) : LinkKept s (linkLeft a b s) := by
  have h₁ : LinkKept s (if a = .following ∧ b ≠ .following then
      ((setBehind s).request.queue.filter fun e =>
        e.kind == .replica && (e.state == .dataIn || e.state == .queued)).foldl (fun s e => endReplica e.key true s) (setBehind s)
      else s) := by
    split
    · exact (linkKept_setBehind s).trans (linkKept_foldl _ (fun v e => linkKept_endReplica _ _ v) _ _)
    · exact .refl s
  have h₂ : ∀ w : State, LinkKept w (if a.together = true ∧ (!b.together) = true ∧ w.mirror.role = .primary then
      endWaits .okDegraded true w else w) := fun w => by
    split
    · exact linkKept_endWaits _ _ w
    · exact .refl w
  have h₃ : ∀ w : State, LinkKept w (if a = .resyncing ∧ (!b.together) = true then stopResync false w else w) := fun w => by
    split
    · exact linkKept_stopResync w
    · exact .refl w
  exact h₁.trans ((h₂ _).trans (h₃ _))

end

/-! The link after every event (R123 to R125, R128, R135). -/

section
variable {s u v : State}

/-! ## What the link depends on -/

/-- The inputs of the link but for the dirty map. -/
structure SameLinkInputs (s u : State) : Prop where
  steady : u.steady = s.steady
  inUse : u.recordInUse = s.recordInUse
  drive : u.drive.state = s.drive.state

theorem presence_eq (h : SameLinkInputs s u) (n : Station) : (u.presence n).state = (s.presence n).state
    ∧ (u.presence n).role = (s.presence n).role ∧ (u.presence n).epoch = (s.presence n).epoch
    ∧ (u.presence n).drive = (s.presence n).drive ∧ (u.presence n).usable = (s.presence n).usable := by
  have hp : u.peers = s.peers := congrArg Steady.peers h.steady
  have hn : u.station = s.station := congrArg Steady.station h.steady
  have hpow : u.power = s.power := congrArg Steady.power h.steady
  have hr : u.mirror.role = s.mirror.role := congrArg Steady.role h.steady
  have he : u.mirror.epoch = s.mirror.epoch := congrArg Steady.epoch h.steady
  have hu : u.drive.usable = s.drive.usable := congrArg Steady.usable h.steady
  unfold State.presence
  rw [hn, hp]
  split
  · unfold State.ownEntry
    dsimp only
    rw [hpow, hr, he, hu, h.drive]
    exact ⟨rfl, rfl, rfl, rfl, rfl⟩
  · exact ⟨rfl, rfl, rfl, rfl, rfl⟩

theorem linkNow_of_inputs (h : SameLinkInputs s u) (hd : u.mirror.dirty = s.mirror.dirty ∨ s.linkNow.together = false) :
    u.linkNow = s.linkNow := by
  have hr : u.mirror.role = s.mirror.role := congrArg Steady.role h.steady
  have he : u.mirror.epoch = s.mirror.epoch := congrArg Steady.epoch h.steady
  have hu : u.drive.usable = s.drive.usable := congrArg Steady.usable h.steady
  have hp : u.partner = s.partner := partner_of_steady (congrArg Steady.settings h.steady)
  have hn := presence_eq h
  unfold State.linkNow at *
  rw [hr, h.inUse, hp]
  cases hrole : s.mirror.role with
  | single | notLoaded => rfl
  | primary =>
    rw [hrole] at hd
    dsimp only at hd ⊢
    cases hi : s.recordInUse with
    | false => rfl
    | true =>
      cases hq : s.partner with
      | none => rfl
      | some n =>
        obtain ⟨h₁, h₂, h₃, h₄, h₅⟩ := hn n
        simp only [hi, hq, Bool.not_true, Bool.false_eq_true, if_false] at hd ⊢
        rw [h₁, h₂, h₃, h₄, h₅, he, hu]
        split at hd
        · rename_i h
          simp only [if_pos h]
        · rename_i h
          simp only [if_neg h]
          split at hd
          · rename_i hsize
            simp only [if_pos hsize]
          · rename_i hsize
            simp only [if_neg hsize]
            rcases hd with hd | hd
            · rw [hd]
            · split at hd <;> cases hd
  | secondary =>
    dsimp only
    cases hi : s.recordInUse with
    | false => rfl
    | true =>
      cases hq : s.partner with
      | none => rfl
      | some n =>
        obtain ⟨h₁, h₂, h₃, h₄, h₅⟩ := hn n
        simp only [Bool.not_true, Bool.false_eq_true, if_false]
        rw [h₁, h₂, h₃, h₅, he, hu, h.drive]

/-! ## The link judged -/

theorem dirty_endReplica (k : Key) (b : Bool) (s : State) : (endReplica k b s).mirror.dirty = s.mirror.dirty := by
  unfold endReplica
  split
  · dsimp only
    split
    · exact (grows_setBehind _).dirty
    · rfl
  · rfl

theorem dirty_stopResync (s : State) : (stopResync false s).mirror.dirty = s.mirror.dirty := by
  obtain ⟨hf, -, -⟩ := stopResync_spec s
  rw [hf]

/-- A link in which the partner copies leaves the dirty map. -/
theorem dirty_linkLeft {a b : Link} (h : b.together = true) (s : State) : (linkLeft a b s).mirror.dirty = s.mirror.dirty := by
  have hfold : ∀ (l : List Entry) (v : State), (l.foldl (fun s e => endReplica e.key true s) v).mirror.dirty = v.mirror.dirty := by
    intro l
    induction l with
    | nil => exact fun _ => rfl
    | cons e l ih => exact fun v => (ih _).trans (dirty_endReplica _ _ v)
  have h₁ : ∀ c : Prop, [Decidable c] → (if c then
      ((setBehind s).request.queue.filter fun e =>
        e.kind == .replica && (e.state == .dataIn || e.state == .queued)).foldl (fun s e => endReplica e.key true s) (setBehind s)
      else s).mirror.dirty = s.mirror.dirty := fun c _ => by
    split
    · exact (hfold _ _).trans (grows_setBehind s).dirty
    · rfl
  unfold linkLeft
  dsimp only
  rw [if_neg (c := a = .resyncing ∧ (!b.together) = true) (by simp [h]), if_neg (by simp [h])]
  exact h₁ _

theorem judgeLink_link (s : State) : (judgeLink s).mirror.link = s.linkNow := by
  unfold judgeLink
  dsimp only
  split
  · assumption
  · exact (linkKept_linkLeft _ _ _).link

theorem judgeLink_dirty (s : State) : (judgeLink s).mirror.dirty = s.mirror.dirty ∨ s.linkNow.together = false := by
  unfold judgeLink
  dsimp only
  split
  · exact .inl rfl
  · cases hb : s.linkNow.together with
    | true => exact .inl (dirty_linkLeft hb _)
    | false => exact .inr rfl

theorem state_of_offWork (h : u.offWork = s.offWork) : u.drive.state = s.drive.state :=
  have hd : u.offWork.drive.state = s.offWork.drive.state := congrArg (·.drive.state) h
  hd

theorem judgeLink_inputs (s : State) : SameLinkInputs s (judgeLink s) where
  steady := steady_judgeLink s
  inUse := by
    unfold judgeLink
    dsimp only
    split
    · rfl
    · exact (linkKept_linkLeft _ _ _).inUse
  drive := state_of_offWork (offWork_judgeLink s)

/-- R125: leaving FOLLOWING sets the behind flag of a SECONDARY. -/
theorem judgeLink_behind (hl : s.mirror.link = .following) (hr : s.mirror.role = .secondary) (hn : s.linkNow ≠ .following) :
    (judgeLink s).mirror.behind = true := by
  have hset : ∀ v : State, v.mirror.role = .secondary → (setBehind v).mirror.behind = true := fun v hv => by
    unfold setBehind
    split
    · rfl
    · rename_i h
      exact Bool.eq_true_of_not_eq_false fun hb => h ⟨hv, hb⟩
  have h₂ : ∀ (a b : Link) (w : State), LinkKept w (if a.together = true ∧ (!b.together) = true ∧ w.mirror.role = .primary then
      endWaits .okDegraded true w else w) := fun a b w => by
    split
    · exact linkKept_endWaits _ _ w
    · exact .refl w
  have h₃ : ∀ (a b : Link) (w : State), LinkKept w (if a = .resyncing ∧ (!b.together) = true then stopResync false w else w) :=
    fun a b w => by
    split
    · exact linkKept_stopResync w
    · exact .refl w
  unfold judgeLink
  dsimp only
  rw [if_neg fun h => hn (h.symm.trans hl), hl]
  unfold linkLeft
  dsimp only
  rw [if_pos (c := Link.following = .following ∧ s.linkNow ≠ .following) ⟨rfl, hn⟩]
  refine (h₃ _ _ _).behind ((h₂ _ _ _).behind ((linkKept_foldl _ (fun v e => linkKept_endReplica _ _ v) _ _).behind (hset _ hr)))

/-- R135: a PRIMARY that leaves its partner ends the waits for its copies. -/
theorem judgeLink_waits (hl : s.mirror.link.together = true) (hr : s.mirror.role = .primary) (hn : s.linkNow.together = false) :
    (judgeLink s).NoWaits := by
  have hne : s.mirror.link ≠ s.linkNow := fun h => by rw [h, hn] at hl; cases hl
  have h₃ : ∀ (a b : Link) (w : State), LinkKept w (if a = .resyncing ∧ (!b.together) = true then stopResync false w else w) :=
    fun a b w => by
    split
    · exact linkKept_stopResync w
    · exact .refl w
  unfold judgeLink
  dsimp only
  rw [if_neg hne]
  unfold linkLeft
  dsimp only
  have hfol : ¬ (s.mirror.link = .following ∧ s.linkNow ≠ .following) := fun h => by rw [h.1] at hl; cases hl
  rw [if_neg hfol]
  refine (h₃ _ _ _).waits ?_
  rw [if_pos ⟨hl, by rw [hn]; rfl, hr⟩]
  exact noWaits_endWaits _ _ _

/-! ## The link at the end of the tests -/

/-- What the link's judgement leaves. -/
def judged (b s : State) : State := judgeLink (hotAction (edged b s))

theorem linked_judged (b s : State) : linked b s = startResync (dropPromotion (judged b s)) := rfl

theorem linkKept_worked (b s : State) : LinkKept (judged b s) (worked b s) := by
  have hw : worked b s = settlePages (settleSlots b (settleLane (resyncWakeTest (linked b s)))) := rfl
  rw [hw, linked_judged]
  exact (linkKept_dropPromotion _).trans ((linkKept_startResync _).trans ((linkKept_resyncWakeTest _).trans
    ((linkKept_settleLane _).trans ((linkKept_settleSlots b _).trans (linkKept_settlePages _)))))

theorem linkKept_settle (b : State) (h : s.takesPart = true) : LinkKept (judged b s) (settle b s) := by
  have h₁ : ∀ v : State, LinkKept v (reportNeed v) := fun _ => ⟨rfl, rfl, id, id⟩
  have h₂ : ∀ v : State, LinkKept v (updateIdle v) := fun _ => ⟨rfl, rfl, id, id⟩
  have hb : (budgeted b s).offClaim = (reportNeed (worked b s)).offClaim := offClaim_settleBudget _
  rw [settle_eq b h]
  exact (linkKept_worked b s).trans ((h₁ _).trans ((linkKept_of_offClaim hb).trans ((h₂ _).trans
    ((linkKept_of_offWatch (offWatch_settleWatch _ _)).trans (linkKept_of_offAnnounce (offAnnounce_announceChange b _))))))

theorem grows_dropPromotion (s : State) : Grows s (dropPromotion s) := by
  have hm : Grows s (s.onMirror fun m => { m with promotion := none }) := ⟨rfl, rfl, fun _ h => h⟩
  unfold dropPromotion
  split
  · split
    · dsimp only
      split
      · exact hm.trans (grows_endEntry _ rfl _)
      · exact hm
    · exact .refl s
  · exact .refl s

theorem grows_startResync (s : State) : Grows s (startResync s) := by
  unfold startResync
  split
  · split
    · exact ⟨rfl, rfl, fun _ h => List.mem_append_left _ h⟩
    · exact .refl s
  · exact .refl s

theorem dirty_settle (b : State) (h : s.takesPart = true) : (settle b s).mirror.dirty = (judged b s).mirror.dirty := by
  obtain ⟨hm, -⟩ := mirror_settle b h
  obtain ⟨hd, -⟩ := worked_keeps isResyncWake b s
  have hj := ((grows_dropPromotion (judged b s)).trans (grows_startResync _)).dirty
  rw [hm, hd, resyncWakeTest_keeps, linked_judged, hj]

theorem steady_judged (b s : State) : (judged b s).steady = s.steady := by simp [judged, edged]

theorem link_hot (b s : State) : (hotAction (edged b s)).mirror.link = s.mirror.link :=
  ((linkKept_edged b s).trans (linkKept_hotAction _)).link

theorem steady_hot (b s : State) : (hotAction (edged b s)).steady = s.steady := by simp [edged]

/-- R123, R124: after every event the link is what its inputs give. -/
theorem link_settle (b : State) (h : s.takesPart = true) :
    (settle b s).mirror.link = (settle b s).linkNow
      ∧ (hotAction (edged b s)).linkNow = (settle b s).linkNow := by
  have hkept := linkKept_settle b h
  have hlink : (judged b s).mirror.link = _ := judgeLink_link (hotAction (edged b s))
  have hdirty : (judged b s).mirror.dirty = _ ∨ _ := judgeLink_dirty (hotAction (edged b s))
  have hin : SameLinkInputs _ (judged b s) := judgeLink_inputs (hotAction (edged b s))
  have hd := dirty_settle b h
  have hst := (steady_settle s b).trans (steady_hot b s).symm
  have hdrive := (drive_hot b h).1
  generalize judged b s = j at *
  generalize hotAction (edged b s) = v at *
  have hinputs : SameLinkInputs v (settle b s) := ⟨hst, hkept.inUse.trans hin.inUse, hdrive⟩
  have hnow := linkNow_of_inputs hinputs (hdirty.imp_left fun h => hd.trans h)
  exact ⟨hkept.link.trans (hlink.trans hnow.symm), hnow.symm⟩

theorem behind_settle (b : State) (h : s.takesPart = true) (hl : s.mirror.link = .following)
    (hr : s.mirror.role = .secondary) (hn : (settle b s).mirror.link ≠ .following) : (settle b s).mirror.behind = true := by
  obtain ⟨h₁, h₂⟩ := link_settle b h
  have hrole : (hotAction (edged b s)).mirror.role = .secondary := (congrArg Steady.role (steady_hot b s)).trans hr
  exact (linkKept_settle b h).behind (judgeLink_behind ((link_hot b s).trans hl) hrole fun hc => hn (h₁.trans (h₂.symm.trans hc)))

theorem waits_settle_link (b : State) (h : s.takesPart = true) (hl : s.mirror.link.together = true)
    (hr : s.mirror.role = .primary) (hn : (settle b s).mirror.link.together = false) : (settle b s).NoWaits := by
  obtain ⟨h₁, h₂⟩ := link_settle b h
  have hrole : (hotAction (edged b s)).mirror.role = .primary := (congrArg Steady.role (steady_hot b s)).trans hr
  refine (linkKept_settle b h).waits (judgeLink_waits (by rw [link_hot]; exact hl) hrole ?_)
  rw [h₂, ← h₁]
  exact hn

end

/-! What a FOLLOWING secondary makes of its partner's WRITE and DATA (R126, R127). -/

section
variable {s v : State} {o t : Station} {p : List Byte} {a : AnswerSlot} {tag : Tag} {x : Extent} {b : DataBody}
  {b' : BusPort} {q : Vector PresenceEntry 16} {w : WatchUnit}

/-! ## The messages heard -/

/-- A message for another station, not a sleeping one, is in force where somebody acknowledges it. -/
theorem hearWrite_other (ht : s.takesPart = true) (ho : o ≠ s.station) (hs : t ≠ s.station) (hn : s.answersFor t = false)
    (ha : a.ack = true) (hp : parseExtent p = some (tag, x)) :
    hearWrite o t p a s = writeInForce o t (tag, x) .nothing (heard o (s.answers .nothing)) :=
  hear_inForce (d := .nothing) ht ho hp ((if_neg hs).trans (proxyRefuse_not hn)) (by simp [targetedInForce, ha])

theorem hearData_other (ht : s.takesPart = true) (ho : o ≠ s.station) (hs : t ≠ s.station)
    (ha : a.ack = true) (hp : parseData p = some b) :
    hearData o t p a s = dataInForce o t b .nothing (heard o (s.answers .nothing)) := by
  refine hear_inForce (d := .nothing) ht ho hp ?_ (by simp [targetedInForce, ha])
  have hf : (t == s.station) = false := by simpa using hs
  unfold dataAnswer
  rw [hf]
  rfl

/-- The station has heard another one, without an answer. -/
theorem heard_unanswered (o : Station) (s : State) :
    ∃ b q w, heard o (s.answers .nothing) = s.hearing b q w := ⟨_, _, _, heard_answers_eq o .nothing s⟩

/-! ## A WRITE (R126) -/

theorem writeInForce_other (hs : t ≠ s.station) (hl : s.mirror.link = .following) (hp : s.partner = some t) (d : Answer) :
    writeInForce o t (tag, x) d s =
      if s.passesSize x then s
      else if s.room ⟨o, tag⟩ x.count then enqueue (newEntry ⟨o, tag⟩ .replica (some x) none s) s
      else readyNotedMiss ⟨o, tag⟩ x s := by
  unfold writeInForce snoopWrite
  rw [if_neg hs, if_pos ⟨hl, hp⟩]

theorem readyNotedMiss_first {k : Key} (hp : s.partner = some t) (hr : s.mirror.role = .secondary) (ho : s.mirror.out = []) :
    (readyNotedMiss k x s).steady = s.steady ∧ (readyNotedMiss k x s).mirror.behind = true
      ∧ (readyNotedMiss k x s).mirror.out = [.mirrorMiss t k x.start x.count 0 false]
      ∧ (readyNotedMiss k x s).request = s.request := by
  have hready : readyNotedMiss k x s = setBehind (mirrorReady (.mirrorMiss t k x.start x.count 0 false) s) := by
    unfold readyNotedMiss
    rw [hp]
    refine congrArg setBehind (if_pos ?_)
    rw [ho]
    decide
  obtain ⟨c, hb, -⟩ := setBehind_eq (mirrorReady (.mirrorMiss t k x.start x.count 0 false) s)
  rw [hready]
  refine ⟨(steady_setBehind _).trans rfl, ?_, ?_, ?_⟩
  · rw [hb]
    show (s.mirror.role == .secondary || s.mirror.behind) = true
    rw [hr]
    rfl
  · rw [hb]
    show s.mirror.out ++ _ = _
    rw [ho]
    rfl
  · rw [hb]
    rfl

/-- The steady part that hearing another station leaves, and the outcome of a message in force for another station. -/
theorem does_snooped {c : Instr} {f : State → State} {effect : State → State} {K : Steady → Steady} {P : State → Prop}
    (ht : s.takesPart = true) (hc : exec c s = takeEvent f s) (hf : f s = effect (heard o (s.answers .nothing)))
    (hk : ∀ b q w, (effect (s.hearing b q w)).steady = K (s.hearing b q w).steady)
    (hP : ∀ b q w, P (effect (s.hearing b q w))) :
    Does c s (K { s.steady with answer := .nothing, peers := s.heardFrom o }) P := by
  obtain ⟨b, q, w, hh⟩ := heard_unanswered o s
  refine does_event (notReset_of_takesPart ht) hc hf ?_ ?_
  · rw [← steady_heard_unanswered o s, hh]
    exact hk b q w
  · rw [hh]
    exact hP b q w

theorem room_false_of_full {k : Key} {n : Nat} (h : 16 ≤ s.request.queue.length) : s.room k n = false := by
  rw [← Bool.not_eq_true, room_iff]
  exact fun hr => absurd hr.1 (Nat.not_lt.mpr h)

/-! ## A DATA (R127) -/

theorem dataInForce_other (hs : t ≠ s.station) (hl : s.mirror.link = .following) (hp : s.partner = some t)
    (hr : b.resync = false) (d : Answer) : dataInForce o t b d s =
      if s.pieceFits ⟨o, b.tag⟩ .replica b.index then fillPiece ⟨o, b.tag⟩ b.index b.bytes s else setBehind s := by
  unfold dataInForce snoopData
  rw [if_neg hs, if_pos ⟨hl, hp, hr⟩]

theorem pieceFits_absent {i : Nat} {kind : EntryKind} {k : Key} (h : ∀ e ∈ s.request.queue, e.key ≠ k) :
    ¬ s.pieceFits k kind i = true := by
  rw [pieceFits_iff]
  rintro ⟨e, y, he, -⟩
  exact h e (entry_mem he) (entry_key he)

theorem behind_setBehind_secondary (h : s.mirror.role = .secondary) : (setBehind s).mirror.behind = true := by
  obtain ⟨c, hb, -⟩ := setBehind_eq s
  rw [hb]
  show (s.mirror.role == .secondary || s.mirror.behind) = true
  rw [h]
  rfl

theorem request_setBehind (s : State) : (setBehind s).request = s.request := by
  obtain ⟨c, hb, -⟩ := setBehind_eq s
  rw [hb]
  rfl

end

/-- R123, R124: the link by role, record, partner and what the partner's PRESENCE says. -/
theorem linkNow_eq (s : State) : s.linkNow =
    (let used : Bool := s.mirror.cond == .opened || s.mirror.cond == .closed
     match s.mirror.role with
     | .single => .none
     | .notLoaded => .unloaded
     | .primary | .secondary =>
       if !used then .unloaded
       else
         match s.partner with
         | none => .apart
         | some n =>
           let p := s.presence n
           let primary : Bool := s.mirror.role == .primary
           if p.state ≠ .listening ∨ p.role ≠ (if primary then .secondary else .primary)
               ∨ p.epoch ≠ s.mirror.epoch ∨ (if primary then p.drive else s.drive.state) = .fault then .apart
           else if p.usable ≠ s.drive.usable then .mismatched
           else if primary then (if s.mirror.dirty = 0 then .inStep else .resyncing)
           else .following) := by
  unfold State.linkNow State.recordInUse
  cases hr : s.mirror.role with
  | single => rfl
  | notLoaded => rfl
  | secondary => cases s.partner <;> rfl
  | primary =>
    cases s.partner with
    | none => rfl
    | some n => by_cases hd : s.mirror.dirty = 0 <;> simp [hd]

/-- Settles O33. -/
theorem followingSecondarySnoops : Obligations.FollowingSecondarySnoops := by
  unfold Obligations.FollowingSecondarySnoops
  refine ⟨fun b s ht => ?link, ?snoops⟩
  case link =>
    obtain ⟨hlink, -⟩ := link_settle b ht
    have hbehind := behind_settle b ht
    have hwaits := waits_settle_link b ht
    intro t used
    refine ⟨?_, hbehind, fun hl hr h₁ h₂ => hwaits ((together_iff _).mpr hl) hr ?_⟩
    · exact hlink.trans (linkNow_eq t)
    · exact Bool.eq_false_iff.mpr fun hc => ((together_iff _).mp hc).elim h₁ h₂
  case snoops =>
    intro s o t p a ht ho hs hp hl hn ha seen
    have hwrite : ∀ {tag : Tag} {x : Extent}, parseExtent p = some (tag, x) → _ := fun h =>
      hearWrite_other (tag := _) ht ho hs hn ha h
    have hother : ∀ (tag : Tag) (x : Extent) (b q w), writeInForce o t (tag, x) .nothing (s.hearing b q w) = _ :=
      fun tag x b q w => writeInForce_other (s := s.hearing b q w) (o := o) (tag := tag) (x := x) hs hl hp .nothing
    refine ⟨fun tag x hx hsize => ⟨fun hlen hk hfree => ?_, fun hlen hr hout => ?_⟩, fun tag x hx hu hsize => ?_,
      fun b hb hres => ⟨fun hk hr => ?_, fun e x he hst hkind hext hi hnew => ?_⟩⟩
    · have hroom : ∀ b q w, writeInForce o t (tag, x) .nothing (s.hearing b q w)
          = enqueue (newEntry ⟨o, tag⟩ .replica (some x) none (s.hearing b q w)) (s.hearing b q w) := fun b q w =>
        (hother tag x b q w).trans ((if_neg (Bool.eq_false_iff.mp (passesSize_false (s := s.hearing b q w) hsize))).trans
          (if_pos (room_true (s := s.hearing b q w) hlen hk hfree)))
      refine does_snooped (K := id) ht rfl (hwrite hx) (fun b q w => ?_) fun b q w => ?_
      · rw [hroom]
        exact steady_enqueue _ _
      · rw [hroom]
        rfl
    · have hmiss : ∀ b q w, writeInForce o t (tag, x) .nothing (s.hearing b q w)
          = readyNotedMiss ⟨o, tag⟩ x (s.hearing b q w) := fun b q w =>
        (hother tag x b q w).trans ((if_neg (Bool.eq_false_iff.mp (passesSize_false (s := s.hearing b q w) hsize))).trans
          (if_neg (Bool.eq_false_iff.mp (room_false_of_full (s := s.hearing b q w) hlen))))
      have hfirst : ∀ b q w, _ := fun b q w =>
        readyNotedMiss_first (s := s.hearing b q w) (x := x) (k := ⟨o, tag⟩) hp hr hout
      refine does_snooped (K := id) ht rfl (hwrite hx) (fun b q w => ?_) fun b q w => ?_
      · rw [hmiss]
        exact (hfirst b q w).1
      · rw [hmiss]
        exact (hfirst b q w).2
    · have hpast : ∀ b q w, writeInForce o t (tag, x) .nothing (s.hearing b q w) = s.hearing b q w := fun b q w =>
        (hother tag x b q w).trans (if_pos (passesSize_iff.mpr ⟨hu, hsize⟩))
      refine does_snooped (K := id) ht rfl (hwrite hx) (fun b q w => congrArg State.steady (hpast b q w)) fun b q w => ?_
      rw [hpast]
      exact ⟨rfl, rfl⟩
    · have hlost : ∀ b' q w, dataInForce o t b .nothing (s.hearing b' q w) = setBehind (s.hearing b' q w) := fun b' q w =>
        (dataInForce_other (s := s.hearing b' q w) hs hl hp hres .nothing).trans
          (if_neg (pieceFits_absent (s := s.hearing b' q w) hk))
      refine does_snooped (K := id) ht rfl (hearData_other ht ho hs ha hb) (fun b' q w => ?_) fun b' q w => ?_
      · rw [hlost]
        exact steady_setBehind _
      · rw [hlost]
        exact ⟨behind_setBehind_secondary hr, request_setBehind _⟩
    · have hfill : ∀ b' q w, dataInForce o t b .nothing (s.hearing b' q w)
          = fillPiece ⟨o, b.tag⟩ b.index b.bytes (s.hearing b' q w) := fun b' q w =>
        (dataInForce_other (s := s.hearing b' q w) hs hl hp hres .nothing).trans
          (if_pos (pieceFits_iff.mpr ⟨e, x, he, hst, hkind, hext, hi⟩))
      obtain ⟨b', q, w, hheard⟩ := heard_unanswered o s
      refine leaves_event (notReset_of_takesPart ht) rfl (hearData_other ht ho hs ha hb) ?_
      have hsteady := steady_heard_unanswered o s
      rw [hheard] at hsteady ⊢
      rw [hfill, steady_fillPiece (s := s.hearing b' q w) he hnew, hsteady]
      rfl

/-! Replies about the mirror record: a load, a record write and a promotion write (R140, R141, R143, R159). -/

section
variable {s u v : State} {f : Flight} {c : Settings} {g i : RecordFields} {r : LaneReply}

/-! ## A load (R140, R141) -/

theorem recordLoaded_eq (hf : s.drive.flight = some f) (hr : f.requester = .recordLoad) (hc : s.settings = some c)
    {block : Option (List Byte)} (hb : loadedBlock r = block) {found : Option RecordFields}
    (hfound : (block.bind fun b => readableRecord c s.drive.usable.toNat b) = found) : recordLoaded r s =
    (freeLane s).onMirror fun m => { m with
      image := some (loadedImage c s.drive.usable.toNat found).1
      notedBehind := (loadedImage c s.drive.usable.toNat found).2
      cond := .opening, blockStore := block.getD m.blockStore, calls := { m.calls with opening := true } } := by
  subst hb
  subst hfound
  have hload : f.isLoad = true := beq_iff_eq.mpr hr
  unfold recordLoaded
  simp only [hf, hc]
  exact if_pos hload

theorem loadedBlock_ok {b : List Byte} (hl : b.length = 512) : loadedBlock (.ok [b]) = some b :=
  congrArg some (fit_of_length b hl)

theorem readableRecord_some {n : Nat} {b : List Byte} (hp : parseRecord b = some g) (h : g.partner = c.partner
    ∧ g.regionSize = (n + 255) / 256 ∧ (g.role = .single ↔ c.mode = .single)) : readableRecord c n b = some g := by
  unfold readableRecord
  simp only [hp]
  exact if_pos h

theorem readableRecord_none {n : Nat} {b : List Byte} (h : ∀ g, parseRecord b = some g → ¬ (g.partner = c.partner
    ∧ g.regionSize = (n + 255) / 256 ∧ (g.role = .single ↔ c.mode = .single))) : readableRecord c n b = none := by
  unfold readableRecord
  cases hp : parseRecord b with
  | none => rfl
  | some g => exact if_neg (h g hp)

/-! ## A record write (R143) -/

/-- The condition that a record write's reply gives. -/
def recordCond (g : RecordFields) : LaneReply → RecordCond
  | .ok _ => if g.clean then .closed else .opened
  | .mediaError _ _ => .opened

/-- The mirror unit after a record write's reply, but for its calls. -/
def MirrorUnit.written (g : RecordFields) (r : LaneReply) (m : MirrorUnit) : MirrorUnit :=
  match r with
  | .ok _ => { m with image := some g, cond := recordCond g r }
  | .mediaError _ _ => { m with cond := recordCond g r, recordErrors := satInc m.recordErrors }

/-- The calls after a record write's reply: a record that becomes CLOSED is called for by a write-like entry in QUEUED and by
a mark that the write does not carry (logs 14 and 50). -/
def State.callsWritten (g : RecordFields) (r : LaneReply) (s : State) : RecordCalls :=
  { s.mirror.calls with
    writeQueued := s.mirror.calls.writeQueued
      || (recordCond g r == .closed && s.request.queue.any fun e => e.state == .queued && e.kind.writeLike)
    mark := s.mirror.calls.mark || (recordCond g r == .closed && s.mirror.dirty &&& ~~~g.dirty != 0) }

theorem callForQueued_eq (s : State) : callForQueued s = s.onMirror fun x => { x with calls := { x.calls with
    writeQueued := x.calls.writeQueued
      || (s.mirror.cond == .closed && s.request.queue.any fun e => e.state == .queued && e.kind.writeLike) } } := by
  unfold callForQueued
  split
  case isTrue h => simp [h.1, h.2]
  case isFalse h =>
    have hn : (s.mirror.cond == .closed && s.request.queue.any fun e => e.state == .queued && e.kind.writeLike) = false :=
      Bool.eq_false_iff.mpr fun hc => h ⟨beq_iff_eq.mp (Bool.and_eq_true_iff.mp hc).1, (Bool.and_eq_true_iff.mp hc).2⟩
    simp only [hn, Bool.or_false]
    rfl

theorem callForMissed_eq (w : BitVec 256) (s : State) : callForMissed w s = s.onMirror fun x => { x with calls := { x.calls with
    mark := x.calls.mark || (s.mirror.cond == .closed && s.mirror.dirty &&& ~~~w != 0) } } := by
  unfold callForMissed
  split
  case isTrue h =>
    have hy : (s.mirror.cond == .closed && s.mirror.dirty &&& ~~~w != 0) = true :=
      Bool.and_eq_true_iff.mpr ⟨beq_iff_eq.mpr h.1, bne_iff_ne.mpr h.2⟩
    simp only [hy, Bool.or_true]
  case isFalse h =>
    have hn : (s.mirror.cond == .closed && s.mirror.dirty &&& ~~~w != 0) = false :=
      Bool.eq_false_iff.mpr fun hc => h ⟨beq_iff_eq.mp (Bool.and_eq_true_iff.mp hc).1, bne_iff_ne.mp (Bool.and_eq_true_iff.mp hc).2⟩
    simp only [hn, Bool.or_false]
    rfl

theorem recordWritten_eq (g : RecordFields) (r : LaneReply) (s : State) : recordWritten g r s =
    s.onMirror fun m => { m.written g r with calls := s.callsWritten g r } := by
  unfold recordWritten
  rw [callForMissed_eq, callForQueued_eq]
  cases r <;> rfl

theorem missed_iff (d w : BitVec 256) :
    (d &&& ~~~w != 0) = true ↔ ∃ r : Fin 256, d.getLsbD r = true ∧ w.getLsbD r = false := by
  rw [bne_iff_ne]
  constructor
  · intro h
    refine Classical.byContradiction fun hn => h (BitVec.eq_of_getLsbD_eq fun j hj => ?_)
    have hj' : ¬ (d.getLsbD j = true ∧ w.getLsbD j = false) := fun hc => hn ⟨⟨j, hj⟩, hc⟩
    cases hd : d.getLsbD j <;> cases hw : w.getLsbD j <;> simp_all
  · rintro ⟨j, hd, hw⟩ hz
    have hbit : (d &&& ~~~w).getLsbD j = false := by
      rw [hz]
      exact BitVec.getLsbD_zero
    rw [BitVec.getLsbD_and, BitVec.getLsbD_not, hd, hw, decide_eq_true j.isLt] at hbit
    cases hbit

theorem recordCond_closed (g : RecordFields) (bs : List (List Byte)) :
    (recordCond g (.ok bs) == .closed) = g.clean := by
  unfold recordCond
  cases g.clean <;> rfl

/-- The lane after a record write's reply: the SYNC of spin-down follows (R78). -/
theorem recordWriteReply_eq {cmd : LaneCmd} {q : RecordCalls} {t : Tick}
    (hf : s.drive.flight = some { cmd := cmd, requester := .recordWrite g q, start := t }) :
    (s.mirror.cond ≠ .opening → recordWriteReply r s =
        (if s.drive.state = .spinDown then sendSpinDownSync (recordWritten g r (freeLane s))
         else recordWritten g r (freeLane s)))
      ∧ (s.mirror.cond = .opening → s.mirror.image = some i → recordWriteReply r s =
        (let v := completeOpening i (recordWritten g r (freeLane s))
         if v.drive.state = .spinDown then sendSpinDownSync v else v)) := by
  unfold recordWriteReply
  simp only [hf]
  refine ⟨fun h => ?_, fun h hi => ?_⟩
  · have hn : (s.mirror.cond == .opening) = false := beq_eq_false_iff_ne.mpr h
    have hd : (recordWritten g r (freeLane s)).drive.state = s.drive.state := by
      rw [recordWritten_eq]
      rfl
    simp only [hn, Bool.false_eq_true, if_false]
    cases s.mirror.image <;> simp only [hd]
  · simp only [hi, h, beq_self_eq_true, if_true]

/-- What follows a reply about the record in SPIN_DOWN. -/
theorem spinDown_follows (hs : u.drive.state = s.drive.state) (hf : u.drive.flight = none) (ht : u.tick = s.tick) :
    (if u.drive.state = .spinDown then sendSpinDownSync u else u).steady = u.steady
      ∧ (if u.drive.state = .spinDown then sendSpinDownSync u else u).mirror = u.mirror
      ∧ (if u.drive.state = .spinDown then sendSpinDownSync u else u).drive.flight
        = if s.drive.state = .spinDown then some { cmd := .sync, requester := .port, start := s.tick } else none := by
  rw [hs]
  split
  · refine ⟨rfl, rfl, ?_⟩
    rw [← ht]
    rfl
  · exact ⟨rfl, rfl, hf⟩

end

/-! ## What an opening keeps (R141) -/

section
variable {s u v : State}

/-- The record's condition and the drive port are as they were. -/
structure KeepsRecord (s u : State) : Prop where
  cond : u.mirror.cond = s.mirror.cond
  drive : u.drive = s.drive

theorem KeepsRecord.refl (s : State) : KeepsRecord s s := ⟨rfl, rfl⟩

theorem KeepsRecord.trans (h₁ : KeepsRecord s u) (h₂ : KeepsRecord u v) : KeepsRecord s v :=
  ⟨h₂.cond.trans h₁.cond, h₂.drive.trans h₁.drive⟩

theorem keepsRecord_markRegions (m : BitVec 256) (s : State) : KeepsRecord s (markRegions m s) := by
  obtain ⟨c, r, h⟩ := markRegions_frame m s
  rw [h]
  exact ⟨rfl, rfl⟩

theorem keepsRecord_stopResync (hf : s.drive.flight = none) (hold : Bool) : KeepsRecord s (stopResync hold s) := by
  obtain ⟨b, l, hw⟩ := withdrawEngine_frame s
  have hn : s.chunkReading = false := by
    unfold State.chunkReading
    rw [hf]
  unfold stopResync
  split
  · exact .refl s
  · simp only [hn, Bool.false_eq_true, if_false]
    rw [hw]
    exact ⟨rfl, rfl⟩

theorem keepsRecord_changeRole (hf : s.drive.flight = none) (role : Role) (epoch : Nat) (dirty : BitVec 256) (behind : Bool) :
    KeepsRecord s (changeRole role epoch dirty behind s) := by
  have hleave : KeepsRecord s (if s.mirror.role = .primary ∧ role ≠ .primary then endWaits .role false (stopResync false s)
      else s) := by
    split
    · obtain ⟨r, c, hw⟩ := endWaits_frame (st := .role) rfl nofun (stopResync false s)
      rw [hw]
      exact (keepsRecord_stopResync hf false).trans ⟨rfl, rfl⟩
    · exact .refl s
  unfold changeRole
  dsimp only
  split
  · exact hleave.trans ⟨rfl, rfl⟩
  · refine KeepsRecord.trans ?_ (keepsRecord_markRegions _ _)
    exact hleave.trans ⟨rfl, rfl⟩

theorem keepsRecord_roleTest (hf : s.drive.flight = none) (role : Role) (f : Nat) : KeepsRecord s (roleTest role f s) := by
  have hchange := keepsRecord_changeRole hf
  have hmark : KeepsRecord s (markAll s) := keepsRecord_markRegions _ s
  unfold roleTest
  split
  · exact .refl s
  · split
    · exact .refl s
    · dsimp only
      split
      all_goals repeat' split
      all_goals simp only [hchange, hmark, KeepsRecord.refl]

/-- The mirror unit with the image's values in force (R141). -/
def State.openedWith (i : RecordFields) (s : State) : State :=
  s.onMirror fun m =>
    { m with role := i.role, epoch := i.epoch, regionSize := i.regionSize, dirty := i.dirty, behind := m.notedBehind
             behindAnnounced := m.behindAnnounced && (m.behind || !m.notedBehind) }

theorem judgeLink_unloaded (hl : s.mirror.link = .unloaded) :
    judgeLink s = s.onMirror fun x => { x with link := s.linkNow } := by
  unfold judgeLink
  simp only [hl]
  split
  case isTrue h =>
    rw [← h, ← hl]
    rfl
  case isFalse => simp [linkLeft, Link.together]

/-- The role, map and behind flag with which an opening comes into force, `n` being a LISTENING partner. -/
def State.heardRole (s : State) : Option (Role × Nat × Bool) :=
  s.partner.bind fun n =>
    let p := s.presence n
    if p.state = .listening then some (p.role, p.epoch, decide (s.station < n)) else none

/-- R156 with what is heard of the partner. -/
def openedRole (mine : Role × Nat) : Option (Role × Nat × Bool) → Role × Nat
  | some (r, f, l) => settledRole l mine (r, f)
  | none => mine

def openedMap (mine : Role × Nat) (map : BitVec 256) (heard : Option (Role × Nat × Bool)) : BitVec 256 :=
  match heard with
  | some (r, f, _) => settledMap mine (r, f) (openedRole mine heard) map
  | none => map

theorem presence_other {n : Station} (h : n ≠ s.station) : s.presence n = s.peers[n] := if_neg h

/-- The station with the image's values in force and the link judged. -/
def State.opened (i : RecordFields) (s : State) : State :=
  (s.openedWith i).onMirror fun x => { x with link := (s.openedWith i).linkNow }

theorem completeOpening_eq (i : RecordFields) (hl : s.mirror.link = .unloaded) : completeOpening i s =
    match s.partner with
    | some p =>
      if ((s.opened i).presence p).state = .listening then
        rejoinTest ((s.opened i).presence p).role ((s.opened i).presence p).epoch ((s.opened i).presence p).behind
          (roleTest ((s.opened i).presence p).role ((s.opened i).presence p).epoch (s.opened i))
      else s.opened i
    | none => s.opened i := by
  have hjudge : judgeLink (s.openedWith i) = s.opened i := judgeLink_unloaded hl
  have hp : (s.opened i).partner = s.partner := rfl
  refine (show completeOpening i s = match (judgeLink (s.openedWith i)).partner with
    | some p =>
      if ((judgeLink (s.openedWith i)).presence p).state = .listening then
        rejoinTest ((judgeLink (s.openedWith i)).presence p).role ((judgeLink (s.openedWith i)).presence p).epoch
          ((judgeLink (s.openedWith i)).presence p).behind
          (roleTest ((judgeLink (s.openedWith i)).presence p).role ((judgeLink (s.openedWith i)).presence p).epoch
            (judgeLink (s.openedWith i)))
      else judgeLink (s.openedWith i)
    | none => judgeLink (s.openedWith i) from rfl).trans ?_
  rw [hjudge, hp]

/-- R141, R156: an opening brings the image's values into force, and then what the role test makes of them. -/
theorem completeOpening_spec {i : RecordFields} (hu : s.recordInUse = true) (hf : s.drive.flight = none)
    (hl : s.mirror.link = .unloaded) (hp : ∀ n, s.partner = some n → n ≠ s.station) :
    ∃ w l, (s.opened i).RoleTaken (openedRole (i.role, i.epoch) s.heardRole)
        (openedMap (i.role, i.epoch) i.dirty s.heardRole) w
      ∧ KeepsRecord (s.opened i) w ∧ completeOpening i s = w.onMirror fun x => { x with out := x.out ++ l } := by
  have hsame : ∀ v : State, v = v.onMirror fun x => { x with out := x.out ++ [] } := fun v => by
    simp only [List.append_nil]
    rfl
  have hkept : (s.opened i).RoleTaken (i.role, i.epoch) i.dirty (s.opened i) := .same (s.opened i)
  rw [completeOpening_eq i hl]
  unfold State.heardRole
  cases hn : s.partner with
  | none => exact ⟨s.opened i, [], hkept, .refl _, hsame _⟩
  | some n =>
    have hpres : (s.opened i).presence n = s.presence n :=
      (presence_other (s := s.opened i) (hp n hn)).trans (presence_other (hp n hn)).symm
    dsimp only [Option.bind_some]
    rw [hpres]
    by_cases hs : (s.presence n).state = .listening
    · rw [if_pos hs, if_pos hs]
      obtain ⟨l, hr⟩ := rejoinTest_frame (s.presence n).role (s.presence n).epoch (s.presence n).behind
        (roleTest (s.presence n).role (s.presence n).epoch (s.opened i))
      exact ⟨_, l, roleTaken_compared (s := s.opened i) hn hu, keepsRecord_roleTest (s := s.opened i) hf _ _, hr⟩
    · rw [if_neg hs, if_neg hs]
      exact ⟨s.opened i, [], hkept, .refl _, hsame _⟩

end

/-! What the replies about the mirror record bring about. -/

section
variable {s : State} {f : Flight} {c : Settings} {g i : RecordFields} {r : LaneReply} {cmd : LaneCmd} {q : RecordCalls}
  {t : Tick}

/-- The image, the condition and the counters that a record write's reply gives. -/
theorem steady_recordWritten (g : RecordFields) (r : LaneReply) (s : State) : (recordWritten g r (freeLane s)).steady =
    match r with
    | .ok _ => { s.steady with image := some g }
    | .mediaError _ _ => { s.steady with counters := s.counted 8 } := by
  rw [recordWritten_eq]
  cases r <;> rfl

/-- A record write's reply while the record is in use (R143). -/
theorem does_recordWritten (hreset : s.resetAsserted = false)
    (hf : s.drive.flight = some { cmd := cmd, requester := .recordWrite g q, start := t }) (hc : s.mirror.cond ≠ .opening) :
    ∃ u, exec (.recordWriteReply r) s = .next (settle s u)
      ∧ u.steady = (recordWritten g r (freeLane s)).steady ∧ u.mirror = (recordWritten g r (freeLane s)).mirror
      ∧ u.drive.flight
        = if s.drive.state = .spinDown then some { cmd := .sync, requester := .port, start := s.tick } else none := by
  have heq := (recordWriteReply_eq (r := r) (i := g) hf).1 hc
  have hd : (recordWritten g r (freeLane s)).drive = (freeLane s).drive ∧ (recordWritten g r (freeLane s)).tick = s.tick := by
    rw [recordWritten_eq]
    exact ⟨rfl, rfl⟩
  have hs : (recordWritten g r (freeLane s)).drive.state = s.drive.state := (congrArg DrivePort.state hd.1).trans rfl
  obtain ⟨h₁, h₂, h₃⟩ := spinDown_follows hs (congrArg DrivePort.flight hd.1) hd.2
  rw [hs] at h₁ h₂
  simp only [hs] at h₃
  rw [← heq] at h₁ h₂ h₃
  exact ⟨_, exec_event hreset rfl rfl, h₁, h₂, h₃⟩

/-- A record write's reply in OPENING (R141, R143): the image comes into force. -/
theorem does_opened (hreset : s.resetAsserted = false)
    (hf : s.drive.flight = some { cmd := cmd, requester := .recordWrite g q, start := t }) (hc : s.mirror.cond = .opening)
    (hi : s.mirror.image = some i) (hl : s.mirror.link = .unloaded) (hp : ∀ n, s.partner = some n → n ≠ s.station) :
    Does (.recordWriteReply r) s
      { (recordWritten g r (freeLane s)).steady with
        role := (openedRole (i.role, i.epoch) s.heardRole).1, epoch := (openedRole (i.role, i.epoch) s.heardRole).2
        regionSize := i.regionSize
        wakeInterval := if i.role = .primary ∧ (openedRole (i.role, i.epoch) s.heardRole).1 ≠ .primary then none
          else s.mirror.wakeInterval }
      fun u => u.mirror.cond = recordCond g r ∧ u.mirror.dirty = openedMap (i.role, i.epoch) i.dirty s.heardRole
        ∧ u.mirror.behind = settledBehind (i.role, i.epoch) (openedRole (i.role, i.epoch) s.heardRole) s.mirror.notedBehind
        ∧ u.drive.flight
          = if s.drive.state = .spinDown then some { cmd := .sync, requester := .port, start := s.tick } else none := by
  have heq := (recordWriteReply_eq (r := r) (i := i) hf).2 hc hi
  have hw := recordWritten_eq g r (freeLane s)
  generalize hv : recordWritten g r (freeLane s) = v at heq hw ⊢
  have hcond : v.mirror.cond = recordCond g r := by
    rw [hw]
    cases r <;> rfl
  have hlink : v.mirror.link = .unloaded := by
    rw [hw]
    cases r <;> exact hl
  have hwake : v.mirror.wakeInterval = s.mirror.wakeInterval := by
    rw [hw]
    cases r <;> rfl
  have hnoted : v.mirror.notedBehind = s.mirror.notedBehind := by
    rw [hw]
    cases r <;> rfl
  have hsame : v.drive = (freeLane s).drive ∧ v.tick = s.tick ∧ v.heardRole = s.heardRole ∧ v.partner = s.partner
      ∧ v.station = s.station := by
    rw [hw]
    cases r <;> exact ⟨rfl, rfl, rfl, rfl, rfl⟩
  obtain ⟨hdrive, htick, hheard, hpartner, hstation⟩ := hsame
  have huse : v.recordInUse = true := by
    unfold State.recordInUse
    rw [hcond]
    cases r with
    | ok => cases hg : g.clean <;> simp [recordCond, hg]
    | mediaError => rfl
  have hfree : v.drive.flight = none := congrArg DrivePort.flight hdrive
  obtain ⟨w, l, htaken, hkeeps, hopen⟩ := completeOpening_spec (i := i) huse hfree hlink (by rw [hpartner, hstation]; exact hp)
  rw [hheard] at htaken
  have hbefore : v.drive.state = s.drive.state := (congrArg DrivePort.state hdrive).trans rfl
  have hstate : w.drive.state = s.drive.state := (congrArg DrivePort.state hkeeps.drive).trans hbefore
  have hend : (completeOpening i v).drive.state = s.drive.state ∧ (completeOpening i v).drive.flight = none
      ∧ (completeOpening i v).tick = s.tick := by
    rw [hopen]
    exact ⟨hstate, (congrArg DrivePort.flight hkeeps.drive).trans hfree, (congrArg Steady.tick htaken.steady).trans htick⟩
  obtain ⟨h₁, h₂, h₃⟩ := spinDown_follows hend.1 hend.2.1 hend.2.2
  refine does_event hreset rfl heq (h₁.trans ?_) ?_
  · rw [hopen]
    refine (show (w.onMirror _).steady = w.steady from rfl).trans (htaken.steady.trans ?_)
    rw [← hwake]
    rfl
  · have hmirror := h₂.trans (congrArg State.mirror hopen)
    refine ⟨?_, ?_, ?_, h₃⟩
    · exact (congrArg MirrorUnit.cond hmirror).trans (hkeeps.cond.trans hcond)
    · exact (congrArg MirrorUnit.dirty hmirror).trans htaken.dirty
    · rw [← hnoted]
      exact (congrArg MirrorUnit.behind hmirror).trans htaken.behind

/-! ## The three replies -/

/-- R140, R141: what a load's reply brings about. -/
theorem recordLoad_replies {n : Nat} (hn : s.drive.usable.toNat = n) (hreset : s.resetAsserted = false) (hf : s.drive.flight = some f)
    (hr : f.requester = .recordLoad) (hc : s.settings = some c) {block : Option (List Byte)} (hb : loadedBlock r = block)
    {found : Option RecordFields} (hfound : (block.bind fun b => readableRecord c n b) = found) :
    Does (.recordLoadReply r) s { s.steady with image := some (loadedImage c n found).1 }
      fun u => u.mirror.cond = .opening ∧ u.mirror.calls.opening = true ∧ u.mirror.blockStore = block.getD s.mirror.blockStore
        ∧ u.mirror.notedBehind = (loadedImage c n found).2 ∧ u.drive.flight = none := by
  subst hn
  exact does_event hreset rfl (recordLoaded_eq hf hr hc hb hfound) rfl ⟨rfl, rfl, rfl, rfl, rfl⟩

/-- R143: the calls that stand after a record write's reply OK. -/
theorem callsWritten_ok (g : RecordFields) (bs : List (List Byte)) (s : State) :
    ((recordWritten g (.ok bs) (freeLane s)).mirror.calls.mark = true ↔ s.mirror.calls.mark = true
        ∨ g.clean = true ∧ ∃ r : Fin 256, s.mirror.dirty.getLsbD r = true ∧ g.dirty.getLsbD r = false)
      ∧ ((recordWritten g (.ok bs) (freeLane s)).mirror.calls.writeQueued = true ↔ s.mirror.calls.writeQueued = true
        ∨ g.clean = true ∧ ∃ e ∈ s.request.queue, e.state = .queued ∧ e.kind.writeLike = true) := by
  rw [recordWritten_eq]
  refine ⟨?_, ?_⟩
  · show (s.mirror.calls.mark || (recordCond g (.ok bs) == .closed && s.mirror.dirty &&& ~~~g.dirty != 0)) = true ↔ _
    rw [recordCond_closed, Bool.or_eq_true, Bool.and_eq_true, missed_iff]
  · show (s.mirror.calls.writeQueued || (recordCond g (.ok bs) == .closed
      && s.request.queue.any fun e => e.state == .queued && e.kind.writeLike)) = true ↔ _
    rw [recordCond_closed]
    simp [List.any_eq_true]

theorem cond_recordWritten (g : RecordFields) (r : LaneReply) (s : State) :
    (recordWritten g r (freeLane s)).mirror.cond = recordCond g r := by
  rw [recordWritten_eq]
  cases r <;> rfl

section
variable {m : Promotion} {e : Entry}

/-- R157: a change to PRIMARY with an empty map ends no entry and marks nothing. -/
theorem changeRole_promoted (f : Nat) (s : State) : changeRole .primary f 0 false s = s.onMirror fun x =>
    { x with role := .primary, epoch := f, dirty := 0, behind := false, calls := { x.calls with roleChange := true } } := by
  unfold changeRole
  simp only [ne_eq, not_true_eq_false, and_false, if_false, Bool.false_and, Bool.false_eq_true]
  exact if_pos trivial

/-- An end leaves the promotion, the behind flag and the record's condition. -/
theorem endEntry_keeps {k : Key} {st : Status} (he : s.entry k = some e) (hs : st ≠ .stale) :
    (endEntry k st s).mirror.promotion = s.mirror.promotion ∧ (endEntry k st s).mirror.behind = s.mirror.behind
      ∧ (endEntry k st s).mirror.cond = s.mirror.cond := by
  obtain rfl := entry_key he
  rw [endEntry_eq he hs]
  obtain ⟨c, r, h⟩ := markRegions_frame (if marksAtEnd st then s.writeRegions [e] else 0)
    (if e.kind = .write then dropCopy e.key ((s.onEntry e.key (Entry.over st)).onRequest fun r =>
      { r with out := r.out ++ [.entryDone e.key] })
      else (s.onEntry e.key (Entry.over st)).onRequest fun r => { r with out := r.out ++ [.entryDone e.key] })
  refine (show _ ↔ _ from Iff.of_eq (congrArg (fun v : State => v.mirror.promotion = s.mirror.promotion
    ∧ v.mirror.behind = s.mirror.behind ∧ v.mirror.cond = s.mirror.cond) h)).mpr ?_
  split <;> exact ⟨rfl, rfl, rfl⟩

/-- The promotion's entry ends with the reply (R159). -/
theorem endPromotion_ends (hm : s.mirror.promotion = some m) (he : s.entry m.key = some e) {st : Status} (hs : st ≠ .stale) :
    (endPromotion st s).steady = s.steady ∧ (endPromotion st s).mirror.promotion = none
      ∧ (endPromotion st s).mirror.behind = s.mirror.behind ∧ (endPromotion st s).mirror.cond = s.mirror.cond
      ∧ (endPromotion st s).entry m.key = some (e.over st) := by
  have heq : endPromotion st s = endEntry m.key st (s.onMirror fun x => { x with promotion := none }) := by
    unfold endPromotion
    simp only [hm]
  have he' : (s.onMirror fun x => { x with promotion := none }).entry m.key = some e := he
  obtain ⟨hp, hb, hc⟩ := endEntry_keeps he' hs
  rw [heq]
  exact ⟨(steady_endEntry _ _ _).trans rfl, hp, hb, hc, entry_endEntry he' st⟩

/-- The map after the promotion's entry ends with a status that marks nothing. -/
theorem dirty_endPromotion (hm : s.mirror.promotion = some m) (he : s.entry m.key = some e) :
    (endPromotion .ok s).mirror.dirty = s.mirror.dirty := by
  have he' : (s.onMirror fun x => { x with promotion := none }).entry m.key = some e := he
  obtain ⟨r, c, h⟩ := endEntry_unmarked (st := .ok) he' rfl nofun
  unfold endPromotion
  simp only [hm]
  rw [h]
  rfl

end

end

/-- Settles O45. -/
theorem recordRepliesSetTheImage : Obligations.RecordRepliesSetTheImage := by
  unfold Obligations.RecordRepliesSetTheImage
  refine ⟨fun s f c r hreset hf hr hc => ?load, fun s cmd g q t hreset hf => ?write, fun s cmd g t m e hreset hf hm he => ?promotion⟩
  case load =>
    intro size readable
    refine ⟨fun b g hok hlen hparse hread => ?_, fun hbad => ?_⟩
    · subst hok
      obtain ⟨u, hx, hk, h₁, h₂, h₃, h₄, h₅⟩ := recordLoad_replies rfl hreset hf hr hc (loadedBlock_ok hlen)
        (readableRecord_some hparse hread)
      refine ⟨u, hx, hk, h₁, h₂, h₃, ?_, h₅⟩
      rw [h₄]
      exact beq_iff_eq
    · have hnone : ∃ block, loadedBlock r = block
          ∧ (block.bind fun b => readableRecord c s.drive.usable.toNat b) = none := by
        rcases hbad with ⟨n, bs, rfl⟩ | ⟨b, rfl, hlen, hno⟩
        · exact ⟨none, rfl, rfl⟩
        · exact ⟨some b, loadedBlock_ok hlen, readableRecord_none hno⟩
      obtain ⟨block, hb, hfound⟩ := hnone
      obtain ⟨u, hx, hk, h₁, h₂, -, h₄, h₅⟩ := recordLoad_replies rfl hreset hf hr hc hb hfound
      refine ⟨u, hx, hk, h₁, h₂, ?_, h₅⟩
      rw [h₄]
      exact beq_iff_eq
  case write =>
    intro next
    refine ⟨fun bs hc => ?_, fun n bs hc => ?_, fun i bs hc hi hl => ?_⟩
    · obtain ⟨u, hx, hk, hmirror, hflight⟩ := does_recordWritten (r := .ok bs) hreset hf hc
      obtain ⟨hmark, hqueued⟩ := callsWritten_ok g bs s
      refine ⟨u, hx, hk.trans (steady_recordWritten _ _ _), ?_, hflight, ?_, ?_⟩
      · rw [hmirror, cond_recordWritten]
        rfl
      · rw [hmirror]
        exact hmark
      · rw [hmirror]
        exact hqueued
    · obtain ⟨u, hx, hk, hmirror, hflight⟩ := does_recordWritten (r := .mediaError n bs) hreset hf hc
      refine ⟨u, hx, hk.trans (steady_recordWritten _ _ _), ?_, hflight⟩
      rw [hmirror, cond_recordWritten]
      rfl
    · intro mine heard now map opens hp
      have hopened := fun r => does_opened (r := r) hreset hf hc hi hl hp
      refine ⟨?_, fun n => ?_⟩
      · have h := hopened (.ok bs)
        rw [steady_recordWritten] at h
        exact h
      · have h := hopened (.mediaError n bs)
        rw [steady_recordWritten] at h
        exact h
  case promotion =>
    refine ⟨fun bs => ?_, fun n bs => ?_⟩
    · have heq : promotionWriteReply (.ok bs) s = promote g (freeLane s) := by
        unfold promotionWriteReply
        simp only [hf]
      unfold promote at heq
      dsimp only at heq
      rw [changeRole_promoted] at heq
      generalize hv : State.onMirror _ (State.onMirror _ (freeLane s)) = v at heq
      have hm' : v.mirror.promotion = some m := by
        rw [← hv]
        exact hm
      have he' : v.entry m.key = some e := by
        rw [← hv]
        exact he
      obtain ⟨hk, hp, hb, hc, hentry⟩ := endPromotion_ends (st := .ok) hm' he' nofun
      refine does_event hreset rfl heq (hk.trans ?_) ⟨hc.trans ?_, (dirty_endPromotion hm' he').trans ?_, hb.trans ?_, hp, hentry⟩
      all_goals
        rw [← hv]
        rfl
    · have heq : promotionWriteReply (.mediaError n bs) s =
          endPromotion .media ((freeLane s).onMirror fun m => { m with recordErrors := satInc m.recordErrors }) := by
        unfold promotionWriteReply
        simp only [hf]
      obtain ⟨hk, hp, hb, -, hentry⟩ := endPromotion_ends (st := .media)
        (s := (freeLane s).onMirror fun m => { m with recordErrors := satInc m.recordErrors }) hm he nofun
      exact does_event hreset rfl heq (hk.trans rfl) ⟨hp, hb.trans rfl, hentry⟩

/-! Runnable entries, the blocks on the lane, and replies to entries' commands (R74, R110, R112, R128, R132). -/

section
variable {s u : State} {e o : Entry} {k : Key} {st : Status}

/-! ## Runnable entries (R110) -/

theorem overlaps_false_iff {x y : Extent} : x.overlaps y = false ↔
    x.start.toNat + x.count ≤ y.start.toNat ∨ y.start.toNat + y.count ≤ x.start.toNat := by
  unfold Extent.overlaps
  rw [Bool.and_eq_false_iff, decide_eq_false_iff_not, decide_eq_false_iff_not, Nat.not_lt, Nat.not_lt, Or.comm]

/-- Between entries with extents the hazard is a shared block, one of the two being write-like. -/
theorem hazard_extents (hk : e.kind = .read ∨ e.kind.writeLike = true) (ho : o.outstanding = true) : hazard o e = false ↔
    ∀ x : Extent, o.extent = some x → ∀ y : Extent, e.extent = some y → (o.kind.writeLike || e.kind.writeLike) = true →
      x.start.toNat + x.count ≤ y.start.toNat ∨ y.start.toNat + y.count ≤ x.start.toNat := by
  have heq : hazard o e = (match o.extent, e.extent with
      | some a, some b => a.overlaps b && (o.kind.writeLike || e.kind.writeLike)
      | _, _ => false) := by
    unfold hazard
    rw [ho]
    cases hkind : e.kind with
    | read | write | resyncIn | replica => rfl
    | sync | resyncBegin | promote =>
      rw [hkind] at hk
      exact absurd hk (by simp [EntryKind.writeLike])
  rw [heq]
  cases o.extent with
  | none => simp
  | some x =>
    cases e.extent with
    | none => simp
    | some y => cases o.kind.writeLike || e.kind.writeLike <;> simp [overlaps_false_iff]

theorem hazard_false_iff : hazard o e = false ↔ o.outstanding = true →
    ¬ (e.kind = .sync ∧ o.kind.writeLike = true)
    ∧ ∀ x : Extent, o.extent = some x → ∀ y : Extent, e.extent = some y →
        e.kind = .read ∨ e.kind.writeLike = true → o.kind.writeLike = true ∨ e.kind.writeLike = true →
        x.start.toNat + x.count ≤ y.start.toNat ∨ y.start.toNat + y.count ≤ x.start.toNat := by
  cases ho : o.outstanding with
  | false => simp [hazard, ho]
  | true =>
    by_cases hk : e.kind = .read ∨ e.kind.writeLike = true
    · have hs : e.kind ≠ .sync := fun hs => by
        rw [hs] at hk
        exact absurd hk (by simp [EntryKind.writeLike])
      rw [hazard_extents hk ho]
      simp only [Bool.or_eq_true, hs, hk, false_and, not_false_eq_true, true_and, true_imp_iff]
    · have hfree : ∀ kind : EntryKind, ¬ (kind = .read ∨ kind.writeLike = true) →
          kind = .sync ∨ kind = .promote ∨ ∃ ep, kind = .resyncBegin ep := by
        intro kind hkind
        cases kind <;> simp_all [EntryKind.writeLike]
      simp only [hk, false_imp_iff, implies_true, and_true, true_imp_iff]
      rcases hfree e.kind hk with h | h | ⟨ep, h⟩ <;> simp [hazard, ho, h]

theorem recordInUseFor_iff {kind : EntryKind} : s.recordInUseFor kind = true ↔
    s.mirror.cond = .opened ∨ s.mirror.cond = .closed ∧ kind.writeLike = false := by
  unfold State.recordInUseFor
  cases s.mirror.cond <;> simp

theorem runnable_iff : s.runnable e = true ↔ e.state = .queued ∧ s.drive.state = .ready
    ∧ s.recordInUseFor e.kind = true ∧ ∀ o ∈ olderThan e.key s.request.queue, hazard o e = false := by
  unfold State.runnable
  simp only [Bool.and_eq_true, beq_iff_eq, Bool.not_eq_true', List.any_eq_false, Bool.not_eq_true, and_assoc]

/-! ## The blocks on the lane (R74) -/

theorem readPage_length (m : List Host.Cell) (p : Page) : (readPage m p).length = 512 := by
  unfold readPage readRun
  rw [List.length_map, List.length_range]
  rfl

theorem readPage_getD (m : List Host.Cell) (p : Page) {j : Nat} (hj : j < 512) :
    (readPage m p).getD j 0 = readByte m (p * 512 + j) := by
  have hl : j < (readPage m p).length := by rw [readPage_length]; exact hj
  rw [List.getD_eq_getElem?_getD, List.getElem?_eq_getElem hl, Option.getD_some]
  simp only [readPage, readRun, List.getElem_map, List.getElem_range]
  rfl

/-! ## The end of an entry -/

/-- What the end of an entry with a status leaves, the map being `map`. -/
structure State.EndsWith (st : Status) (map : BitVec 256) (e : Entry) (s u : State) : Prop where
  drive : u.drive = s.drive
  entry : u.entry e.key = some { e with state := .ending, status := some st, send := none }
  out : u.request.out = s.request.out ++ [.entryDone e.key]
  dirty : u.mirror.dirty = map
  copies : e.kind = .write → u.copyState e.key = none

/-- An entry that is not a REPLICA ends. -/
theorem endsWith_endEntry (he : s.entry e.key = some e) (hr : e.kind ≠ .replica) (hs : st ≠ .stale) :
    s.EndsWith st (if marksAtEnd st then s.mapAfter [e] else s.mirror.dirty) e (endEntry e.key st s) := by
  have h := ended_endEntry (st := st) he hr hs
  have hby : e.endedBy st s = { e with state := .ending, status := some st, send := none } := if_neg hr
  refine ⟨by rw [h.frame], ?_, ?_, h.dirty, fun hw => ?_⟩
  · rw [← hby]
    exact h.entries e List.mem_cons_self
  · rw [h.out]
    have hf : [e].filter (·.kind != .replica) = [e] := by simp [hr]
    rw [hf]
    rfl
  · rw [h.copies, if_pos]
    simp [hw]

theorem mapAfter_unwritten (h : e.kind ≠ .write) : s.mapAfter [e] = s.mirror.dirty := by
  have hf : [e].filter (·.kind == .write) = [] := by simp [h]
  unfold State.mapAfter
  rw [hf]
  exact ite_self _

theorem markExtent_drive (x : Extent) (s : State) : (markExtent x s).drive = s.drive := by
  obtain ⟨c, r, h⟩ := markRegions_frame (s.regions x) s
  have hm : markExtent x s = _ := h
  rw [hm]

/-! ## Replies to entries' commands (R112) -/

section
variable {cmd : LaneCmd} {t : Tick} {r : LaneReply} {K : Steady} {P : State → Prop}

theorem driveReply_entry (hf : s.drive.flight = some { cmd := cmd, requester := .entry k, start := t }) :
    driveReply r s = entryReply k r (freeLane s) := by
  unfold driveReply
  simp only [hf]

/-- A reply by which the entry ends. -/
theorem does_entryEnds {v : State} (hreset : s.resetAsserted = false) (hr : driveReply r s = endEntry e.key st v)
    (he : v.entry e.key = some e) (hk : e.kind ≠ .replica) (hs : st ≠ .stale) (hst : v.steady = K) (hf : v.drive.flight = none)
    (ho : v.request.out = s.request.out) {map : BitVec 256}
    (hm : (if marksAtEnd st then v.mapAfter [e] else v.mirror.dirty) = map) :
    Does (.driveReply r) s K fun u => u.drive.flight = none
      ∧ u.entry e.key = some { e with state := .ending, status := some st, send := none }
      ∧ u.request.out = s.request.out ++ [.entryDone e.key] ∧ u.mirror.dirty = map
      ∧ (e.kind = .write → u.copyState e.key = none) := by
  have h := endsWith_endEntry he hk hs
  refine does_event hreset rfl hr ((steady_endEntry _ _ _).trans hst) ⟨?_, h.entry, ?_, h.dirty.trans hm, h.copies⟩
  · rw [h.drive, hf]
  · rw [h.out, ho]

theorem entryReply_read {bs : List (List Byte)} (he : s.entry k = some e) (hk : e.kind = .read) :
    entryReply k (.ok bs) s = startSending k (s.onBuffer fun m => writePages m e.pages bs) := by
  unfold entryReply
  simp only [he, hk]

theorem entryReply_readFails {b : BlockNo} {bs : List (List Byte)} (he : s.entry k = some e) (hk : e.kind = .read) :
    entryReply k (.mediaError b bs) s = endEntry k .media (s.onBuffer fun m =>
      writePages m e.pages (readBlocks (e.extent.getD ⟨0, 0⟩).start.toNat (.mediaError b bs))) := by
  unfold entryReply
  simp only [he, hk]

theorem entryReply_ends {bs : List (List Byte)} (he : s.entry k = some e) (hk : e.kind = .sync ∨ e.kind = .resyncIn) :
    entryReply k (.ok bs) s = endEntry k .ok s := by
  unfold entryReply
  rcases hk with hk | hk <;> simp only [he, hk]

theorem entryReply_fails {b : BlockNo} {bs : List (List Byte)} (he : s.entry k = some e)
    (hk : e.kind = .sync ∨ e.kind = .resyncIn ∨ e.kind = .write) :
    entryReply k (.mediaError b bs) s = endEntry k .media s := by
  unfold entryReply
  rcases hk with hk | hk | hk <;> simp only [he, hk]

theorem entryReply_write {bs : List (List Byte)} (he : s.entry k = some e) (hk : e.kind = .write) :
    entryReply k (.ok bs) s = copyDecision e s := by
  unfold entryReply
  simp only [he, hk]

theorem entryReply_replica {bs : List (List Byte)} (he : s.entry k = some e) (hk : e.kind = .replica) :
    entryReply k (.ok bs) s = endReplica k (s.mirror.link != .following) s := by
  unfold entryReply
  simp only [he, hk]

theorem entryReply_replicaFails {b : BlockNo} {bs : List (List Byte)} (he : s.entry k = some e) (hk : e.kind = .replica) :
    entryReply k (.mediaError b bs) s = endReplica k true s := by
  unfold entryReply
  simp only [he, hk]

/-- R132, by role. -/
theorem copyDecision_single (hr : s.mirror.role = .single) : copyDecision e s = endEntry e.key .ok s := by
  unfold copyDecision
  simp only [hr]

theorem copyDecision_secondary (hr : s.mirror.role = .secondary) : copyDecision e s = endEntry e.key .role s := by
  unfold copyDecision
  simp only [hr]

theorem copyDecision_primary {x : Extent} (hr : s.mirror.role = .primary) (hx : e.extent = some x) : copyDecision e s =
    if s.copyState e.key = some .missHeard then endEntry e.key .okDegraded (markExtent x s)
    else if e.ackEarly then endEntry e.key .ok s
    else if s.copyState e.key = some .notExpected ∨ s.mirror.link.together = false then
      endEntry e.key .okDegraded (markExtent x s)
    else
      setCopy { key := e.key, extent := x, state := .waiting s.tick }
        (s.onEntry e.key fun e => { e with state := .waitMirror }) := by
  unfold copyDecision
  simp only [hr, hx]
  rfl

/-- A REPLICA ends with a MIRROR-ACK. -/
theorem endReplica_acks {n : Station} {x : Extent} (he : s.entry e.key = some e) (hp : s.partner = some n) (hx : e.extent = some x) :
    (endReplica e.key false s).entry e.key = some { e with state := .ending }
      ∧ (endReplica e.key false s).mirror.out = s.mirror.out ++ [.mirrorAck n e.key x.start 0 true] := by
  have heq : endReplica e.key false s = mirrorReady (.mirrorAck n e.key x.start 0 true)
      (s.onEntry e.key fun e => { e with state := .ending }) := by
    unfold endReplica
    simp only [he, hp, hx]
    rfl
  rw [heq]
  exact ⟨entry_onEntry_same he _ fun _ => rfl, rfl⟩

/-- A REPLICA ends with a MIRROR-MISS. -/
theorem endReplica_misses {n : Station} {x : Extent} (he : s.entry e.key = some e) (hk : e.kind = .replica)
    (hp : s.partner = some n) (hx : e.extent = some x) :
    (endReplica e.key true s).entry e.key = some { e with state := .ending }
      ∧ (endReplica e.key true s).mirror.out = s.mirror.out ++ [.mirrorMiss n e.key x.start x.count 0 true]
      ∧ (s.mirror.role = .secondary → (endReplica e.key true s).mirror.behind = true) := by
  have h := ended_endReplica (st := .ok) he hk
  have hf : [e].filter (·.kind == .replica) = [e] := by simp [hk]
  have hby : e.endedBy .ok s = { e with state := .ending } := by simp [Entry.endedBy, hk, hp]
  refine ⟨?_, ?_, fun hr => ?_⟩
  · rw [← hby]
    exact h.entries e List.mem_cons_self
  · rw [h.misses n hp, hf]
    simp [Entry.miss, hx]
  · rw [h.behind]
    simp [hr, hp, hk]

end

end

/-! What a reply to an entry's command brings about, by the kind of the entry (R112, R128, R132). -/

section
variable {s : State} {e : Entry} {k : Key} {cmd : LaneCmd} {t : Tick} {bs : List (List Byte)} {b : BlockNo} {x : Extent}
  {n : Station}

/-- The end that a reply brings, as the obligation states it. -/
def State.RepliedEnd (st : Status) (map : BitVec 256) (k : Key) (e : Entry) (s u : State) : Prop :=
  u.drive.flight = none ∧ u.entry k = some { e with state := .ending, status := some st, send := none }
    ∧ u.request.out = s.request.out ++ [.entryDone k] ∧ u.mirror.dirty = map ∧ (e.kind = .write → u.copyState k = none)

theorem does_readReply (hreset : s.resetAsserted = false)
    (hf : s.drive.flight = some { cmd := cmd, requester := .entry k, start := t }) (he : s.entry k = some e)
    (hk : e.kind = .read) : Does (.driveReply (.ok bs)) s { s.steady with buffer := writePages s.buffer e.pages bs } fun u =>
      u.drive.flight = none ∧ u.entry k = some { e with state := .sending, send := some ⟨0, 0, none⟩ }
      ∧ u.request.out = s.request.out ++ [.piece k] := by
  have heq := (driveReply_entry (r := .ok bs) hf).trans (entryReply_read (s := freeLane s) he hk)
  exact does_event hreset rfl heq rfl ⟨rfl, entry_onEntry_same (s := (freeLane s).onBuffer _) he _ fun _ => rfl, rfl⟩

theorem does_readFails (hreset : s.resetAsserted = false)
    (hf : s.drive.flight = some { cmd := cmd, requester := .entry k, start := t }) (he : s.entry k = some e)
    (hk : e.kind = .read) (hx : e.extent = some x) : Does (.driveReply (.mediaError b bs)) s
      { s.steady with buffer := writePages s.buffer e.pages (bs.take (b.toNat - x.start.toNat)) }
      (s.RepliedEnd .media s.mirror.dirty k e) := by
  obtain rfl := entry_key he
  have heq := (driveReply_entry (r := .mediaError b bs) hf).trans (entryReply_readFails (s := freeLane s) he hk)
  rw [hx] at heq
  exact does_entryEnds hreset heq he (by rw [hk]; nofun) nofun rfl rfl rfl (mapAfter_unwritten (by rw [hk]; nofun))

theorem does_entryDone (hreset : s.resetAsserted = false)
    (hf : s.drive.flight = some { cmd := cmd, requester := .entry k, start := t }) (he : s.entry k = some e)
    (hk : e.kind = .sync ∨ e.kind = .resyncIn) :
    Does (.driveReply (.ok bs)) s s.steady (s.RepliedEnd .ok s.mirror.dirty k e) := by
  obtain rfl := entry_key he
  have heq := (driveReply_entry (r := .ok bs) hf).trans (entryReply_ends (s := freeLane s) he hk)
  exact does_entryEnds hreset heq he (by rcases hk with h | h <;> (rw [h]; nofun)) nofun rfl rfl rfl rfl

theorem does_entryFails (hreset : s.resetAsserted = false)
    (hf : s.drive.flight = some { cmd := cmd, requester := .entry k, start := t }) (he : s.entry k = some e)
    (hk : e.kind = .sync ∨ e.kind = .resyncIn ∨ e.kind = .write) :
    Does (.driveReply (.mediaError b bs)) s s.steady (s.RepliedEnd .media (s.mapAfter [e]) k e) := by
  obtain rfl := entry_key he
  have heq := (driveReply_entry (r := .mediaError b bs) hf).trans (entryReply_fails (s := freeLane s) he hk)
  exact does_entryEnds hreset heq he (by rcases hk with h | h | h <;> (rw [h]; nofun)) nofun rfl rfl rfl rfl

theorem does_writeDone {st : Status} (hreset : s.resetAsserted = false)
    (hf : s.drive.flight = some { cmd := cmd, requester := .entry k, start := t }) (he : s.entry k = some e)
    (hk : e.kind = .write) (hc : copyDecision e (freeLane s) = endEntry e.key st (freeLane s)) (hm : marksAtEnd st = false)
    (hs : st ≠ .stale) : Does (.driveReply (.ok bs)) s s.steady (s.RepliedEnd st s.mirror.dirty k e) := by
  obtain rfl := entry_key he
  have heq := (driveReply_entry (r := .ok bs) hf).trans ((entryReply_write (s := freeLane s) he hk).trans hc)
  exact does_entryEnds hreset heq he (by rw [hk]; nofun) hs rfl rfl rfl (by rw [hm]; rfl)

theorem does_writeDegraded (hreset : s.resetAsserted = false)
    (hf : s.drive.flight = some { cmd := cmd, requester := .entry k, start := t }) (he : s.entry k = some e)
    (hk : e.kind = .write) (hr : s.mirror.role = .primary)
    (hc : copyDecision e (freeLane s) = endEntry e.key .okDegraded (markExtent x (freeLane s))) :
    Does (.driveReply (.ok bs)) s s.steady (s.RepliedEnd .okDegraded (s.mirror.dirty ||| s.regions x) k e) := by
  obtain rfl := entry_key he
  have heq := (driveReply_entry (r := .ok bs) hf).trans ((entryReply_write (s := freeLane s) he hk).trans hc)
  have hreq : (markExtent x (freeLane s)).request = s.request := request_markExtent x (freeLane s)
  exact does_entryEnds hreset heq ((entry_of_request (congrArg RequestUnit.queue hreq) _).trans he) (by rw [hk]; nofun) nofun
    (steady_markExtent _ _) (congrArg DrivePort.flight (markExtent_drive x (freeLane s))) (congrArg RequestUnit.out hreq)
    (dirty_markRegions (s := freeLane s) hr _)

theorem does_writeWaits (hreset : s.resetAsserted = false)
    (hf : s.drive.flight = some { cmd := cmd, requester := .entry k, start := t }) (he : s.entry k = some e)
    (hk : e.kind = .write) (hr : s.mirror.role = .primary) (hx : e.extent = some x) (hm : s.copyState k ≠ some .missHeard)
    (ha : e.ackEarly = false) (hn : s.copyState k ≠ some .notExpected) (hl : s.mirror.link.together = true) :
    Does (.driveReply (.ok bs)) s s.steady fun u => u.drive.flight = none
      ∧ u.entry k = some { e with state := .waitMirror } ∧ u.copyState k = some (.waiting s.tick)
      ∧ u.mirror.dirty = s.mirror.dirty := by
  obtain rfl := entry_key he
  have hwait : ¬ (s.copyState e.key = some .notExpected ∨ s.mirror.link.together = false) := by
    rintro (h | h)
    · exact hn h
    · rw [hl] at h
      cases h
  have hc : copyDecision e (freeLane s) = setCopy { key := e.key, extent := x, state := .waiting s.tick }
      ((freeLane s).onEntry e.key fun e => { e with state := .waitMirror }) := by
    rw [copyDecision_primary (s := freeLane s) hr hx]
    refine (if_neg hm).trans ((if_neg (by rw [ha]; nofun)).trans (if_neg hwait))
  have heq := (driveReply_entry (r := .ok bs) hf).trans ((entryReply_write (s := freeLane s) he hk).trans hc)
  exact does_event hreset rfl heq rfl ⟨rfl, entry_onEntry_same (s := freeLane s) he _ fun _ => rfl,
    copyState_setCopy { key := e.key, extent := x, state := .waiting s.tick } _, rfl⟩

theorem does_replicaAcked (hreset : s.resetAsserted = false)
    (hf : s.drive.flight = some { cmd := cmd, requester := .entry k, start := t }) (he : s.entry k = some e)
    (hk : e.kind = .replica) (hp : s.partner = some n) (hx : e.extent = some x) (hl : s.mirror.link = .following) :
    Does (.driveReply (.ok bs)) s s.steady fun u => u.entry k = some { e with state := .ending }
      ∧ u.mirror.out = s.mirror.out ++ [.mirrorAck n k x.start 0 true] := by
  obtain rfl := entry_key he
  have heq := (driveReply_entry (r := .ok bs) hf).trans (entryReply_replica (s := freeLane s) he hk)
  have hfollows : ((freeLane s).mirror.link != .following) = false := bne_eq_false_iff_eq.mpr hl
  rw [hfollows] at heq
  exact does_event hreset rfl heq (steady_endReplica (s := freeLane s) _ _) (endReplica_acks (s := freeLane s) he hp hx)

theorem does_replicaMissed {r : LaneReply} (hreset : s.resetAsserted = false)
    (hf : s.drive.flight = some { cmd := cmd, requester := .entry k, start := t }) (he : s.entry k = some e)
    (hk : e.kind = .replica) (hp : s.partner = some n) (hx : e.extent = some x)
    (hr : s.mirror.link ≠ .following ∨ ∃ b bs, r = .mediaError b bs) :
    Does (.driveReply r) s s.steady fun u => u.entry k = some { e with state := .ending }
      ∧ u.mirror.out = s.mirror.out ++ [.mirrorMiss n k x.start x.count 0 true]
      ∧ (s.mirror.role = .secondary → u.mirror.behind = true) := by
  obtain rfl := entry_key he
  have hreply : entryReply e.key r (freeLane s) = endReplica e.key true (freeLane s) := by
    cases r with
    | ok bs =>
      have hl : s.mirror.link ≠ .following := hr.resolve_right fun ⟨_, _, h⟩ => nomatch h
      have hfollows : ((freeLane s).mirror.link != .following) = true := bne_iff_ne.mpr hl
      rw [entryReply_replica (s := freeLane s) he hk, hfollows]
    | mediaError b bs => exact entryReply_replicaFails (s := freeLane s) he hk
  exact does_event hreset rfl ((driveReply_entry hf).trans hreply) (steady_endReplica (s := freeLane s) _ _)
    (endReplica_misses (s := freeLane s) he hk hp hx)

/-- A reply with nothing in flight does nothing (log 3). -/
theorem driveReply_idle {r : LaneReply} (hf : s.drive.flight = none) : driveReply r s = s := by
  unfold driveReply
  simp only [hf]

/-! ## The blocks that a WRITE sends (R74) -/

theorem laneBlocks_spec (hf : s.drive.flight = some { cmd := .write x.start x.count, requester := .entry k, start := t })
    (he : s.entry k = some e) : s.laneBlocks.length = e.pages.length
      ∧ ∀ i < e.pages.length, (s.laneBlocks.getD i []).length = 512
        ∧ ∀ j < 512, (s.laneBlocks.getD i []).getD j 0 = readByte s.buffer (e.pages.getD i 0 * 512 + j) := by
  rw [laneBlocks_entry s hf rfl rfl he]
  refine ⟨List.length_map _, fun i hi => ?_⟩
  have hpage : (e.pages.map (readPage s.buffer)).getD i [] = readPage s.buffer (e.pages.getD i 0) := by
    simp [List.getD_eq_getElem?_getD, List.getElem?_eq_getElem hi]
  rw [hpage]
  exact ⟨readPage_length _ _, fun j hj => readPage_getD _ _ hj⟩

end

/-! The choice of the next lane command and the run checks (R76, R111). -/

section
variable {s u v : State} {e g : Entry} {k j : Key} {st : Status}

/-! ## The run checks (R111) -/

/-- The run check of the entry of one name. -/
def checkRun (s : State) (k : Key) : State :=
  match s.entry k with
  | some e => if s.runnable e then (match s.runFailure e with | some st => endEntry k st s | none => s) else s
  | none => s

theorem runChecks_eq (s : State) : runChecks s = s.keys.foldl checkRun s := rfl

theorem checkRun_absent (h : s.entry k = none) : checkRun s k = s := by
  unfold checkRun
  rw [h]

theorem checkRun_idle (he : s.entry k = some e) (hr : s.runnable e = true → s.runFailure e = none) : checkRun s k = s := by
  unfold checkRun
  rw [he]
  dsimp only
  split
  case isTrue h => rw [hr h]
  case isFalse => rfl

theorem checkRun_fails (he : s.entry k = some e) (hr : s.runnable e = true) (hf : s.runFailure e = some st) :
    checkRun s k = endEntry k st s := by
  unfold checkRun
  rw [he]
  dsimp only
  rw [if_pos hr, hf]

/-- A run check leaves the station as it is or ends a runnable entry that fails. -/
theorem checkRun_cases (s : State) (k : Key) : checkRun s k = s
    ∨ ∃ e st, s.entry k = some e ∧ s.runnable e = true ∧ s.runFailure e = some st ∧ checkRun s k = endEntry k st s := by
  cases he : s.entry k with
  | none => exact .inl (checkRun_absent he)
  | some e =>
    by_cases hr : s.runnable e = true
    · cases hf : s.runFailure e with
      | none => exact .inl (checkRun_idle he fun _ => hf)
      | some st => exact .inr ⟨e, st, rfl, hr, hf, checkRun_fails he hr hf⟩
    · exact .inl (checkRun_idle he fun h => absurd h hr)

theorem runFailure_cases (h : s.runFailure e = some st) : st = .role ∨ st = .stale := by
  unfold State.runFailure at h
  split at h
  case h_1 | h_2 =>
    split at h
    · exact .inl (Option.some.inj h).symm
    · cases h
  case h_3 =>
    split at h
    · exact .inr (Option.some.inj h).symm
    · cases h
  all_goals cases h

/-- Entries have ended, and read wakes have been made ready; nothing else has happened. -/
def EndsOnly (s u : State) : Prop :=
  ∃ r c o w, u = { s with request := r, mirror := { s.mirror with copies := c, out := o, readWake := w } }

theorem EndsOnly.refl (s : State) : EndsOnly s s := ⟨s.request, s.mirror.copies, s.mirror.out, s.mirror.readWake, rfl⟩

theorem EndsOnly.trans (h : EndsOnly s u) (g : EndsOnly u v) : EndsOnly s v := by
  obtain ⟨r, c, o, w, rfl⟩ := h
  obtain ⟨r', c', o', w', rfl⟩ := g
  exact ⟨r', c', o', w', rfl⟩

theorem EndsOnly.drive (h : EndsOnly s u) : u.drive = s.drive := by
  obtain ⟨r, c, o, w, rfl⟩ := h
  rfl

theorem EndsOnly.recordWork (h : EndsOnly s u) : u.recordWork = s.recordWork := by
  obtain ⟨r, c, o, w, rfl⟩ := h
  rfl

theorem EndsOnly.chunkAsks (h : EndsOnly s u) : u.chunkAsks = s.chunkAsks := by
  obtain ⟨r, c, o, w, rfl⟩ := h
  rfl

theorem EndsOnly.runFailure (h : EndsOnly s u) (e : Entry) : u.runFailure e = s.runFailure e := by
  obtain ⟨r, c, o, w, rfl⟩ := h
  rfl

theorem endsOnly_endEntry (he : s.entry k = some e) (h : st = .role ∨ st = .stale) : EndsOnly s (endEntry k st s) := by
  rcases h with rfl | rfl
  · obtain ⟨r, c, h⟩ := endEntry_unmarked (st := .role) he rfl nofun
    rw [h]
    exact ⟨r, c, s.mirror.out, s.mirror.readWake, rfl⟩
  · obtain ⟨r, c, h⟩ := endEntry_stale he
    rw [h]
    unfold readWake
    split
    · split
      · exact ⟨r, c, _, _, rfl⟩
      · exact ⟨r, c, s.mirror.out, s.mirror.readWake, rfl⟩
    · exact ⟨r, c, s.mirror.out, s.mirror.readWake, rfl⟩

theorem endsOnly_checkRun (s : State) (k : Key) : EndsOnly s (checkRun s k) := by
  rcases checkRun_cases s k with h | ⟨e, st, he, -, hf, h⟩
  · rw [h]
    exact .refl s
  · rw [h]
    exact endsOnly_endEntry he (runFailure_cases hf)

theorem endsOnly_foldl : ∀ (l : List Key) (s : State), EndsOnly s (l.foldl checkRun s)
  | [], s => .refl s
  | k :: l, s => (endsOnly_checkRun s k).trans (endsOnly_foldl l _)

theorem endsOnly_runChecks (s : State) : EndsOnly s (runChecks s) := endsOnly_foldl _ s

/-- Where every runnable entry passes, the run checks do nothing. -/
theorem runChecks_pass (h : ∀ g ∈ s.request.queue, s.runnable g = true → s.runFailure g = none) : runChecks s = s := by
  have hstep : ∀ j, checkRun s j = s := fun j => by
    cases he : s.entry j with
    | none => exact checkRun_absent he
    | some g => exact checkRun_idle he (h g (entry_mem he))
  have hfold : ∀ l : List Key, l.foldl checkRun s = s := by
    intro l
    induction l with
    | nil => rfl
    | cons j l ih => rw [List.foldl_cons, hstep, ih]
  exact hfold _

/-! ## Ends of other entries leave an entry runnable -/

theorem queue_endEntry (he : s.entry k = some e) (st : Status) :
    (endEntry k st s).request.queue = s.request.queue.map fun g => if g.key = k then g.over st else g := by
  rw [request_endEntry he, onEntry_eq]
  rfl

theorem olderThan_map {f : Entry → Entry} (hf : ∀ e, (f e).key = e.key) (k : Key) :
    ∀ q : List Entry, olderThan k (q.map f) = (olderThan k q).map f
  | [] => rfl
  | e :: q => by
    have ih := olderThan_map hf k q
    unfold olderThan at ih ⊢
    rw [List.map_cons, List.takeWhile_cons, List.takeWhile_cons, hf]
    split
    · rw [List.map_cons, ih]
    · rfl

theorem hazard_over (st : Status) (o e : Entry) : hazard (o.over st) e = false := rfl

/-- An entry that is runnable stays so when another ends. -/
theorem runnable_endEntry (hr : s.runnable e = true) (hg : s.entry j = some g) (hs : EndsOnly s (endEntry j st s)) :
    (endEntry j st s).runnable e = true := by
  obtain ⟨hq, hd, hc, hh⟩ := runnable_iff.mp hr
  have hcond : (endEntry j st s).recordInUseFor e.kind = s.recordInUseFor e.kind := by
    obtain ⟨r, c, o, w, h⟩ := hs
    rw [h]
    rfl
  refine runnable_iff.mpr ⟨hq, by rw [hs.drive]; exact hd, by rw [hcond]; exact hc, fun o ho => ?_⟩
  rw [queue_endEntry hg, olderThan_map fun g => by split <;> rfl] at ho
  obtain ⟨o', ho', rfl⟩ := List.mem_map.mp ho
  split
  · exact hazard_over st o' e
  · exact hh o' ho'

/-- Every entry of the name has ended, the first one with a status. -/
structure State.Failed (k : Key) (st : Status) (e : Entry) (s : State) : Prop where
  entry : s.entry k = some (e.over st)
  all : ∀ g ∈ s.request.queue, g.key = k → g.state = .ending

theorem failed_endEntry (he : s.entry k = some e) (st : Status) : (endEntry k st s).Failed k st e := by
  refine ⟨entry_endEntry he st, fun g hg hk => ?_⟩
  rw [queue_endEntry he] at hg
  obtain ⟨o, -, rfl⟩ := List.mem_map.mp hg
  split
  · rfl
  case isFalse hn =>
    rw [if_neg hn] at hk
    exact absurd hk hn

theorem failed_checkRun (h : s.Failed k st e) (j : Key) : (checkRun s j).Failed k st e := by
  rcases checkRun_cases s j with hn | ⟨g, st', hg, hr, -, hn⟩
  · rw [hn]
    exact h
  · have hj : j ≠ k := fun hj => runnable_queued hr (h.all g (entry_mem hg) ((entry_key hg).trans hj))
    rw [hn]
    refine ⟨(spares_endEntry hj st' s).entry.trans h.entry, fun o ho hk => ?_⟩
    rw [queue_endEntry hg] at ho
    obtain ⟨o', ho', rfl⟩ := List.mem_map.mp ho
    split
    · rfl
    case isFalse hn =>
      rw [if_neg hn] at hk
      exact h.all o' ho' hk

theorem failed_foldl (l : List Key) : ∀ s : State, s.Failed k st e → (l.foldl checkRun s).Failed k st e := by
  induction l with
  | nil => exact fun _ h => h
  | cons j l ih => exact fun s h => ih _ (failed_checkRun h j)

/-- A runnable entry that fails its run check has ended when the checks are over. -/
theorem runChecks_fails (he : s.entry k = some e) (hr : s.runnable e = true) (hf : s.runFailure e = some st) :
    (runChecks s).Failed k st e := by
  have hfold : ∀ (l : List Key) (s : State), k ∈ l → s.entry k = some e → s.runnable e = true → s.runFailure e = some st →
      (l.foldl checkRun s).Failed k st e := by
    intro l
    induction l with
    | nil => exact fun _ h => absurd h List.not_mem_nil
    | cons j l ih =>
      intro s hk he hr hf
      rw [List.foldl_cons]
      by_cases hj : j = k
      · subst hj
        rw [checkRun_fails he hr hf]
        exact failed_foldl l _ (failed_endEntry he st)
      · have hl : k ∈ l := (List.mem_cons.mp hk).resolve_left fun h => hj h.symm
        have hfail : (checkRun s j).runFailure e = some st := ((endsOnly_checkRun s j).runFailure e).trans hf
        refine ih _ hl ?_ ?_ hfail
        · rcases checkRun_cases s j with hn | ⟨g, st', -, -, -, hn⟩
          · rw [hn]
            exact he
          · rw [hn]
            exact (spares_endEntry hj st' s).entry.trans he
        · have hends := endsOnly_checkRun s j
          rcases checkRun_cases s j with hn | ⟨g, st', hg, -, -, hn⟩
          · rw [hn]
            exact hr
          · rw [hn] at hends ⊢
            exact runnable_endEntry hr hg hends
  refine hfold s.keys s ?_ he hr hf
  rw [← entry_key he]
  exact List.mem_map_of_mem (entry_mem he)

/-! ## The next command (R76) -/

/-- The command of an entry, or the engine's read, after the run checks. -/
def chooseEntry (s : State) : State :=
  match s.request.queue.find? fun e => s.runnable e && e.kind.usesLane with
  | some e => runEntry e s
  | none => if s.chunkAsks then sendChunkRead s else s

theorem chooseCommand_free (hd : s.drive.state = .ready) (hf : s.drive.flight = none) : chooseCommand s =
    if s.recordWork then sendRecordWork s
    else if s.chunkAsks ∧ Config.resyncLaneTicks ≤ elapsed s.tick s.drive.resyncWait then sendChunkRead s
    else chooseEntry (runChecks s) := if_pos ⟨hd, hf⟩

theorem chooseCommand_record (hd : s.drive.state = .ready) (hf : s.drive.flight = none) (hw : s.recordWork = true) :
    chooseCommand s = sendRecordWork s := (chooseCommand_free hd hf).trans (if_pos hw)

theorem chooseCommand_entries (hd : s.drive.state = .ready) (hf : s.drive.flight = none) (hw : s.recordWork = false)
    (hc : ∀ c, s.engine.chunk = some c → c.step = .read → (s.tick - s.drive.resyncWait).toNat < 100) :
    chooseCommand s = chooseEntry (runChecks s) := by
  have hlate : ¬ (s.chunkAsks = true ∧ Config.resyncLaneTicks ≤ elapsed s.tick s.drive.resyncWait) := by
    rintro ⟨ha, ht⟩
    unfold State.chunkAsks at ha
    cases hchunk : s.engine.chunk with
    | none =>
      rw [hchunk] at ha
      cases ha
    | some c =>
      rw [hchunk] at ha
      exact absurd (hc c hchunk (beq_iff_eq.mp (Bool.and_eq_true_iff.mp ha).1)) (Nat.not_lt.mpr ht)
  rw [chooseCommand_free hd hf, if_neg (by rw [hw]; nofun), if_neg hlate]

theorem sendChunkRead_chunk {c : Chunk} (hc : s.engine.chunk = some c) : sendChunkRead s =
    sendLane (.read (BitVec.ofNat 32 c.start) c.count) .chunk
      ((s.onEngine fun e => { e with readStarted := true }).onDrive fun d => { d with resyncWait := s.tick }) := by
  unfold sendChunkRead
  rw [hc]

theorem chunkAsks_iff : s.chunkAsks = true ↔ ∃ c, s.engine.chunk = some c ∧ c.step = .read ∧ s.drive.flight = none := by
  unfold State.chunkAsks
  cases s.engine.chunk with
  | none => simp
  | some c => simp [Option.isNone_iff_eq_none]

/-- The engine's read goes to the lane when its time is up, or when no entry is runnable. -/
theorem chooseCommand_chunk {c : Chunk} (hd : s.drive.state = .ready) (hf : s.drive.flight = none) (hw : s.recordWork = false)
    (hc : s.engine.chunk = some c) (hr : c.step = .read)
    (h : 100 ≤ (s.tick - s.drive.resyncWait).toNat ∨ ∀ e ∈ s.request.queue, s.runnable e = false) :
    chooseCommand s = sendChunkRead s := by
  have hask : s.chunkAsks = true := chunkAsks_iff.mpr ⟨c, hc, hr, hf⟩
  by_cases ht : 100 ≤ (s.tick - s.drive.resyncWait).toNat
  · rw [chooseCommand_free hd hf, if_neg (by rw [hw]; nofun)]
    exact if_pos ⟨hask, ht⟩
  · have hnone := h.resolve_left ht
    have hpass : runChecks s = s := runChecks_pass fun g hg hrun => by
      rw [hnone g hg] at hrun
      cases hrun
    have hfind : s.request.queue.find? (fun e => s.runnable e && e.kind.usesLane) = none :=
      List.find?_eq_none.mpr fun e he => by simp [hnone e he]
    rw [chooseCommand_entries hd hf hw fun _ _ _ => Nat.not_le.mp ht, hpass]
    unfold chooseEntry
    rw [hfind]
    exact if_pos hask

/-- The entry that fails its run check stays ended whatever the lane takes. -/
theorem entry_chooseEntry (h : s.Failed k st e) : (chooseEntry s).entry k = some (e.over st) := by
  unfold chooseEntry
  split
  · rename_i g hg
    have hrun := List.find?_some hg
    rw [Bool.and_eq_true] at hrun
    have hk : g.key ≠ k := fun hk => runnable_queued hrun.1 (h.all g (List.mem_of_find?_eq_some hg) hk)
    exact (spares_runEntry hk s).entry.trans h.entry
  · split
    · exact (spares_sendChunkRead (k := k) s).entry.trans h.entry
    · exact h.entry

/-! ## A lane left free -/

theorem flight_sendRecordWork (s : State) : (sendRecordWork s).drive.flight ≠ none := by
  unfold sendRecordWork
  split
  · nofun
  · split <;> nofun

/-- When the choice leaves a lane of a READY drive free, there is nothing to send. -/
theorem chooseCommand_quiet (hd : (chooseCommand s).drive.state = .ready) (hf : (chooseCommand s).drive.flight = none) :
    (chooseCommand s).recordWork = false ∧ (chooseCommand s).chunkAsks = false
      ∧ ∀ e ∈ (chooseCommand s).request.queue, e.kind.usesLane = true → (chooseCommand s).runnable e = false := by
  by_cases hfree : s.drive.state = .ready ∧ s.drive.flight = none
  · rw [chooseCommand_free hfree.1 hfree.2] at hd hf ⊢
    cases hw : s.recordWork with
    | true =>
      rw [hw] at hf
      exact absurd hf (flight_sendRecordWork s)
    | false =>
      simp only [hw, Bool.false_eq_true, if_false] at hd hf ⊢
      have hsent : ∀ v : State, v.chunkAsks = true → (sendChunkRead v).drive.flight ≠ none := fun v hv => by
        obtain ⟨c, hc, -⟩ := chunkAsks_iff.mp hv
        rw [sendChunkRead_chunk hc]
        nofun
      by_cases ht : s.chunkAsks = true ∧ Config.resyncLaneTicks ≤ elapsed s.tick s.drive.resyncWait
      · rw [if_pos ht] at hf
        exact absurd hf (hsent s ht.1)
      · rw [if_neg ht] at hd hf ⊢
        have hends := endsOnly_runChecks s
        have hwork := hends.recordWork.trans hw
        generalize runChecks s = v at hd hf hwork ⊢
        unfold chooseEntry at hd hf ⊢
        cases hfind : v.request.queue.find? fun e => v.runnable e && e.kind.usesLane with
        | some e =>
          rw [hfind] at hf
          exact nomatch hf
        | none =>
          rw [hfind] at hd hf
          dsimp only at hd hf ⊢
          cases ha : v.chunkAsks with
          | true =>
            rw [if_pos ha] at hf
            exact absurd hf (hsent v ha)
          | false =>
            simp only [Bool.false_eq_true, if_false]
            refine ⟨hwork, ha, fun e he hl => ?_⟩
            have h := List.find?_eq_none.mp hfind e he
            simpa [hl] using h
  · have hsame : chooseCommand s = s := if_neg hfree
    rw [hsame] at hd hf
    exact absurd ⟨hd, hf⟩ hfree

end

/-! The lane after the tests, and the commands that it takes (R76). -/

section
variable {s u v : State} {e : Entry}

/-! ## What the later tests leave to the lane -/

/-- The lane, its queue and those who ask for it are as they were. -/
structure SameLane (s u : State) : Prop where
  state : u.drive.state = s.drive.state
  flight : u.drive.flight = s.drive.flight
  mirror : u.mirror = s.mirror
  engine : u.engine = s.engine
  queue : u.request.queue = s.request.queue

theorem SameLane.trans (h : SameLane s u) (g : SameLane u v) : SameLane s v :=
  ⟨g.state.trans h.state, g.flight.trans h.flight, g.mirror.trans h.mirror, g.engine.trans h.engine, g.queue.trans h.queue⟩

theorem sameLane_of (hd : u.drive = s.drive) (hm : u.mirror = s.mirror) (he : u.engine = s.engine) (hr : u.request = s.request) :
    SameLane s u := ⟨by rw [hd], by rw [hd], hm, he, by rw [hr]⟩

theorem sameLane_of_offClaim (h : u.offClaim = s.offClaim) : SameLane s u :=
  have hd : u.offClaim.drive = s.offClaim.drive := congrArg (·.drive) h
  have hm : u.offClaim.mirror = s.offClaim.mirror := congrArg (·.mirror) h
  have he : u.offClaim.engine = s.offClaim.engine := congrArg (·.engine) h
  have hr : u.offClaim.request = s.offClaim.request := congrArg (·.request) h
  sameLane_of hd hm he hr

theorem sameLane_of_offWatch (h : u.offWatch = s.offWatch) : SameLane s u :=
  have hd : u.offWatch.drive = s.offWatch.drive := congrArg (·.drive) h
  have hm : u.offWatch.mirror = s.offWatch.mirror := congrArg (·.mirror) h
  have he : u.offWatch.engine = s.offWatch.engine := congrArg (·.engine) h
  have hr : u.offWatch.request = s.offWatch.request := congrArg (·.request) h
  sameLane_of hd hm he hr

theorem sameLane_of_offAnnounce (h : u.offAnnounce = s.offAnnounce) : SameLane s u :=
  have hd : u.offAnnounce.drive = s.offAnnounce.drive := congrArg (·.drive) h
  have hm : u.offAnnounce.mirror = s.offAnnounce.mirror := congrArg (·.mirror) h
  have he : u.offAnnounce.engine = s.offAnnounce.engine := congrArg (·.engine) h
  have hr : u.offAnnounce.request = s.offAnnounce.request := congrArg (·.request) h
  sameLane_of hd hm he hr

theorem sameLane_reportNeed (s : State) : SameLane s (reportNeed s) := ⟨rfl, rfl, rfl, rfl, rfl⟩

theorem sameLane_updateIdle (s : State) : SameLane s (updateIdle s) := ⟨rfl, rfl, rfl, rfl, rfl⟩

/-- The tests after the lane's and the slots' leave the lane. -/
theorem sameLane_settle (b : State) (h : s.takesPart = true) : SameLane (worked b s) (settle b s) := by
  have hb : (budgeted b s).offClaim = (reportNeed (worked b s)).offClaim := offClaim_settleBudget _
  rw [settle_eq b h]
  exact (sameLane_reportNeed (worked b s)).trans ((sameLane_of_offClaim hb).trans ((sameLane_updateIdle (budgeted b s)).trans
    ((sameLane_of_offWatch (offWatch_settleWatch _ _)).trans (sameLane_of_offAnnounce (offAnnounce_announceChange b _)))))

theorem SameLane.runnable (h : SameLane s u) (e : Entry) : u.runnable e = s.runnable e := by
  unfold State.runnable State.recordInUseFor
  rw [h.state, h.mirror, h.queue]

/-- After the tests a free lane of a READY drive has nothing to take (R76). -/
theorem settle_quiet (b : State) (ht : s.takesPart = true) (hd : (settle b s).drive.state = .ready)
    (hf : (settle b s).drive.flight = none) : (settle b s).recordWork = false
      ∧ (∀ c, (settle b s).engine.chunk = some c → c.step ≠ .read)
      ∧ ∀ e ∈ (settle b s).request.queue, e.kind.usesLane = true → (settle b s).runnable e = false := by
  have hsame := sameLane_settle b ht
  have hw : worked b s = chooseCommand (takePages (settleSlots b (settleLane (settleMirror (hotAction (edged b s)))))) := rfl
  generalize settle b s = t at hd hf hsame ⊢
  generalize takePages (settleSlots b (settleLane (settleMirror (hotAction (edged b s))))) = v at hw
  rw [hw] at hsame
  obtain ⟨h₁, h₂, h₃⟩ := chooseCommand_quiet (hsame.state.symm.trans hd) (hsame.flight.symm.trans hf)
  refine ⟨?_, fun c hc hr => ?_, fun e he hl => ?_⟩
  · rw [← h₁]
    unfold State.recordWork
    rw [hsame.mirror]
  · rw [hsame.engine] at hc
    rw [chunkAsks_iff.mpr ⟨c, hc, hr, hsame.flight.symm.trans hf⟩] at h₂
    cases h₂
  · rw [hsame.runnable]
    rw [hsame.queue] at he
    exact h₃ e he hl

/-! ## The record work (R76, R142, R159) -/

theorem sendRecordWork_load (h : s.mirror.cond = .notLoaded) : (sendRecordWork s).drive.flight =
    some { cmd := .read s.drive.usable 1, requester := .recordLoad, start := s.tick } := by
  unfold sendRecordWork
  rw [if_pos h]
  rfl

/-- A record write has clean set when no call asks for clean clear and no write-like entry has drive work outstanding. -/
theorem sendRecordWork_write (hc : s.mirror.cond ≠ .notLoaded) (ha : s.mirror.calls.any = true) {clean : Bool}
    (h : clean = true ↔ s.mirror.calls.opening = false ∧ s.mirror.calls.roleChange = false ∧ s.mirror.calls.mark = false
      ∧ s.mirror.calls.writeQueued = false ∧ ∀ e ∈ s.request.queue, e.kind.writeLike = true → e.outstanding = false) :
    sendRecordWork s = sendRecordWrite clean s := by
  have hclean : (!s.mirror.calls.clear && !(s.request.queue.any fun e => e.kind.writeLike && e.outstanding)) = clean := by
    rw [Bool.eq_iff_iff, h]
    simp [RecordCalls.clear, and_assoc]
  unfold sendRecordWork
  rw [if_neg hc, if_pos ha]
  exact congrArg (sendRecordWrite · s) hclean

/-- The values that a promotion write carries (R159; log 41). -/
def State.promoted (s : State) : RecordFields :=
  { s.recordFor false with
    role := .primary, epoch := if s.mirror.epoch < 65535 then s.mirror.epoch + 1 else 65535, dirty := 0 }

theorem sendRecordWork_promotion {p : Promotion} (hc : s.mirror.cond ≠ .notLoaded) (ha : s.mirror.calls.any = false)
    (hp : s.mirror.promotion = some p) : sendRecordWork s =
      sendLane (.write s.drive.usable 1) (.promotionWrite s.promoted)
        (s.onMirror fun x => { x with promotion := some { p with sent := true }, blockStore := s.promoted.block }) := by
  have hepoch : min (s.mirror.epoch + 1) 65535 = if s.mirror.epoch < 65535 then s.mirror.epoch + 1 else 65535 := by
    split <;> omega
  unfold sendRecordWork
  rw [if_neg hc, if_neg (by rw [ha]; nofun)]
  dsimp only
  rw [recordValues_eq, hepoch]
  simp only [State.onMirror, hp, Option.map_some]
  rfl

/-! ## The command of an entry (R111) -/

theorem lane_of_extent {x : Extent} (h : e.extent = some x ∨ e.kind = .sync) (hu : e.kind.usesLane = true) : e.lane =
    if e.kind = .sync then .sync else if e.kind = .read then .read x.start x.count else .write x.start x.count := by
  have hx : e.kind ≠ .sync → e.extent.getD ⟨0, 0⟩ = x := fun hs => by rw [h.resolve_right hs]; rfl
  unfold Entry.lane
  cases hk : e.kind with
  | sync => rfl
  | read | write | resyncIn | replica =>
    rw [hx (by rw [hk]; nofun)]
    rfl
  | resyncBegin ep | promote =>
    rw [hk] at hu
    cases hu

theorem chooseEntry_runs (hfind : s.request.queue.find? (fun g => s.runnable g && g.kind.usesLane) = some e) :
    chooseEntry s = runEntry e s := by
  unfold chooseEntry
  rw [hfind]

end

/-! Entries for the mirror unit: RESYNC_BEGIN and PROMOTE (R110, R146, R158, R159). -/

section
variable {s u v : State} {e g : Entry} {k j : Key} {st : Status}

/-! ## One entry handed to the mirror unit -/

/-- The entry of one name handed to the mirror unit, if it is runnable and for the mirror unit. -/
def handKey (s : State) (k : Key) : State :=
  match s.entry k with
  | some e =>
    if s.runnable e then
      (match e.kind with
       | .resyncBegin epoch => checkResyncBegin e epoch s
       | .promote => checkPromote e s
       | .read | .write | .sync | .resyncIn | .replica => s)
    else s
  | none => s

theorem handSpecials_eq (s : State) : handSpecials s = s.keys.foldl handKey s := rfl

theorem handKey_absent (h : s.entry k = none) : handKey s k = s := by
  unfold handKey
  rw [h]

theorem handKey_idle (he : s.entry k = some e) (hr : s.runnable e = false) : handKey s k = s := by
  unfold handKey
  rw [he]
  exact if_neg (by rw [hr]; nofun)

theorem handKey_lane (he : s.entry k = some e) (hl : e.kind.usesLane = true) : handKey s k = s := by
  unfold handKey
  rw [he]
  dsimp only
  split
  · cases hk : e.kind with
    | resyncBegin ep | promote =>
      rw [hk] at hl
      cases hl
    | read | write | sync | resyncIn | replica => rfl
  · rfl

theorem handKey_resyncBegin {ep : Nat} (he : s.entry k = some e) (hr : s.runnable e = true) (hk : e.kind = .resyncBegin ep) :
    handKey s k = checkResyncBegin e ep s := by
  unfold handKey
  rw [he]
  dsimp only
  rw [if_pos hr, hk]

theorem handKey_promote (he : s.entry k = some e) (hr : s.runnable e = true) (hk : e.kind = .promote) :
    handKey s k = checkPromote e s := by
  unfold handKey
  rw [he]
  dsimp only
  rw [if_pos hr, hk]

theorem usesLane_false {kind : EntryKind} (h : kind.usesLane = false) : (∃ ep, kind = .resyncBegin ep) ∨ kind = .promote := by
  cases kind with
  | resyncBegin ep => exact .inl ⟨ep, rfl⟩
  | promote => exact .inr rfl
  | read | write | sync | resyncIn | replica => cases h

theorem handKey_cases (s : State) (k : Key) : handKey s k = s
    ∨ ∃ e, s.entry k = some e ∧ s.runnable e = true
      ∧ ((∃ ep, e.kind = .resyncBegin ep ∧ handKey s k = checkResyncBegin e ep s)
        ∨ e.kind = .promote ∧ handKey s k = checkPromote e s) := by
  cases he : s.entry k with
  | none => exact .inl (handKey_absent he)
  | some e =>
    cases hr : s.runnable e with
    | false => exact .inl (handKey_idle he hr)
    | true =>
      cases hl : e.kind.usesLane with
      | true => exact .inl (handKey_lane he hl)
      | false =>
        refine .inr ⟨e, rfl, hr, ?_⟩
        rcases usesLane_false hl with ⟨ep, hk⟩ | hk
        · exact .inl ⟨ep, hk, handKey_resyncBegin he hr hk⟩
        · exact .inr ⟨hk, handKey_promote he hr hk⟩

/-- Nothing holds back an entry for the mirror unit. -/
theorem runnable_special (h : e.kind.usesLane = false) : s.runnable e = true ↔
    e.state = .queued ∧ s.drive.state = .ready ∧ s.recordInUse = true := by
  have hz : ∀ o, hazard o e = false := fun o => by
    unfold hazard
    rcases usesLane_false h with ⟨ep, hk⟩ | hk <;> rw [hk, Bool.and_false]
  have hw : e.kind.writeLike = false := by rcases usesLane_false h with ⟨ep, hk⟩ | hk <;> rw [hk] <;> rfl
  rw [runnable_iff, recordInUseFor_iff, hw]
  unfold State.recordInUse
  simp [hz]

/-! ## What the mirror unit's checks keep -/

/-- The names of the entries, the drive, the record's condition and the steady part are as they were; the behind flag is not
cleared, and a pending promotion stays. -/
structure Handed (s u : State) : Prop where
  keys : u.keys = s.keys
  drive : u.drive = s.drive
  cond : u.mirror.cond = s.mirror.cond
  steady : u.steady = s.steady
  behind : s.mirror.behind = true → u.mirror.behind = true
  promotion : ∀ p, s.mirror.promotion = some p → u.mirror.promotion = some p

theorem Handed.refl (s : State) : Handed s s := ⟨rfl, rfl, rfl, rfl, id, fun _ => id⟩

theorem Handed.trans (h : Handed s u) (g : Handed u v) : Handed s v :=
  ⟨g.keys.trans h.keys, g.drive.trans h.drive, g.cond.trans h.cond, g.steady.trans h.steady, fun hb => g.behind (h.behind hb),
    fun p hp => g.promotion p (h.promotion p hp)⟩

theorem Handed.inUse (h : Handed s u) : u.recordInUse = s.recordInUse := by
  unfold State.recordInUse
  rw [h.cond]

theorem Handed.runnable (h : Handed s u) (hl : e.kind.usesLane = false) : u.runnable e = true ↔ s.runnable e = true := by
  rw [runnable_special hl, runnable_special hl, h.drive, h.inUse]

theorem keys_endEntry (he : s.entry k = some e) (st : Status) : (endEntry k st s).keys = s.keys := by
  unfold State.keys
  rw [queue_endEntry he, List.map_map]
  refine List.map_congr_left fun g _ => ?_
  simp only [Function.comp]
  split <;> rfl

theorem handed_endEntry (he : s.entry k = some e) (hm : marksAtEnd st = false) (hs : st ≠ .stale) : Handed s (endEntry k st s) := by
  obtain ⟨r, c, h⟩ := endEntry_unmarked he hm hs
  refine ⟨keys_endEntry he st, ?_, ?_, steady_endEntry _ _ _, ?_, ?_⟩
  all_goals rw [h]
  · rfl
  · rfl
  · exact id
  · exact fun _ => id

theorem handed_setBehind (s : State) : Handed s (setBehind s) := by
  refine ⟨?_, ?_, ?_, steady_setBehind s, ?_, ?_⟩
  all_goals unfold setBehind; split
  · rfl
  · rfl
  · rfl
  · rfl
  · rfl
  · rfl
  · exact fun _ => rfl
  · exact id
  · exact fun _ => id
  · exact fun _ => id

theorem entry_setBehind (s : State) (k : Key) : (setBehind s).entry k = s.entry k :=
  entry_of_request (congrArg RequestUnit.queue (request_setBehind s)) k

theorem handed_checkResyncBegin (ep : Nat) (he : s.entry e.key = some e) :
    Handed s (checkResyncBegin e ep s) := by
  unfold checkResyncBegin
  split
  · exact (handed_setBehind s).trans (handed_endEntry ((entry_setBehind s e.key).trans he) rfl nofun)
  · exact handed_endEntry he rfl nofun

theorem handed_checkPromote (he : s.entry e.key = some e) : Handed s (checkPromote e s) := by
  unfold checkPromote
  split
  · split
    · exact .refl s
    · exact handed_endEntry he rfl nofun
  · rename_i hn
    split
    · exact ⟨rfl, rfl, rfl, rfl, id, fun p hp => by rw [hn] at hp; cases hp⟩
    · exact handed_endEntry he rfl nofun

theorem handed_handKey (s : State) (k : Key) : Handed s (handKey s k) := by
  rcases handKey_cases s k with h | ⟨e, he, -, h⟩
  · rw [h]
    exact .refl s
  · obtain rfl := entry_key he
    rcases h with ⟨ep, -, h⟩ | ⟨-, h⟩
    · rw [h]
      exact handed_checkResyncBegin ep he
    · rw [h]
      exact handed_checkPromote he

theorem handed_foldl : ∀ (l : List Key) (s : State), Handed s (l.foldl handKey s)
  | [], s => .refl s
  | k :: l, s => (handed_handKey s k).trans (handed_foldl l _)

theorem entry_handKey_other (h : j ≠ k) (s : State) : (handKey s j).entry k = s.entry k := by
  rcases handKey_cases s j with hn | ⟨e, he, -, hn⟩
  · rw [hn]
  · have hk : e.key ≠ k := by rwa [entry_key he]
    rcases hn with ⟨ep, -, hn⟩ | ⟨-, hn⟩
    · rw [hn]
      exact (spares_checkResyncBegin hk ep s).entry
    · rw [hn]
      exact (spares_checkPromote hk s).entry

theorem entry_hand_others : ∀ (l : List Key) (s : State), k ∉ l → (l.foldl handKey s).entry k = s.entry k
  | [], _, _ => rfl
  | j :: l, s, h => by
    have hj : j ≠ k := fun hj => h (hj ▸ List.mem_cons_self)
    rw [List.foldl_cons, entry_hand_others l _ fun hl => h (List.mem_cons_of_mem j hl), entry_handKey_other hj]

/-! ## After the checks no entry for the mirror unit is left to check -/

/-- What the mirror unit has left of the entry of one name: a runnable one waits for the pending promotion. -/
def State.Checked (k : Key) (s : State) : Prop :=
  ∀ e, s.entry k = some e → s.runnable e = true → e.kind.usesLane = false →
    e.kind = .promote ∧ s.mirror.promotion ≠ none

theorem checked_ended (h : ∀ e, s.entry k = some e → e.state = .ending) : s.Checked k := fun e he hr _ =>
  absurd (h e he) (runnable_queued hr)

theorem checked_endEntry (he : s.entry k = some e) (st : Status) : (endEntry k st s).Checked k := by
  refine checked_ended fun g hg => ?_
  rw [entry_endEntry he] at hg
  rw [← Option.some.inj hg]
  rfl

theorem checked_handKey (s : State) (k : Key) : (handKey s k).Checked k := by
  cases he : s.entry k with
  | none =>
    rw [handKey_absent he]
    exact fun e he' => by rw [he] at he'; cases he'
  | some e =>
    obtain rfl := entry_key he
    cases hr : s.runnable e with
    | false =>
      rw [handKey_idle he hr]
      intro g hg hrun
      rw [he] at hg
      rw [← Option.some.inj hg, hr] at hrun
      cases hrun
    | true =>
      cases hl : e.kind.usesLane with
      | true =>
        rw [handKey_lane he hl]
        intro g hg _ hlane
        rw [he] at hg
        rw [← Option.some.inj hg, hl] at hlane
        cases hlane
      | false =>
        rcases usesLane_false hl with ⟨ep, hk⟩ | hk
        · rw [handKey_resyncBegin he hr hk]
          unfold checkResyncBegin
          split
          · exact checked_endEntry ((entry_setBehind s e.key).trans he) _
          · exact checked_endEntry he _
        · rw [handKey_promote he hr hk]
          have hwaits : ∀ v : State, v.entry e.key = some e → v.mirror.promotion ≠ none → v.Checked e.key :=
            fun v hv hp g hg _ _ => by
              rw [hv] at hg
              rw [← Option.some.inj hg]
              exact ⟨hk, hp⟩
          unfold checkPromote
          split
          case h_1 p hp =>
            split
            · exact hwaits s he (by rw [hp]; nofun)
            · exact checked_endEntry he _
          case h_2 =>
            split
            · exact hwaits _ he nofun
            · exact checked_endEntry he _

theorem checked_handKey_other (h : s.Checked k) (j : Key) : (handKey s j).Checked k := by
  by_cases hj : j = k
  · rw [hj]
    exact checked_handKey s k
  · intro e he hr hl
    rw [entry_handKey_other hj] at he
    have hh := handed_handKey s j
    obtain ⟨hk, hp⟩ := h e he ((hh.runnable hl).mp hr) hl
    obtain ⟨p, hp⟩ := Option.ne_none_iff_exists'.mp hp
    exact ⟨hk, by rw [hh.promotion p hp]; nofun⟩

theorem checked_foldl : ∀ (l : List Key) (s : State), k ∈ l ∨ s.Checked k → (l.foldl handKey s).Checked k
  | [], _, h => h.resolve_left List.not_mem_nil
  | j :: l, s, h => by
    refine checked_foldl l (handKey s j) ?_
    rcases h with h | h
    · rcases List.mem_cons.mp h with rfl | h
      · exact .inr (checked_handKey s _)
      · exact .inl h
    · exact .inr (checked_handKey_other h j)

/-! ## RESYNC_BEGIN and PROMOTE (R146, R158) -/

theorem keys_split (he : s.entry k = some e) (hn : s.keys.Nodup) : ∃ l r, s.keys = l ++ k :: r ∧ k ∉ l ∧ k ∉ r := by
  have hk : k ∈ s.keys := by
    rw [← entry_key he]
    exact List.mem_map_of_mem (entry_mem he)
  obtain ⟨l, r, h⟩ := List.append_of_mem hk
  rw [h] at hn
  have hd := List.nodup_append.mp hn
  exact ⟨l, r, h, fun hl => hd.2.2 k hl k List.mem_cons_self rfl, (List.nodup_cons.mp hd.2.1).1⟩

/-- The checks come to an entry with what the others' checks keep, and leave what its own makes of it. -/
theorem handSpecials_entry (he : s.entry k = some e) (hn : s.keys.Nodup) : ∃ v, Handed s v ∧ v.entry k = some e
    ∧ Handed (handKey v k) (handSpecials s) ∧ (handSpecials s).entry k = (handKey v k).entry k := by
  obtain ⟨l, r, h, hl, hr⟩ := keys_split he hn
  refine ⟨l.foldl handKey s, handed_foldl l s, (entry_hand_others l s hl).trans he, ?_, ?_⟩
  · rw [handSpecials_eq, h, List.foldl_append, List.foldl_cons]
    exact handed_foldl r _
  · rw [handSpecials_eq, h, List.foldl_append, List.foldl_cons]
    exact entry_hand_others r _ hr

theorem handSpecials_resyncBegin {ep : Nat} (he : s.entry e.key = some e) (hn : s.keys.Nodup) (hr : s.runnable e = true)
    (hk : e.kind = .resyncBegin ep) :
    (s.mirror.role = .secondary ∧ s.partner = some e.key.origin ∧ ep = s.mirror.epoch →
        (handSpecials s).entry e.key = some (e.over .ok) ∧ (handSpecials s).mirror.behind = true)
      ∧ (¬ (s.mirror.role = .secondary ∧ s.partner = some e.key.origin ∧ ep = s.mirror.epoch) →
        (handSpecials s).entry e.key = some (e.over .denied)) := by
  obtain ⟨v, hv, hev, hafter, hend⟩ := handSpecials_entry he hn
  have hstep := handKey_resyncBegin hev ((hv.runnable (by rw [hk]; rfl)).mpr hr) hk
  have hrole : v.mirror.role = s.mirror.role := congrArg Steady.role hv.steady
  have hepoch : v.mirror.epoch = s.mirror.epoch := congrArg Steady.epoch hv.steady
  have hset : v.settings = s.settings := congrArg Steady.settings hv.steady
  have hpart : v.partner = s.partner := by
    unfold State.partner
    rw [hset]
  rw [hend]
  rw [hstep] at hafter ⊢
  unfold checkResyncBegin at hafter ⊢
  rw [hrole, hepoch, hpart] at hafter ⊢
  refine ⟨fun ⟨h₁, h₂, h₃⟩ => ?_, fun h => ?_⟩
  · have hc : s.mirror.role = .secondary ∧ some e.key.origin = s.partner ∧ ep = s.mirror.epoch := ⟨h₁, h₂.symm, h₃⟩
    rw [if_pos hc] at hafter ⊢
    have hev' := (entry_setBehind v e.key).trans hev
    exact ⟨entry_endEntry hev' _, hafter.behind ((handed_endEntry (st := .ok) hev' rfl nofun).behind
      (behind_setBehind_secondary (hrole.trans h₁)))⟩
  · rw [if_neg fun ⟨h₁, h₂, h₃⟩ => h ⟨h₁, h₂.symm, h₃⟩]
    exact entry_endEntry hev _

/-! ## PROMOTE (R158, R159) -/

/-- The tests that a PROMOTE entry passes. -/
def State.Promotes (s : State) : Prop :=
  s.mirror.role = .secondary ∧ s.mirror.behind = false ∧ s.mirror.epoch < 65535
    ∧ ∀ n, s.partner = some n → (s.presence n).state ≠ .listening ∨ (s.presence n).drive = .fault

theorem partnerServes_false_iff : s.partnerServes = false ↔
    ∀ n, s.partner = some n → (s.presence n).state ≠ .listening ∨ (s.presence n).drive = .fault := by
  unfold State.partnerServes
  cases s.partner with
  | none => simp
  | some p =>
    simp only [Bool.and_eq_false_iff, beq_eq_false_iff_ne, bne_eq_false_iff_eq, Option.some.injEq, forall_eq', ne_eq]

theorem partnerServes_iff : s.partnerServes = true ↔
    ∃ n, s.partner = some n ∧ (s.presence n).state = .listening ∧ (s.presence n).drive ≠ .fault := by
  unfold State.partnerServes
  cases s.partner with
  | none => simp
  | some p => simp

theorem mayPromote_iff : s.mayPromote = true ↔ s.Promotes := by
  unfold State.mayPromote State.Promotes
  rw [← partnerServes_false_iff]
  simp only [Bool.and_eq_true, beq_iff_eq, Bool.not_eq_true', decide_eq_true_eq]
  exact ⟨fun ⟨⟨⟨h₁, h₂⟩, h₃⟩, h₄⟩ => ⟨h₁, h₂, h₄, h₃⟩, fun ⟨h₁, h₂, h₄, h₃⟩ => ⟨⟨⟨h₁, h₂⟩, h₃⟩, h₄⟩⟩

/-- Besides the entry of one name nothing is runnable for the mirror unit but the entry of the pending promotion. -/
def State.OnlySpecial (k : Key) (s : State) : Prop :=
  ∀ g ∈ s.request.queue, s.runnable g = true → g.kind.usesLane = false →
    g.key = k ∨ g.kind = .promote ∧ ∃ p, s.mirror.promotion = some p ∧ p.key = g.key

theorem checkPromote_pending {p : Promotion} (hp : s.mirror.promotion = some p) (h : p.key = e.key ∨ s.Promotes) :
    checkPromote e s = s := by
  unfold checkPromote
  rw [hp]
  exact if_pos (h.imp_right mayPromote_iff.mpr)

theorem checkPromote_denied {p : Promotion} (hp : s.mirror.promotion = some p) (hk : p.key ≠ e.key) (h : ¬ s.Promotes) :
    checkPromote e s = endEntry e.key .denied s := by
  unfold checkPromote
  rw [hp]
  exact if_neg fun hc => hc.elim hk fun hm => h (mayPromote_iff.mp hm)

theorem checkPromote_passes (hp : s.mirror.promotion = none) (h : s.Promotes) :
    checkPromote e s = s.onMirror fun m => { m with promotion := some { key := e.key, sent := false } } := by
  unfold checkPromote
  rw [hp]
  exact if_pos (mayPromote_iff.mpr h)

theorem checkPromote_fails (hp : s.mirror.promotion = none) (h : ¬ s.Promotes) :
    checkPromote e s = endEntry e.key .denied s := by
  unfold checkPromote
  rw [hp]
  exact if_neg (mt mayPromote_iff.mp h)

/-- The check of another entry than the only one does nothing. -/
theorem handKey_only (h : s.OnlySpecial k) (hj : j ≠ k) : handKey s j = s := by
  rcases handKey_cases s j with hn | ⟨e, he, hr, ⟨ep, hk, -⟩ | ⟨hk, hn⟩⟩
  · exact hn
  · rcases h e (entry_mem he) hr (by rw [hk]; rfl) with hkey | ⟨hkind, -⟩
    · exact absurd ((entry_key he).symm.trans hkey) hj
    · rw [hk] at hkind
      cases hkind
  · rcases h e (entry_mem he) hr (by rw [hk]; rfl) with hkey | ⟨-, p, hp, hkey⟩
    · exact absurd ((entry_key he).symm.trans hkey) hj
    · rw [hn]
      exact checkPromote_pending hp (.inl hkey)

theorem hand_only (h : s.OnlySpecial k) : ∀ l : List Key, k ∉ l → l.foldl handKey s = s
  | [], _ => rfl
  | j :: l, hl => by
    have hj : j ≠ k := fun hj => hl (hj ▸ List.mem_cons_self)
    rw [List.foldl_cons, handKey_only h hj]
    exact hand_only h l fun hm => hl (List.mem_cons_of_mem j hm)

/-- Where only one entry is checked, its check is all that happens. -/
theorem handSpecials_only (he : s.entry k = some e) (hn : s.keys.Nodup) (h : s.OnlySpecial k)
    (h' : (handKey s k).OnlySpecial k) : handSpecials s = handKey s k := by
  obtain ⟨l, r, hs, hl, hr⟩ := keys_split he hn
  rw [handSpecials_eq, hs, List.foldl_append, List.foldl_cons, hand_only h l hl]
  exact hand_only h' r hr

theorem onlySpecial_handed (h : s.OnlySpecial k) (hh : Handed s u) (hp : u.mirror.promotion = s.mirror.promotion)
    (hq : ∀ g ∈ u.request.queue, g.key ≠ k → g ∈ s.request.queue) : u.OnlySpecial k := fun g hg hr hl => by
  by_cases hk : g.key = k
  · exact .inl hk
  · rw [hp]
    exact h g (hq g hg hk) ((hh.runnable hl).mp hr) hl

theorem onlySpecial_endEntry (he : s.entry k = some e) (h : s.OnlySpecial k) (hm : marksAtEnd st = false) (hs : st ≠ .stale) :
    (endEntry k st s).OnlySpecial k := by
  refine onlySpecial_handed h (handed_endEntry he hm hs) (endEntry_keeps he hs).1 fun g hg hk => ?_
  rw [queue_endEntry he] at hg
  obtain ⟨o, ho, rfl⟩ := List.mem_map.mp hg
  split
  · rename_i hok
    rw [if_pos hok] at hk
    exact absurd hok hk
  · exact ho

theorem handSpecials_promote (he : s.entry e.key = some e) (hn : s.keys.Nodup) (hr : s.runnable e = true) (hk : e.kind = .promote)
    (h : s.OnlySpecial e.key) :
    (s.mirror.promotion = none → s.Promotes →
        handSpecials s = { s with mirror := { s.mirror with promotion := some { key := e.key, sent := false } } })
      ∧ (s.mirror.promotion = none → ¬ s.Promotes →
        (handSpecials s).entry e.key = some (e.over .denied) ∧ (handSpecials s).mirror.promotion = none)
      ∧ ∀ p, s.mirror.promotion = some p →
        (p.key = e.key ∨ s.Promotes → handSpecials s = s)
        ∧ (p.key ≠ e.key → ¬ s.Promotes →
          (handSpecials s).entry e.key = some (e.over .denied) ∧ (handSpecials s).mirror.promotion = some p) := by
  have hstep := handKey_promote he hr hk
  have hdenied : handKey s e.key = endEntry e.key .denied s → (handSpecials s).entry e.key = some (e.over .denied)
      ∧ (handSpecials s).mirror.promotion = s.mirror.promotion := fun hd => by
    rw [handSpecials_only he hn h (by rw [hd]; exact onlySpecial_endEntry he h rfl nofun), hd]
    exact ⟨entry_endEntry he _, (endEntry_keeps (st := .denied) he nofun).1⟩
  refine ⟨fun hp hpass => ?_, fun hp hfail => ?_, fun p hp => ⟨fun hpass => ?_, fun hkey hfail => ?_⟩⟩
  · have hset := hstep.trans (checkPromote_passes hp hpass)
    refine (handSpecials_only he hn h ?_).trans hset
    rw [hset]
    intro g hg hrun hl
    refine .inl ?_
    rcases h g hg hrun hl with hkey | ⟨-, p, hsome, -⟩
    · exact hkey
    · rw [hp] at hsome
      cases hsome
  · rw [← hp]
    exact hdenied (hstep.trans (checkPromote_fails hp hfail))
  · have hset := hstep.trans (checkPromote_pending hp hpass)
    exact (handSpecials_only he hn h (by rw [hset]; exact h)).trans hset
  · rw [← hp]
    exact hdenied (hstep.trans (checkPromote_denied hp hkey hfail))

end

/-! Entries for the mirror unit and the pending promotion through the tests (R110, R159). -/

section
variable {s u v : State} {e : Entry} {k : Key} {p : Promotion}

/-! ## What the tests after the checks keep -/

/-- No entry enters QUEUED, the drive's state and the use of the record are as they were, and a promotion is pending as before. -/
structure SpecialsKept (s u : State) : Prop where
  state : u.drive.state = s.drive.state
  inUse : u.recordInUse = s.recordInUse
  promotion : u.mirror.promotion = none ↔ s.mirror.promotion = none
  queue : ∀ e ∈ u.request.queue, e.state = .queued → e ∈ s.request.queue

theorem SpecialsKept.refl (s : State) : SpecialsKept s s := ⟨rfl, rfl, Iff.rfl, fun _ h _ => h⟩

theorem SpecialsKept.trans (h : SpecialsKept s u) (g : SpecialsKept u v) : SpecialsKept s v :=
  ⟨g.state.trans h.state, g.inUse.trans h.inUse, g.promotion.trans h.promotion, fun e he hq => h.queue e (g.queue e he hq) hq⟩

theorem specialsKept_of (hd : u.drive.state = s.drive.state) (hc : u.mirror.cond = s.mirror.cond)
    (hp : u.mirror.promotion = s.mirror.promotion) (hq : ∀ e ∈ u.request.queue, e.state = .queued → e ∈ s.request.queue) :
    SpecialsKept s u :=
  ⟨hd, by unfold State.recordInUse; rw [hc], by rw [hp], hq⟩

theorem SameLane.specials (h : SameLane s u) : SpecialsKept s u :=
  specialsKept_of h.state (by rw [h.mirror]) (by rw [h.mirror]) fun e he _ => h.queue ▸ he

theorem specialsKept_takePages (s : State) : SpecialsKept s (takePages s) := by
  unfold takePages
  split
  · split
    · dsimp only
      split <;> exact specialsKept_of rfl rfl rfl fun _ h _ => h
    · exact .refl s
  · exact .refl s

theorem specialsKept_checkRun (s : State) (k : Key) : SpecialsKept s (checkRun s k) := by
  rcases checkRun_cases s k with h | ⟨e, st, he, -, hf, h⟩
  · rw [h]
    exact .refl s
  · obtain ⟨r, c, o, w, hends⟩ := endsOnly_endEntry he (runFailure_cases hf)
    rw [h]
    refine specialsKept_of (by rw [hends]) (by rw [hends]) (by rw [hends]) fun g hg hq => ?_
    rw [queue_endEntry he] at hg
    obtain ⟨o, ho, rfl⟩ := List.mem_map.mp hg
    by_cases hk : o.key = k
    · rw [if_pos hk] at hq
      cases hq
    · rw [if_neg hk]
      exact ho

theorem specialsKept_checkRuns : ∀ (l : List Key) (s : State), SpecialsKept s (l.foldl checkRun s)
  | [], s => .refl s
  | k :: l, s => (specialsKept_checkRun s k).trans (specialsKept_checkRuns l _)

theorem specialsKept_sendRecordWork (s : State) : SpecialsKept s (sendRecordWork s) := by
  refine ⟨?_, (linkKept_sendRecordWork s).inUse, ?_, ?_⟩
  all_goals unfold sendRecordWork; split
  · rfl
  · split <;> rfl
  · exact Iff.rfl
  · split
    · exact Iff.rfl
    · exact Option.map_eq_none_iff
  · exact fun _ h _ => h
  · split <;> exact fun _ h _ => h

theorem specialsKept_sendChunkRead (s : State) : SpecialsKept s (sendChunkRead s) := by
  unfold sendChunkRead
  split
  · exact specialsKept_of rfl rfl rfl fun _ h _ => h
  · exact .refl s

theorem specialsKept_runEntry (e : Entry) (s : State) : SpecialsKept s (runEntry e s) := by
  refine specialsKept_of rfl rfl rfl fun g hg hq => ?_
  obtain ⟨o, ho, rfl⟩ := List.mem_map.mp hg
  dsimp only at hq ⊢
  by_cases hk : o.key = e.key
  · rw [if_pos hk] at hq
    cases hq
  · rw [if_neg hk]
    exact ho

theorem specialsKept_chooseCommand (s : State) : SpecialsKept s (chooseCommand s) := by
  have hc : SpecialsKept s (runChecks s) := specialsKept_checkRuns _ s
  unfold chooseCommand
  split
  · split
    · exact specialsKept_sendRecordWork s
    · split
      · exact specialsKept_sendChunkRead s
      · dsimp only
        split
        · exact hc.trans (specialsKept_runEntry _ _)
        · split
          · exact hc.trans (specialsKept_sendChunkRead _)
          · exact hc
  · exact .refl s

theorem specialsKept_settlePages (s : State) : SpecialsKept s (settlePages s) :=
  (specialsKept_takePages s).trans (specialsKept_chooseCommand _)

theorem specialsKept_placeRequest (s : State) : SpecialsKept s (placeRequest s) := by
  unfold placeRequest
  split
  · dsimp only
    split
    · exact specialsKept_of rfl rfl rfl fun _ h _ => List.mem_of_mem_filter h
    all_goals exact specialsKept_of rfl rfl rfl fun _ h _ => h
  · exact .refl s

theorem specialsKept_placeMirror (s : State) : SpecialsKept s (placeMirror s) := by
  unfold placeMirror
  split
  · dsimp only
    split
    · exact specialsKept_of rfl rfl rfl fun _ h _ => List.mem_of_mem_filter h
    · exact specialsKept_of rfl rfl rfl fun _ h _ => h
  · exact .refl s

theorem specialsKept_placeResync (s : State) : SpecialsKept s (placeResync s) := by
  unfold placeResync
  split
  · split
    · dsimp only
      split <;> exact specialsKept_of rfl rfl rfl fun _ h _ => h
    · exact .refl s
  · exact .refl s

theorem specialsKept_settleSlots (b s : State) : SpecialsKept s (settleSlots b s) := by
  have h₁ : ∀ w : State, SpecialsKept w (orderFresh b.request.out.length w) := fun w =>
    specialsKept_of rfl rfl rfl fun _ h _ => h
  have h₂ : ∀ w : State, SpecialsKept w (orderMirror b.mirror.out w) := fun w => specialsKept_of rfl rfl rfl fun _ h _ => h
  exact (h₁ s).trans ((h₂ _).trans ((specialsKept_placeRequest _).trans ((specialsKept_placeMirror _).trans
    (specialsKept_placeResync _))))

/-- What the lane's tests are given. -/
def mirrored (b s : State) : State := settleMirror (hotAction (edged b s))

/-- The tests after the mirror unit's checks. -/
theorem specialsKept_settle (b : State) (h : s.takesPart = true) :
    SpecialsKept (handSpecials (mirrored b s)) (settle b s) := by
  have hw : worked b s = settlePages (settleSlots b (settlePages (handSpecials (mirrored b s)))) := rfl
  have hsame := (sameLane_settle b h).specials
  rw [hw] at hsame
  exact (specialsKept_settlePages _).trans ((specialsKept_settleSlots b _).trans ((specialsKept_settlePages _).trans hsame))

/-! ## The entries left for the mirror unit -/

theorem exists_fresh (hq : QueueSound s) : ∃ k : Key, s.entry k = none := by
  classical
  let names : Finset Key := (Finset.range 17).image fun i => ⟨0, BitVec.ofNat 8 i⟩
  have hcard : names.card = 17 := by decide
  have hlen : s.keys.toFinset.card ≤ 16 := (List.toFinset_card_le _).trans (by unfold State.keys; rw [List.length_map]; exact hq.1)
  obtain ⟨k, -, hk⟩ := Finset.exists_mem_notMem_of_card_lt_card (s := s.keys.toFinset) (t := names) (by omega)
  refine ⟨k, List.find?_eq_none.mpr fun e he hkey => hk ?_⟩
  rw [List.mem_toFinset, ← beq_iff_eq.mp hkey]
  exact List.mem_map_of_mem he

theorem keys_mirrored (b : State) (hq : QueueSound s) : (mirrored b s).keys = s.keys := by
  obtain ⟨k, hk⟩ := exists_fresh hq
  have ho : s.Over k := ⟨hq.2, fun e he => by rw [hk] at he; cases he⟩
  have h₁ : Spares k s (hotAction (edged b s)) := (spares_edged b s).trans (spares_hotAction ((spares_edged b s).over ho))
  exact (h₁.trans (spares_settleMirror (h₁.over ho))).keys

theorem queueSound_of_keys (hq : QueueSound s) (h : u.keys = s.keys) : QueueSound u := by
  have hlen : ∀ w : State, w.request.queue.length = w.keys.length := fun w => (List.length_map _).symm
  refine ⟨?_, ?_⟩
  · rw [hlen, h, ← hlen]
    exact hq.1
  · show u.keys.Nodup
    rw [h]
    exact hq.2

/-- After the checks only a PROMOTE entry is left runnable for the mirror unit, with a promotion pending. -/
theorem handSpecials_leaves (hq : QueueSound s) (he : e ∈ (handSpecials s).request.queue)
    (hr : (handSpecials s).runnable e = true) (hl : e.kind.usesLane = false) :
    e.kind = .promote ∧ (handSpecials s).mirror.promotion ≠ none := by
  have hk : (handSpecials s).keys = s.keys := (handed_foldl s.keys s).keys
  have hmem : e.key ∈ s.keys := by
    rw [← hk]
    exact List.mem_map_of_mem he
  exact checked_foldl s.keys s (.inl hmem) e (entry_of_mem (queueSound_of_keys hq hk) he) hr hl

theorem settle_leaves (b : State) (ht : s.takesPart = true) (hq : QueueSound s) (he : e ∈ (settle b s).request.queue)
    (hr : (settle b s).runnable e = true) :
    (∀ ep, e.kind ≠ .resyncBegin ep) ∧ (e.kind = .promote → (settle b s).mirror.promotion ≠ none) := by
  cases hl : e.kind.usesLane with
  | true =>
    refine ⟨fun ep hk => ?_, fun hk => ?_⟩
    all_goals
      rw [hk] at hl
      cases hl
  | false =>
    have hkept := specialsKept_settle b ht
    have hq' : QueueSound (mirrored b s) := queueSound_of_keys hq (keys_mirrored b hq)
    obtain ⟨hqueued, hready, huse⟩ := (runnable_special hl).mp hr
    have hr' := (runnable_special (s := handSpecials (mirrored b s)) hl).mpr
      ⟨hqueued, hkept.state.symm.trans hready, hkept.inUse.symm.trans huse⟩
    obtain ⟨hk, hp⟩ := handSpecials_leaves hq' (hkept.queue e he hqueued) hr' hl
    exact ⟨fun ep h => (by rw [hk] at h; cases h), fun _ h => hp (hkept.promotion.mp h)⟩

end

/-! A promotion that is dropped (R159). -/

section
variable {s u v : State} {e : Entry} {k : Key} {p : Promotion}

/-! ## The pending promotion through the tests -/

theorem promotion_of_offEntries (h : u.offEntries = s.offEntries) : u.mirror.promotion = s.mirror.promotion :=
  have hp : u.offEntries.mirror.promotion = s.offEntries.mirror.promotion := congrArg (·.mirror.promotion) h
  hp

theorem promotion_endEntry (k : Key) (st : Status) (s : State) : (endEntry k st s).mirror.promotion = s.mirror.promotion :=
  promotion_of_offEntries (offEntries_endEntry k st s)

theorem promotion_foldl {α : Type} (f : State → α → State) (hf : ∀ s a, (f s a).mirror.promotion = s.mirror.promotion) :
    ∀ (l : List α) (s : State), (l.foldl f s).mirror.promotion = s.mirror.promotion
  | [], _ => rfl
  | a :: l, s => (promotion_foldl f hf l (f s a)).trans (hf s a)

theorem promotion_stopResync (s : State) : (stopResync false s).mirror.promotion = s.mirror.promotion := by
  obtain ⟨hf, -, -⟩ := stopResync_spec s
  rw [hf]

theorem promotion_endWaits (st : Status) (b : Bool) (s : State) : (endWaits st b s).mirror.promotion = s.mirror.promotion := by
  have hmark : ∀ (e : Entry) (v : State),
      (if b then (match e.extent with | some x => markExtent x v | none => v) else v).mirror.promotion = v.mirror.promotion :=
    fun e v => by
      split
      · split
        · exact promotion_of_offEntries (offEntries_markRegions _ v)
        · rfl
      · rfl
  rw [endWaits_eq]
  exact promotion_foldl _ (fun v e => (promotion_endEntry _ _ _).trans (hmark e v)) _ s

theorem promotion_linkLeft (a b : Link) (s : State) : (linkLeft a b s).mirror.promotion = s.mirror.promotion := by
  have h₁ : ∀ (c : Prop) [Decidable c], (if c then
      ((setBehind s).request.queue.filter fun e =>
        e.kind == .replica && (e.state == .dataIn || e.state == .queued)).foldl (fun s e => endReplica e.key true s) (setBehind s)
      else s).mirror.promotion = s.mirror.promotion := fun c _ => by
    split
    · exact (promotion_foldl _ (fun v e => promotion_of_offEntries (offEntries_endReplica _ _ v)) _ _).trans
        (promotion_of_offEntries (offEntries_setBehind s))
    · rfl
  have h₂ : ∀ (w : State) (c : Prop) [Decidable c],
      (if c then endWaits .okDegraded true w else w).mirror.promotion = w.mirror.promotion := fun w c _ => by
    split
    · exact promotion_endWaits _ _ w
    · rfl
  have h₃ : ∀ (w : State) (c : Prop) [Decidable c],
      (if c then stopResync false w else w).mirror.promotion = w.mirror.promotion := fun w c _ => by
    split
    · exact promotion_stopResync w
    · rfl
  exact (h₃ _ _).trans ((h₂ _ _).trans (h₁ _))

theorem promotion_judgeLink (s : State) : (judgeLink s).mirror.promotion = s.mirror.promotion := by
  unfold judgeLink
  dsimp only
  split
  · rfl
  · exact promotion_linkLeft _ _ _

theorem promotion_stopped (s : State) : s.stopped.mirror.promotion = none := by
  have hage : ∀ w : State, (ageSweep w).mirror.promotion = w.mirror.promotion := fun w =>
    promotion_of_offEntries (offEntries_endWorks .noPower _ w)
  exact (hage _).trans (promotion_stopResync s.stopping)

theorem promotion_enterSpinDown (s : State) : (enterSpinDown s).mirror.promotion = none := by
  have h := promotion_stopped s
  rw [enterSpinDown_eq]
  generalize s.stopped = w at h
  split <;> exact h

theorem promotion_hotAction (s : State) :
    (hotAction s).mirror.promotion = s.mirror.promotion ∨ (hotAction s).mirror.promotion = none := by
  unfold hotAction
  split
  · refine .inl ?_
    unfold giveUpDeferral
    dsimp only
    rw [if_neg Bool.false_ne_true, (mirror_of_offClaim (offClaim_powerRemoved _)).1]
    rfl
  · split
    · exact .inr (promotion_enterSpinDown s)
    · split <;> exact .inl rfl

theorem promotion_edged (b s : State) : (edged b s).mirror.promotion = s.mirror.promotion := by
  have hstop : (stopIdle s).mirror = s.mirror := by
    unfold stopIdle
    split <;> rfl
  unfold edged
  rw [(mirror_of_offWatch (offWatch_dutyEdge b _)).1, hstop]

/-- Before the test of R159 the promotion is the one before the tests, unless the drive stops. -/
theorem promotion_judged (b s : State) :
    (judged b s).mirror.promotion = s.mirror.promotion ∨ (judged b s).mirror.promotion = none := by
  have h : (judged b s).mirror.promotion = (hotAction (edged b s)).mirror.promotion := promotion_judgeLink _
  rw [h, ← promotion_edged b s]
  exact promotion_hotAction _

/-! ## The partner serves (R158, R159) -/

theorem fault_of_steady (h : u.steady = s.steady) : u.drive.state = .fault ↔ s.drive.state = .fault := by
  have hheld : (if u.drive.state = .fault ∨ u.drive.state = .spinUp then some u.drive.state else none)
      = if s.drive.state = .fault ∨ s.drive.state = .spinUp then some s.drive.state else none := congrArg Steady.held h
  cases hu : u.drive.state <;> cases hs : s.drive.state <;> simp_all

theorem partnerServes_of_steady (h : u.steady = s.steady) : u.partnerServes = s.partnerServes := by
  have hset : u.settings = s.settings := congrArg Steady.settings h
  have hstation : u.station = s.station := congrArg Steady.station h
  have hpeers : u.peers = s.peers := congrArg Steady.peers h
  have hpart : u.partner = s.partner := by
    unfold State.partner
    rw [hset]
  have hfault : ∀ n, ((u.presence n).drive != .fault) = ((s.presence n).drive != .fault) := fun n => by
    unfold State.presence
    rw [hstation, hpeers]
    split
    · rw [Bool.eq_iff_iff, bne_iff_ne, bne_iff_ne]
      exact not_congr (fault_of_steady h)
    · rfl
  unfold State.partnerServes
  rw [hpart]
  cases s.partner with
  | none => rfl
  | some n =>
    dsimp only
    rw [presenceState_of_steady h n, hfault n]

/-! ## The drop -/

theorem dropPromotion_stays (hp : s.mirror.promotion = some p) (h : p.sent = true ∨ s.partnerServes = false) :
    dropPromotion s = s := by
  unfold dropPromotion
  rw [hp]
  refine if_neg ?_
  rcases h with h | h <;> simp [h]

theorem dropPromotion_drops (hp : s.mirror.promotion = some p) (hs : p.sent = false) (h : s.partnerServes = true) :
    dropPromotion s =
      if (s.onMirror fun m => { m with promotion := none }).queuedEntry p.key then
        endEntry p.key .denied (s.onMirror fun m => { m with promotion := none })
      else s.onMirror fun m => { m with promotion := none } := by
  unfold dropPromotion
  rw [hp]
  exact if_pos (by simp [hs, h])

theorem promotion_dropped (hp : s.mirror.promotion = some p) (hs : p.sent = false) (h : s.partnerServes = true) :
    (dropPromotion s).mirror.promotion = none := by
  rw [dropPromotion_drops hp hs h]
  split
  · exact promotion_endEntry _ _ _
  · rfl

theorem dropPromotion_none (hp : s.mirror.promotion = none) : dropPromotion s = s := by
  unfold dropPromotion
  rw [hp]

theorem entry_dropped (hp : s.mirror.promotion = some p) (hs : p.sent = false) (h : s.partnerServes = true)
    (he : s.entry p.key = some e) (hq : e.state = .queued) : (dropPromotion s).entry p.key = some (e.over .denied) := by
  have he' : (s.onMirror fun m => { m with promotion := none }).entry p.key = some e := he
  have hqueued : (s.onMirror fun m => { m with promotion := none }).queuedEntry p.key = true := by
    unfold State.queuedEntry
    rw [he']
    exact beq_iff_eq.mpr hq
  rw [dropPromotion_drops hp hs h, if_pos hqueued]
  exact entry_endEntry he' _

/-- While the partner serves, no promotion begins. -/
theorem promotion_handKey (h : s.partnerServes = true) (hp : s.mirror.promotion = none) (k : Key) :
    (handKey s k).mirror.promotion = none := by
  have hmay : ¬ s.Promotes := fun hm => by
    rw [← mayPromote_iff] at hm
    unfold State.mayPromote at hm
    simp [h] at hm
  rcases handKey_cases s k with hn | ⟨e, -, -, ⟨ep, -, hn⟩ | ⟨-, hn⟩⟩
  · rw [hn]
    exact hp
  · rw [hn]
    unfold checkResyncBegin
    split
    · exact (promotion_endEntry _ _ _).trans ((promotion_of_offEntries (offEntries_setBehind s)).trans hp)
    · exact (promotion_endEntry _ _ _).trans hp
  · rw [hn, checkPromote_fails hp hmay]
    exact (promotion_endEntry _ _ _).trans hp

theorem promotion_hands : ∀ (l : List Key) (s : State), s.partnerServes = true → s.mirror.promotion = none →
    (l.foldl handKey s).mirror.promotion = none
  | [], _, _, hp => hp
  | k :: l, s, h, hp => promotion_hands l (handKey s k) ((partnerServes_of_steady (handed_handKey s k).steady).trans h)
      (promotion_handKey h hp k)

theorem resyncWakeTest_promotion (s : State) : (resyncWakeTest s).mirror.promotion = s.mirror.promotion := by
  unfold resyncWakeTest
  split
  · split <;> rfl
  · rfl

theorem startResync_promotion (s : State) : (startResync s).mirror.promotion = s.mirror.promotion := by
  unfold startResync
  split
  · split <;> rfl
  · rfl

/-- After the tests an unsent promotion is gone while the partner serves. -/
theorem promotion_settle (b : State) (ht : s.takesPart = true) (hp : s.mirror.promotion = some p) (hs : p.sent = false)
    (h : s.partnerServes = true) : (settle b s).mirror.promotion = none := by
  have hserves : ∀ w : State, w.steady = s.steady → w.partnerServes = true := fun w hw => (partnerServes_of_steady hw).trans h
  have hdrop : (dropPromotion (judged b s)).mirror.promotion = none := by
    rcases promotion_judged b s with hj | hj
    · exact promotion_dropped (hj.trans hp) hs (hserves _ (steady_judged b s))
    · rw [dropPromotion_none hj]
      exact hj
  have hmirrored : (mirrored b s).mirror.promotion = none :=
    (resyncWakeTest_promotion _).trans ((startResync_promotion _).trans hdrop)
  have hsteady : (mirrored b s).steady = s.steady :=
    (steady_resyncWakeTest _).trans (steady_linked b s)
  exact (specialsKept_settle b ht).promotion.mpr (promotion_hands _ _ (hserves _ hsteady) hmirrored)

/-! ## An entry that does not time out when the drive stops (R113, R159) -/

theorem entry_enterSpinDown (hq : QueueSound s) (he : s.entry k = some e) (ha : s.aged e = false) :
    (enterSpinDown s).entry k = some e := by
  obtain rfl := entry_key he
  rw [(enterSpinDown_keeps s).1]
  refine (stopEnds_stopped hq).others e (entry_mem he) fun ho => ?_
  have haged : s.aged e = true := (List.mem_filter.mp ho).2
  rw [ha] at haged
  cases haged

end

/-! What moves the entries on the drive lane. -/

section
variable {s : State} {e : Entry} {k : Key} {cmd : LaneCmd} {t : Tick} {bs : List (List Byte)} {x : Extent}

theorem runFailure_ofWrite (hk : e.kind = .write) (hr : s.mirror.role = .secondary) : s.runFailure e = some .role := by
  unfold State.runFailure
  rw [hk]
  exact if_pos hr

theorem runFailure_ofResyncIn (hk : e.kind = .resyncIn) (h : s.mirror.role ≠ .secondary ∨ s.partner ≠ some e.key.origin) :
    s.runFailure e = some .role := by
  unfold State.runFailure
  rw [hk]
  exact if_pos (h.imp_right Ne.symm)

theorem runFailure_ofStale (hk : e.kind = .read) (hr : s.mirror.role = .secondary) (hb : s.mirror.behind = true) :
    s.runFailure e = some .stale := by
  unfold State.runFailure
  rw [hk]
  exact if_pos ⟨hr, hb⟩

/-- The checks of R111, as the choice of a command leaves them. -/
theorem chooseCommand_fails {st : Status} (hd : s.drive.state = .ready) (hf : s.drive.flight = none) (hw : s.recordWork = false)
    (hc : ∀ c, s.engine.chunk = some c → c.step = .read → (s.tick - s.drive.resyncWait).toNat < 100)
    (he : s.entry e.key = some e) (hr : s.runnable e = true) (hfail : s.runFailure e = some st) :
    (chooseCommand s).entry e.key = some (e.over st) := by
  rw [chooseCommand_entries hd hf hw hc]
  exact entry_chooseEntry (runChecks_fails he hr hfail)

/-- The oldest runnable entry goes to the lane. -/
theorem chooseCommand_runs (hd : s.drive.state = .ready) (hf : s.drive.flight = none) (hw : s.recordWork = false)
    (hc : ∀ c, s.engine.chunk = some c → c.step = .read → (s.tick - s.drive.resyncWait).toNat < 100)
    (hpass : ∀ g ∈ s.request.queue, s.runnable g = true → s.runFailure g = none)
    (hfind : s.request.queue.find? (fun g => s.runnable g && g.kind.usesLane) = some e) (he : s.entry e.key = some e) :
    (chooseCommand s).entry e.key = some { e with state := .running }
      ∧ ∀ x : Extent, e.extent = some x ∨ e.kind = .sync → (chooseCommand s).drive.flight = some
        { cmd := if e.kind = .sync then .sync else if e.kind = .read then .read x.start x.count else .write x.start x.count
          requester := .entry e.key, start := s.tick } := by
  have hlane := List.find?_some hfind
  rw [Bool.and_eq_true] at hlane
  rw [chooseCommand_entries hd hf hw hc, runChecks_pass hpass, chooseEntry_runs hfind]
  refine ⟨entry_onEntry_same he _ fun _ => rfl, fun x hx => ?_⟩
  rw [← lane_of_extent hx hlane.2]
  rfl

theorem recordWork_of_first (h : (s.mirror.cond == .notLoaded || s.mirror.calls.any
    || (match s.mirror.promotion with | some p => !p.sent | none => false)) = false) : s.recordWork = false := h

end

section
variable {s : State} {e : Entry} {k : Key} {cmd : LaneCmd} {t : Tick} {bs : List (List Byte)} {x : Extent}

/-- R132 at a PRIMARY: the three outcomes of a WRITE that the drive has written. -/
theorem copyDecision_degrades (hr : s.mirror.role = .primary) (hx : e.extent = some x)
    (h : s.copyState e.key = some .missHeard
      ∨ e.ackEarly = false ∧ (s.copyState e.key = some .notExpected ∨ s.mirror.link.together = false)) :
    copyDecision e s = endEntry e.key .okDegraded (markExtent x s) := by
  rw [copyDecision_primary hr hx]
  rcases h with h | ⟨ha, h⟩
  · exact if_pos h
  · by_cases hm : s.copyState e.key = some .missHeard
    · exact if_pos hm
    · exact (if_neg hm).trans ((if_neg (by rw [ha]; nofun)).trans (if_pos h))

theorem copyDecision_acked (hr : s.mirror.role = .primary) (hx : e.extent = some x) (hm : s.copyState e.key ≠ some .missHeard)
    (ha : e.ackEarly = true) : copyDecision e s = endEntry e.key .ok s := by
  rw [copyDecision_primary hr hx, if_neg hm]
  exact if_pos ha

end

/-- Settles O44. -/
theorem driveRepliesMoveEntries : Obligations.DriveRepliesMoveEntries := by
  unfold Obligations.DriveRepliesMoveEntries
  intro ask
  refine ⟨fun s e => ?runnable, fun b s ht => ?quiet, fun s hd hf => ?choice, fun b s ht hq => ?leaves,
    fun s e hq he hr => ?hand, fun s p hp => ?drop, fun s x k e t hf he => ?blocks, fun s hr hf r => ?idle,
    fun s cmd k t e hreset hf he => ?reply⟩
  case runnable =>
    rw [runnable_iff, recordInUseFor_iff]
    simp only [hazard_false_iff]
  case quiet => exact settle_quiet b ht
  case choice =>
    intro next first
    refine ⟨fun hc => ?_, fun hc ha clean hclean => ?_, fun p hc ha hp hs => ?_, fun c hfirst hchunk hstep hwhen => ?_,
      fun hfirst hchunk => ⟨fun e he hr => ⟨fun hk hrole => ?_, fun hk hrole => ?_, fun hk hrole hb => ?_⟩,
        fun e hpass hfind he => ?_⟩⟩
    · have hw : s.recordWork = true := by simp [State.recordWork, hc]
      show (chooseCommand s).drive.flight = _
      rw [chooseCommand_record hd hf hw]
      exact sendRecordWork_load hc
    · have hw : s.recordWork = true := by simp [State.recordWork, ha]
      have hsent : chooseCommand s = sendRecordWrite clean s :=
        (chooseCommand_record hd hf hw).trans (sendRecordWork_write hc ha hclean)
      obtain ⟨hflight, -, hcalls, hblocks, -⟩ := sendRecordWrite_spec clean s
      show (chooseCommand s).drive.flight = _ ∧ _
      rw [hsent]
      exact ⟨hflight, hblocks, hcalls⟩
    · have hw : s.recordWork = true := by simp [State.recordWork, hp, hs]
      have hsent := (chooseCommand_record hd hf hw).trans (sendRecordWork_promotion hc ha hp)
      show (chooseCommand s).drive.flight = _ ∧ _
      rw [hsent]
      exact ⟨rfl, rfl, rfl⟩
    · have hsent := (chooseCommand_chunk hd hf (recordWork_of_first hfirst) hchunk hstep hwhen).trans (sendChunkRead_chunk hchunk)
      show (chooseCommand s).drive.flight = _ ∧ _
      rw [hsent]
      exact ⟨rfl, rfl⟩
    · exact chooseCommand_fails hd hf (recordWork_of_first hfirst) hchunk he hr (runFailure_ofWrite hk hrole)
    · exact chooseCommand_fails hd hf (recordWork_of_first hfirst) hchunk he hr (runFailure_ofResyncIn hk hrole)
    · exact chooseCommand_fails hd hf (recordWork_of_first hfirst) hchunk he hr (runFailure_ofStale hk hrole hb)
    · exact chooseCommand_runs hd hf (recordWork_of_first hfirst) hchunk hpass hfind he
  case leaves => exact fun e he hr => settle_leaves b ht hq he hr
  case hand =>
    intro u ended
    refine ⟨fun ep hk => handSpecials_resyncBegin he hq.2 hr hk, fun hk honly => ?_⟩
    refine handSpecials_promote he hq.2 hr hk fun g hg hrun hl => ?_
    exact (honly g hg hrun hl).imp_left fun h => by rw [h]
  case drop =>
    intro serves
    refine ⟨fun hs hserves => ?_, fun h => ?_, promotion_enterSpinDown s, fun e hq he ha => entry_enterSpinDown hq he ha⟩
    · have h := partnerServes_iff.mpr hserves
      exact ⟨fun b ht => promotion_settle b ht hp hs h, promotion_dropped hp hs h, fun e he hq => entry_dropped hp hs h he hq⟩
    · refine dropPromotion_stays hp (h.imp_right fun hn => Bool.eq_false_iff.mpr (mt partnerServes_iff.mp hn))
  case blocks => exact laneBlocks_spec hf he
  case idle => exact idles_of (driveReply r) hr rfl (driveReply_idle hf)
  case reply =>
    intro ends
    refine ⟨fun bs hk => does_readReply hreset hf he hk, fun x b bs hk hx => does_readFails hreset hf he hk hx,
      fun bs hk => does_entryDone hreset hf he hk, fun b bs hk => does_entryFails hreset hf he hk,
      fun bs hk hr => does_writeDone hreset hf he hk (copyDecision_single (s := freeLane s) hr) rfl nofun,
      fun bs hk hr => does_writeDone hreset hf he hk (copyDecision_secondary (s := freeLane s) hr) rfl nofun,
      fun bs x hk hr hx => ⟨fun h => ?_, fun hm ha => ?_, fun hm ha hn hl => does_writeWaits hreset hf he hk hr hx hm ha hn hl⟩,
      fun n x hk hp hx => ⟨fun bs hl => does_replicaAcked hreset hf he hk hp hx hl,
        fun bs hl => does_replicaMissed hreset hf he hk hp hx (.inl hl),
        fun b bs => does_replicaMissed hreset hf he hk hp hx (.inr ⟨b, bs, rfl⟩)⟩⟩
    · obtain rfl := entry_key he
      exact does_writeDegraded hreset hf he hk hr (copyDecision_degrades (s := freeLane s) hr hx h)
    · obtain rfl := entry_key he
      exact does_writeDone hreset hf he hk (copyDecision_acked (s := freeLane s) hr hx hm ha) rfl nofun

/-! The resync engine's own events: what becomes of its messages, its pages, its reads and its waits (R145 to R153). -/

section
variable {s v : State} {x : Sending} {d p : Station} {tag : Tag} {ep i : Nat} {c : Chunk} {K : Steady} {P : State → Prop} {u : State}

/-! ## The outcomes of a targeted message (R16) -/

theorem does_sentTaken (hr : s.resetAsserted = false) (hx : s.bus.sending = some x) (hw : x.won = true)
    (hd : x.msg.dest = some d) (b : Bool) (hu : sendDone x .taken (s.lineFreed x.slot) = u) (hk : u.steady = K) (hP : P u) :
    Does (.sendOutcome true b) s K P := by
  have ho : outcomeOf x.msg true b = .taken := by
    cases b
    · exact (outcomeOf_targeted hd).2.1
    · exact (outcomeOf_targeted hd).1
  exact does_sendOutcome hr hx hw (by rw [ho]; exact hu) hk hP

theorem does_sentBusy (hr : s.resetAsserted = false) (hx : s.bus.sending = some x) (hw : x.won = true)
    (hd : x.msg.dest = some d) (hu : sendDone x .busy (s.lineFreed x.slot) = u) (hk : u.steady = K) (hP : P u) :
    Does (.sendOutcome false true) s K P :=
  does_sendOutcome hr hx hw (by rw [(outcomeOf_targeted hd).2.2.1]; exact hu) hk hP

theorem does_sentUnanswered (hr : s.resetAsserted = false) (hx : s.bus.sending = some x) (hw : x.won = true)
    (hd : x.msg.dest = some d) (hu : sendDone x .unanswered (s.lineFreed x.slot) = u) (hk : u.steady = K) (hP : P u) :
    Does (.sendOutcome false false) s K P :=
  does_sendOutcome hr hx hw (by rw [(outcomeOf_targeted hd).2.2.2]; exact hu) hk hP

/-! ## The engine's messages -/

theorem sendDone_resyncBegin (hm : x.msg = .resyncBegin d tag ep) (hn : x.withdrawal = .notAsked) (o : SendOutcome) (v : State) :
    sendDone x o v = resyncBeginOutcome tag o v := by
  simp only [sendDone, hm, hn, if_true]

theorem sendDone_resyncEnd {b : Bool} (hm : x.msg = .resyncEnd d ep b) (hn : x.withdrawal = .notAsked) (o : SendOutcome)
    (v : State) : sendDone x o v = resyncEndOutcome b o v := by
  simp only [sendDone, hm, hn, if_true]

theorem sendDone_resyncWrite {st : BlockNo} {n : Nat} (hm : x.msg = .resyncWrite d tag st n) (hn : x.withdrawal = .notAsked)
    (o : SendOutcome) (v : State) : sendDone x o v = resyncSlotOutcome none o v := by
  simp only [sendDone, hm, hn, if_true]

theorem sendDone_resyncData {bs : List Byte} (hm : x.msg = .data d tag i true bs) (hn : x.withdrawal = .notAsked)
    (o : SendOutcome) (v : State) : sendDone x o v = resyncSlotOutcome (some i) o v := by
  simp only [sendDone, hm, hn, if_true]

/-- R153: the outcome of an engine's message whose withdrawal was asked for is ignored. -/
theorem sendDone_withdrawn (hn : x.withdrawal ≠ .notAsked) (hm : isEngineMirror x.msg = true ∨ isEngineResync x.msg = true)
    (o : SendOutcome) (v : State) : sendDone x o v = v := by
  unfold sendDone
  cases hmsg : x.msg with
  | resyncBegin | resyncEnd | resyncWrite => exact if_neg hn
  | data d tag i resync bs =>
    cases resync with
    | true => exact if_neg hn
    | false =>
      rw [hmsg] at hm
      exact absurd hm (by simp [isEngineMirror, isEngineResync])
  | _ => exact absurd hm (by rw [hmsg]; simp [isEngineMirror, isEngineResync])

theorem resyncSlotOutcome_chunk (hc : v.engine.chunk = some c) (piece : Option Nat) :
    resyncSlotOutcome piece .busy v = v.onEngine (fun e => { e with retry := some v.tick })
      ∧ resyncSlotOutcome piece .spoiled v = v.onEngine (fun e => { e with ready := true })
      ∧ resyncSlotOutcome piece .unanswered v = stopResync true v
      ∧ resyncSlotOutcome none .taken v = v.onEngine (fun e =>
          { e with outstanding := some e.tagCounter, chunk := some { c with sendPos := some 0 }, ready := true })
      ∧ (i + 1 < c.count → resyncSlotOutcome (some i) .taken v = v.onEngine fun e =>
          { e with chunk := some { c with sendPos := some (i + 1) }, ready := true })
      ∧ (c.count ≤ i + 1 → resyncSlotOutcome (some i) .taken v = v.onEngine fun e =>
          { e with chunk := some { c with step := .reply }, replyWait := some v.tick }) := by
  unfold resyncSlotOutcome
  rw [hc]
  exact ⟨rfl, rfl, rfl, rfl, fun h => if_pos h, fun h => if_neg (Nat.not_lt.mpr h)⟩

/-- An unanswered message of the engine stops the resync. -/
theorem does_engineStops (hr : s.resetAsserted = false) (hx : s.bus.sending = some x) (hw : x.won = true)
    (hd : x.msg.dest = some d) (hu : ∀ v, v.engine = s.engine → sendDone x .unanswered v = stopResync true v)
    (hn : s.engine.state ≠ .idle) :
    Does (.sendOutcome false false) s { s.steady with line := none, resyncHoldOff := some (s.tick + 500#32) } fun u =>
      u.engine.state = .idle ∧ u.engine.chunk = none ∧ u.engine.outstanding = none ∧ u.engine.replyWait = none := by
  obtain ⟨hk, hstop, -⟩ := stopResync_hold (s := s.lineFreed x.slot) hn
  exact does_sentUnanswered hr hx hw hd (hu (s.lineFreed x.slot) rfl) hk
    ⟨hstop.idle, hstop.chunk, hstop.outstanding, hstop.replyWait⟩

/-- A message of the engine that was answered BUSY waits for its retry. -/
theorem does_engineWaits (hr : s.resetAsserted = false) (hx : s.bus.sending = some x) (hw : x.won = true)
    (hd : x.msg.dest = some d)
    (hu : ∀ v, v.engine = s.engine → sendDone x .busy v = v.onEngine fun e => { e with retry := some v.tick }) :
    Does (.sendOutcome false true) s { s.steady with line := none } fun u =>
      u.engine = { s.engine with retry := some s.tick } ∧ u.mirror = s.mirror :=
  does_sentBusy hr hx hw hd (hu (s.lineFreed x.slot) rfl) rfl ⟨rfl, rfl⟩

theorem partner_lineSpoiled (j : SlotId) (s : State) : (s.lineSpoiled j).partner = s.partner := rfl

/-! ## The engine's pages and its read (R148) -/

theorem takePages_takes (hc : s.engine.chunk = some c) (hs : c.step = .waitPages) (hd : s.drive.state = .ready)
    (hn : c.count ≤ s.freePages.length) :
    (takePages s).steady = s.steady
      ∧ (takePages s).engine.chunk = some { c with step := .read, pages := s.freePages.take c.count } := by
  unfold takePages
  rw [hc]
  dsimp only
  rw [if_pos ⟨hs, hd, hn⟩]
  split <;> exact ⟨rfl, rfl⟩

theorem takePages_waits (hc : s.engine.chunk = some c)
    (h : c.step ≠ .waitPages ∨ s.drive.state ≠ .ready ∨ s.freePages.length < c.count) : takePages s = s := by
  unfold takePages
  rw [hc]
  refine if_neg fun ⟨h₁, h₂, h₃⟩ => ?_
  rcases h with h | h | h
  · exact h h₁
  · exact h h₂
  · exact absurd h₃ (Nat.not_le.mpr h)

theorem chunkReadReply_chunk {cmd : LaneCmd} {t : Tick} {r : LaneReply}
    (hf : s.drive.flight = some { cmd := cmd, requester := .chunk, start := t }) : chunkReadReply r s = chunkRead r s := by
  unfold chunkReadReply
  rw [hf]

theorem chunkRead_ok {bs : List (List Byte)} (hc : s.engine.chunk = some c) : chunkRead (.ok bs) s =
    ((freeLane s).onBuffer fun m => writePages m c.pages bs).onEngine fun e =>
      { e with chunk := some { c with step := .send, sendPos := none }, tagCounter := e.tagCounter + 1, ready := true } := by
  unfold chunkRead
  rw [hc]
  rfl

theorem chunkRead_fails {n : BlockNo} {bs : List (List Byte)} (hc : s.engine.chunk = some c) : chunkRead (.mediaError n bs) s =
    chunkDone ((freeLane s).onBuffer fun m => writePages m c.pages (bs.take (n.toNat - c.start))) := by
  unfold chunkRead
  rw [hc]
  rfl

/-- R148, R151: within a region the next chunk follows. -/
theorem chunkDone_next {r : Fin 256} (hg : s.engine.region = some r) (hc : s.engine.chunk = some c)
    (h : c.start + c.count < min ((r.val + 1) * s.mirror.regionSize) s.drive.usable.toNat) : chunkDone s =
    s.onEngine fun e =>
      { e with chunk := some (chunkAt s.mirror.regionSize s.drive.usable.toNat r (c.start + c.count)) } := by
  unfold chunkDone
  rw [hg, hc]
  exact if_pos h

theorem chunkReadReply_stopped {cmd : LaneCmd} {t : Tick} {r : LaneReply}
    (hf : s.drive.flight = some { cmd := cmd, requester := .stoppedChunk, start := t }) : chunkReadReply r s =
    ((freeLane s).onBuffer fun m => writePages m s.engine.orphans (readBlocks cmd.firstBlock r)).onEngine
      fun e => { e with orphans := [] } := by
  unfold chunkReadReply
  rw [hf]

/-! ## The waits (R145, R147, R149, R151, R154) -/

theorem not_expired {now : Tick} {n : Nat} {h : Option Tick} (ht : ∀ t, h = some t → (now - t).toNat < n) :
    expired now n h = false :=
  Bool.eq_false_iff.mpr fun he => by
    obtain ⟨t, hs, hn⟩ := expired_iff.mp he
    exact absurd (ht t hs) (Nat.not_lt.mpr hn)

theorem retryResync_waits (h : ∀ t, s.engine.retry = some t → (s.tick - t).toNat < 10) : retryResync s = s :=
  if_neg (Bool.eq_false_iff.mp (not_expired h))

theorem retryRejoin_waits (h : ∀ t, s.mirror.rejoinRetry = some t → (s.tick - t).toNat < 10) : retryRejoin s = s :=
  if_neg (Bool.eq_false_iff.mp (not_expired h))

theorem retryResync_due {t : Tick} (h : s.engine.retry = some t) (ht : 10 ≤ (s.tick - t).toNat) : retryResync s =
    (let v := s.onEngine fun e => { e with retry := none }
     match v.engine.state, v.partner with
     | .beginning, some p => mirrorReady (.resyncBegin p v.engine.tagCounter v.mirror.epoch) v
     | .ending, some p => mirrorReady (.resyncEnd p v.mirror.epoch false) v
     | .copying, _ => v.onEngine fun e => { e with ready := true }
     | _, _ => v) :=
  if_pos (expired_iff.mpr ⟨t, h, ht⟩)

theorem retryRejoin_due {t : Tick} (h : s.mirror.rejoinRetry = some t) (ht : 10 ≤ (s.tick - t).toNat) (hp : s.partner = some p) :
    retryRejoin s =
      if s.mirror.out.any isResyncEnd || s.slotHolds .mirror isResyncEnd then s.onMirror fun x => { x with rejoinRetry := none }
      else mirrorReady (.resyncEnd p s.mirror.epoch true) (s.onMirror fun x => { x with rejoinRetry := none }) := by
  have hp' : (s.onMirror fun x => { x with rejoinRetry := none }).partner = some p := hp
  refine (if_pos (expired_iff.mpr ⟨t, h, ht⟩)).trans ?_
  dsimp only
  rw [hp']
  rfl

theorem replyWaitOver_due {t : Tick} (h : s.engine.replyWait = some t) (ht : 7000 ≤ (s.tick - t).toNat) :
    replyWaitOver s = stopResync true s := if_pos (expired_iff.mpr ⟨t, h, ht⟩)

theorem replyWaitOver_waits {t : Tick} (h : s.engine.replyWait = some t) (ht : (s.tick - t).toNat < 7000) :
    replyWaitOver s = s :=
  if_neg (Bool.eq_false_iff.mp (not_expired fun t' ht' => by
    rw [h] at ht'
    rw [← Option.some.inj ht']
    exact ht))

end

/-! The start of a resync in the tests after an event (R145). -/

section
variable {s u v : State} {p : Station}

/-! ## The engine through the tests -/

/-- The engine's state and its tag counter are as they were. -/
structure EngineKept (s u : State) : Prop where
  state : u.engine.state = s.engine.state
  tag : u.engine.tagCounter = s.engine.tagCounter

theorem EngineKept.refl (s : State) : EngineKept s s := ⟨rfl, rfl⟩

theorem EngineKept.trans (h : EngineKept s u) (g : EngineKept u v) : EngineKept s v :=
  ⟨g.state.trans h.state, g.tag.trans h.tag⟩

theorem engineKept_of_engine (h : u.engine = s.engine) : EngineKept s u := ⟨by rw [h], by rw [h]⟩

theorem engineKept_of_offEntries (h : u.offEntries = s.offEntries) : EngineKept s u :=
  have hs : u.offEntries.engine.state = s.offEntries.engine.state := congrArg (·.engine.state) h
  have ht : u.offEntries.engine.tagCounter = s.offEntries.engine.tagCounter := congrArg (·.engine.tagCounter) h
  ⟨hs, ht⟩

theorem engineKept_of_offClaim (h : u.offClaim = s.offClaim) : EngineKept s u :=
  have he : u.offClaim.engine = s.offClaim.engine := congrArg (·.engine) h
  engineKept_of_engine he

theorem engineKept_of_offWatch (h : u.offWatch = s.offWatch) : EngineKept s u :=
  have he : u.offWatch.engine = s.offWatch.engine := congrArg (·.engine) h
  engineKept_of_engine he

theorem engineKept_foldl {α : Type} (f : State → α → State) (hf : ∀ s a, EngineKept s (f s a)) :
    ∀ (l : List α) (s : State), EngineKept s (l.foldl f s)
  | [], s => .refl s
  | a :: l, s => (hf s a).trans (engineKept_foldl f hf l (f s a))

theorem engineKept_endEntry (k : Key) (st : Status) (s : State) : EngineKept s (endEntry k st s) :=
  engineKept_of_offEntries (offEntries_endEntry k st s)

theorem engineKept_setBehind (s : State) : EngineKept s (setBehind s) := engineKept_of_offEntries (offEntries_setBehind s)

theorem engineKept_resyncWakeTest (s : State) : EngineKept s (resyncWakeTest s) := by
  unfold resyncWakeTest
  split
  · split <;> exact ⟨rfl, rfl⟩
  · exact .refl s

theorem engineKept_handKey (s : State) (k : Key) : EngineKept s (handKey s k) := by
  rcases handKey_cases s k with h | ⟨e, -, -, ⟨ep, -, h⟩ | ⟨-, h⟩⟩
  · rw [h]
    exact .refl s
  · rw [h]
    unfold checkResyncBegin
    split
    · exact (engineKept_setBehind s).trans (engineKept_endEntry _ _ _)
    · exact engineKept_endEntry _ _ s
  · rw [h]
    unfold checkPromote
    split
    · split
      · exact .refl s
      · exact engineKept_endEntry _ _ s
    · split
      · exact ⟨rfl, rfl⟩
      · exact engineKept_endEntry _ _ s

theorem engineKept_takePages (s : State) : EngineKept s (takePages s) := by
  unfold takePages
  split
  · split
    · dsimp only
      split <;> exact ⟨rfl, rfl⟩
    · exact .refl s
  · exact .refl s

theorem engineKept_chooseCommand (s : State) : EngineKept s (chooseCommand s) := by
  have hc : EngineKept s (runChecks s) := by
    obtain ⟨r, c, o, w, h⟩ := endsOnly_runChecks s
    rw [h]
    exact ⟨rfl, rfl⟩
  have hread : ∀ w : State, EngineKept w (sendChunkRead w) := fun w => by
    unfold sendChunkRead
    split <;> exact ⟨rfl, rfl⟩
  unfold chooseCommand
  split
  · split
    · unfold sendRecordWork
      split
      · exact ⟨rfl, rfl⟩
      · split <;> exact ⟨rfl, rfl⟩
    · split
      · exact hread s
      · dsimp only
        split
        · exact hc.trans ⟨rfl, rfl⟩
        · split
          · exact hc.trans (hread _)
          · exact hc
  · exact .refl s

theorem engineKept_settlePages (s : State) : EngineKept s (settlePages s) :=
  (engineKept_takePages s).trans (engineKept_chooseCommand _)

theorem engineKept_settleLane (s : State) : EngineKept s (settleLane s) :=
  (engineKept_foldl handKey engineKept_handKey s.keys s).trans (engineKept_settlePages _)

theorem engineKept_settleSlots (b s : State) : EngineKept s (settleSlots b s) := by
  have h₁ : ∀ w : State, EngineKept w (placeRequest w) := fun w => by
    unfold placeRequest
    split
    · dsimp only
      split <;> exact ⟨rfl, rfl⟩
    · exact .refl w
  have h₂ : ∀ w : State, EngineKept w (placeMirror w) := fun w => by
    unfold placeMirror
    split
    · dsimp only
      split <;> exact ⟨rfl, rfl⟩
    · exact .refl w
  have h₃ : ∀ w : State, EngineKept w (placeResync w) := fun w => by
    unfold placeResync
    split
    · split
      · dsimp only
        split <;> exact ⟨rfl, rfl⟩
      · exact .refl w
    · exact .refl w
  have h₄ : EngineKept s (orderMirror b.mirror.out (orderFresh b.request.out.length s)) := ⟨rfl, rfl⟩
  exact h₄.trans ((h₁ _).trans ((h₂ _).trans (h₃ _)))

/-- The tests after the start of a resync leave the engine's state. -/
theorem engineKept_settle (b : State) (h : s.takesPart = true) : EngineKept (linked b s) (settle b s) := by
  have hw : worked b s = settlePages (settleSlots b (settleLane (resyncWakeTest (linked b s)))) := rfl
  have hsame : EngineKept (worked b s) (settle b s) := engineKept_of_engine (sameLane_settle b h).engine
  rw [hw] at hsame
  exact (engineKept_resyncWakeTest _).trans ((engineKept_settleLane _).trans ((engineKept_settleSlots b _).trans
    ((engineKept_settlePages _).trans hsame)))

/-! ## An idle engine before the start (R145) -/

theorem stopResync_idle (h : s.engine.state = .idle) (b : Bool) : stopResync b s = s := if_pos h

/-- An idle engine stays as it is. -/
def IdleKept (s u : State) : Prop := s.engine.state = .idle → EngineKept s u

theorem EngineKept.idle (h : EngineKept s u) : IdleKept s u := fun _ => h

theorem IdleKept.trans (h : IdleKept s u) (g : IdleKept u v) : IdleKept s v := fun hi =>
  (h hi).trans (g ((h hi).state.trans hi))

theorem idleKept_stopResync (s : State) : IdleKept s (stopResync false s) := fun hi => by
  rw [stopResync_idle hi]
  exact .refl s

theorem idleKept_linkLeft (a b : Link) (s : State) : IdleKept s (linkLeft a b s) := by
  have h₁ : ∀ (c : Prop) [Decidable c], EngineKept s (if c then
      ((setBehind s).request.queue.filter fun e =>
        e.kind == .replica && (e.state == .dataIn || e.state == .queued)).foldl (fun s e => endReplica e.key true s) (setBehind s)
      else s) := fun c _ => by
    split
    · exact (engineKept_setBehind s).trans (engineKept_foldl _ (fun w e => engineKept_of_offEntries (offEntries_endReplica _ _ w)) _ _)
    · exact .refl s
  have h₂ : ∀ (w : State) (c : Prop) [Decidable c], EngineKept w (if c then endWaits .okDegraded true w else w) := fun w c _ => by
    split
    · rw [endWaits_eq]
      refine engineKept_foldl _ (fun z e => ?_) _ w
      have hmark : EngineKept z (match e.extent with | some x => markExtent x z | none => z) := by
        split
        · exact engineKept_of_offEntries (offEntries_markRegions _ z)
        · exact .refl z
      exact hmark.trans (engineKept_endEntry _ _ _)
    · exact .refl w
  have h₃ : ∀ (w : State) (c : Prop) [Decidable c], IdleKept w (if c then stopResync false w else w) := fun w c _ => by
    split
    · exact idleKept_stopResync w
    · exact (EngineKept.refl w).idle
  exact (h₁ _).idle.trans ((h₂ _ _).idle.trans (h₃ _ _))

theorem idleKept_judgeLink (s : State) : IdleKept s (judgeLink s) := by
  unfold judgeLink
  dsimp only
  split
  · exact (EngineKept.refl s).idle
  · have hset : IdleKept s (s.onMirror fun x => { x with link := s.linkNow }) := fun _ => ⟨rfl, rfl⟩
    exact hset.trans (idleKept_linkLeft _ _ _)

theorem idleKept_enterSpinDown (s : State) : IdleKept s (enterSpinDown s) := fun hi => by
  have h : EngineKept s s.stopped := by
    have hstop : stopResync false s.stopping = s.stopping := stopResync_idle (s := s.stopping) hi false
    have hage : EngineKept s.stopping (ageSweep s.stopping) := engineKept_of_offEntries (offEntries_endWorks .noPower _ _)
    unfold State.stopped
    rw [hstop]
    exact ⟨hage.state, hage.tag⟩
  rw [enterSpinDown_eq]
  generalize s.stopped = w at h
  split <;> exact ⟨h.state, h.tag⟩

theorem idleKept_hotAction (s : State) : IdleKept s (hotAction s) := by
  unfold hotAction
  split
  · have hoff : EngineKept s (s.onDrive fun d => { d with deferral := none, offSince := s.tick }) := ⟨rfl, rfl⟩
    unfold giveUpDeferral
    dsimp only
    rw [if_neg Bool.false_ne_true]
    exact (hoff.trans (engineKept_of_offClaim (offClaim_powerRemoved _))).idle
  · split
    · exact idleKept_enterSpinDown s
    · split <;> exact fun _ => ⟨rfl, rfl⟩

theorem engineKept_edged (b s : State) : EngineKept s (edged b s) := by
  have hstop : EngineKept s (stopIdle s) := by
    unfold stopIdle
    split <;> exact ⟨rfl, rfl⟩
  exact hstop.trans (engineKept_of_offWatch (offWatch_dutyEdge b _))

theorem engineKept_dropPromotion (s : State) : EngineKept s (dropPromotion s) := by
  unfold dropPromotion
  split
  · split
    · dsimp only
      split
      · have hm : EngineKept s (s.onMirror fun m => { m with promotion := none }) := ⟨rfl, rfl⟩
        exact hm.trans (engineKept_endEntry _ _ _)
      · exact ⟨rfl, rfl⟩
    · exact .refl s
  · exact .refl s

/-- What the start of a resync is given. -/
def unstarted (b s : State) : State := dropPromotion (judged b s)

theorem idleKept_unstarted (b s : State) : IdleKept s (unstarted b s) := by
  have h : IdleKept s (judged b s) :=
    (engineKept_edged b s).idle.trans ((idleKept_hotAction _).trans (idleKept_judgeLink _))
  exact h.trans (engineKept_dropPromotion _).idle

/-! ## The start -/

/-- The conditions under which an idle engine begins (R145). -/
def State.Resyncs (s : State) : Prop :=
  s.engine.state = .idle ∧ s.mirror.role = .primary ∧ s.mirror.link = .resyncing ∧ s.engine.holdOff = none
    ∧ s.drive.state ≠ .fault ∧ s.drive.state ≠ .spinDown

theorem startResync_begins (hp : s.partner = some p) (h : s.Resyncs) : startResync s =
    mirrorReady (.resyncBegin p (s.engine.tagCounter + 1) s.mirror.epoch)
      (s.onEngine fun e => { e with state := .beginning, tagCounter := s.engine.tagCounter + 1, readStarted := false }) := by
  unfold startResync
  rw [hp]
  exact if_pos h

theorem startResync_stays (h : ¬ s.Resyncs) : startResync s = s := by
  unfold startResync
  split
  · exact if_neg h
  · rfl

theorem grows_resyncWakeTest (s : State) : Grows s (resyncWakeTest s) := by
  unfold resyncWakeTest
  split
  · split
    · exact ⟨rfl, rfl, fun _ h => List.mem_append_left _ h⟩
    · exact .refl s
  · exact .refl s

theorem steady_unstarted (b s : State) : (unstarted b s).steady = s.steady :=
  (steady_dropPromotion _).trans (steady_judged b s)

/-- The conditions of R145 stand at the start as they stand after the tests. -/
theorem unstarted_as_settled (b : State) (h : s.takesPart = true) :
    (unstarted b s).mirror.role = (settle b s).mirror.role ∧ (unstarted b s).mirror.epoch = (settle b s).mirror.epoch
      ∧ (unstarted b s).mirror.link = (settle b s).mirror.link
      ∧ (unstarted b s).engine.holdOff = (settle b s).engine.holdOff
      ∧ (unstarted b s).drive.state = (settle b s).drive.state := by
  have hst : (unstarted b s).steady = (settle b s).steady := (steady_unstarted b s).trans (steady_settle s b).symm
  have hlink : (unstarted b s).mirror.link = (settle b s).mirror.link :=
    (linkKept_dropPromotion _).link.trans (linkKept_settle b h).link.symm
  have hdrop : (unstarted b s).drive.state = (hotAction (edged b s)).drive.state :=
    (state_of_offWork (offWork_dropPromotion _)).trans (state_of_offWork (offWork_judgeLink _))
  have hworked : (settle b s).drive.state = (hotAction (edged b s)).drive.state :=
    (sameLane_settle b h).state.trans (state_of_offWork (offWork_worked b s))
  generalize settle b s = t at *
  exact ⟨congrArg Steady.role hst, congrArg Steady.epoch hst, hlink, congrArg Steady.resyncHoldOff hst, hdrop.trans hworked.symm⟩

theorem linked_unstarted (b s : State) : linked b s = startResync (unstarted b s) := rfl

/-- After the tests no resync that can begin has not begun. -/
theorem settle_resyncs (b : State) (h : s.takesPart = true) (hp : s.partner = some p)
    (hr : (settle b s).mirror.role = .primary) (hl : (settle b s).mirror.link = .resyncing)
    (ho : (settle b s).engine.holdOff = none) (hf : (settle b s).drive.state ≠ .fault)
    (hd : (settle b s).drive.state ≠ .spinDown) : (settle b s).engine.state ≠ .idle := by
  obtain ⟨h₁, -, h₃, h₄, h₅⟩ := unstarted_as_settled b h
  have hkept := (engineKept_settle b h).state
  have hpart : (unstarted b s).partner = some p :=
    (partner_of_steady (congrArg Steady.settings (steady_unstarted b s))).trans hp
  rw [linked_unstarted] at hkept
  generalize settle b s = t at *
  generalize unstarted b s = v at *
  intro hi
  by_cases hs : v.Resyncs
  · rw [startResync_begins hpart hs, hi] at hkept
    exact nomatch hkept
  · rw [startResync_stays hs] at hkept
    exact hs ⟨hkept.symm.trans hi, h₁.trans hr, h₃.trans hl, h₄.trans ho, by rw [h₅]; exact hf, by rw [h₅]; exact hd⟩

/-- A resync that the tests begin has its RESYNC-BEGIN in the list or in the slot. -/
theorem settle_begins (b : State) (h : s.takesPart = true) (hp : s.partner = some p) (hi : s.engine.state = .idle)
    (hn : (settle b s).engine.state ≠ .idle) :
    (settle b s).engine.state = .beginning ∧ (settle b s).engine.tagCounter = s.engine.tagCounter + 1
      ∧ (settle b s).Holds fun m => m == .resyncBegin p (settle b s).engine.tagCounter (settle b s).mirror.epoch := by
  obtain ⟨-, hepoch, -, -, -⟩ := unstarted_as_settled b h
  have hkept := engineKept_settle b h
  have hidle := idleKept_unstarted b s hi
  have hpart : (unstarted b s).partner = some p :=
    (partner_of_steady (congrArg Steady.settings (steady_unstarted b s))).trans hp
  have hholds : ∀ q : OutMsg → Bool, (linked b s).Holds q → (settle b s).Holds q := fun q hq => by
    obtain ⟨hm, hslot⟩ := mirror_settle b h
    have hw := (worked_keeps q b s).2 ((grows_resyncWakeTest _).holds hq)
    unfold State.Holds
    rw [hm, slotHolds_of_slot hslot]
    exact hw
  rw [linked_unstarted] at hkept hholds
  generalize settle b s = t at *
  generalize unstarted b s = v at *
  by_cases hs : v.Resyncs
  · have hlast := startResync_begins hpart hs
    have htag : t.engine.tagCounter = v.engine.tagCounter + 1 := hkept.tag.trans (by rw [hlast]; rfl)
    refine ⟨hkept.state.trans (by rw [hlast]; rfl), htag.trans (by rw [hidle.tag]), hholds _ (.inl ?_)⟩
    rw [hlast, htag, ← hepoch]
    exact List.any_eq_true.mpr ⟨_, List.mem_append_right _ List.mem_cons_self, beq_self_eq_true _⟩
  · rw [startResync_stays hs] at hkept
    exact absurd (hkept.state.trans (hidle.state.trans hi)) hn

theorem holds_message {m : OutMsg} (h : s.Holds fun x => x == m) : m ∈ s.mirror.out ∨ s.slot .mirror = some m := by
  refine h.imp (fun ho => ?_) fun hh => ?_
  · obtain ⟨x, hx, he⟩ := List.any_eq_true.mp ho
    rw [← beq_iff_eq.mp he]
    exact hx
  · unfold State.slotHolds at hh
    cases hs : s.slot .mirror with
    | none =>
      rw [hs] at hh
      cases hh
    | some x =>
      rw [hs] at hh
      rw [beq_iff_eq.mp hh]

end

/-! What the resync engine does. -/

section
variable {s : State} {x : Sending} {d p : Station} {tag : Tag} {ep i : Nat} {c : Chunk}

/-! ## The chunk read (R148, R153) -/

theorem does_chunkRead {cmd : LaneCmd} {t : Tick} {bs : List (List Byte)} (hr : s.resetAsserted = false)
    (hf : s.drive.flight = some { cmd := cmd, requester := .chunk, start := t }) (hc : s.engine.chunk = some c) :
    Does (.chunkReadReply (.ok bs)) s { s.steady with buffer := writePages s.buffer c.pages bs } fun u =>
      u.engine.chunk = some { c with step := .send, sendPos := none } ∧ u.engine.ready = true
      ∧ u.engine.tagCounter = s.engine.tagCounter + 1 ∧ u.drive.flight = none :=
  does_event hr rfl ((chunkReadReply_chunk hf).trans (chunkRead_ok hc)) rfl ⟨rfl, rfl, rfl, rfl⟩

theorem does_chunkReadFails {cmd : LaneCmd} {t : Tick} {n : BlockNo} {bs : List (List Byte)} {r : Fin 256}
    (hr : s.resetAsserted = false) (hf : s.drive.flight = some { cmd := cmd, requester := .chunk, start := t })
    (hc : s.engine.chunk = some c) (hg : s.engine.region = some r)
    (hlt : c.start + c.count < min ((r.val + 1) * s.mirror.regionSize) s.drive.usable.toNat) :
    Does (.chunkReadReply (.mediaError n bs)) s
      { s.steady with buffer := writePages s.buffer c.pages (bs.take (n.toNat - c.start)) } fun u =>
      u.drive.flight = none ∧ u.engine.chunk =
        some { start := c.start + c.count
               count := min 64 (min ((r.val + 1) * s.mirror.regionSize) s.drive.usable.toNat - (c.start + c.count))
               step := .waitPages, pages := [], sendPos := none } := by
  have hnext := chunkDone_next
    (s := (freeLane s).onBuffer fun m => writePages m c.pages (bs.take (n.toNat - c.start))) hg hc hlt
  exact does_event hr rfl ((chunkReadReply_chunk hf).trans ((chunkRead_fails hc).trans hnext)) rfl ⟨rfl, rfl⟩

/-! ## The retries (R145, R149, R151, R154) -/

theorem does_retries {v : State} {P : State → Prop} (hr : s.resetAsserted = false) (hv : retryResync s = v)
    (hn : v.mirror.rejoinRetry = none) (hk : v.steady = s.steady) (hP : P v) : Does .resyncRetryWaitEnd s s.steady P := by
  have hwait : retryRejoin v = v := retryRejoin_waits fun t ht => by
    rw [hn] at ht
    cases ht
  exact does_event (f := fun s => retryRejoin (retryResync s)) hr rfl ((congrArg retryRejoin hv).trans hwait) hk hP

theorem does_rejoins {t : Tick} (hr : s.resetAsserted = false) (hp : s.partner = some p) (hn : s.engine.retry = none)
    (h : s.mirror.rejoinRetry = some t) (ht : 10 ≤ (s.tick - t).toNat) :
    Does .resyncRetryWaitEnd s s.steady fun u => u.mirror.rejoinRetry = none ∧ u.mirror.out =
      if s.mirror.out.any isResyncEnd || s.slotHolds .mirror isResyncEnd then s.mirror.out
      else s.mirror.out ++ [.resyncEnd p s.mirror.epoch true] := by
  have hwait : retryResync s = s := retryResync_waits fun t ht => by
    rw [hn] at ht
    cases ht
  refine does_event (f := fun s => retryRejoin (retryResync s)) hr rfl
    ((congrArg retryRejoin hwait).trans (retryRejoin_due h ht hp)) ?_ ?_
  · split <;> rfl
  · split <;> exact ⟨rfl, rfl⟩

/-! ## Messages made ready again (logs 37, 38) -/

theorem resyncBegin_spoiled {v : State} (hp : v.partner = some p) :
    resyncBeginOutcome tag .spoiled v = mirrorReady (.resyncBegin p tag v.mirror.epoch) v := by
  unfold resyncBeginOutcome
  simp only [hp]

theorem resyncEnd_spoiled {v : State} (hp : v.partner = some p) (b : Bool) :
    resyncEndOutcome b .spoiled v = mirrorReady (.resyncEnd p v.mirror.epoch b) v := by
  unfold resyncEndOutcome
  simp only [hp]

theorem retry_begins {t : Tick} (h : s.engine.retry = some t) (ht : 10 ≤ (s.tick - t).toNat) (hp : s.partner = some p)
    (hs : s.engine.state = .beginning) : retryResync s =
      mirrorReady (.resyncBegin p s.engine.tagCounter s.mirror.epoch) (s.onEngine fun e => { e with retry := none }) := by
  have hs' : (s.onEngine fun e => { e with retry := none }).engine.state = .beginning := hs
  have hp' : (s.onEngine fun e => { e with retry := none }).partner = some p := hp
  rw [retryResync_due h ht]
  simp only [hs', hp']
  rfl

theorem retry_ends {t : Tick} (h : s.engine.retry = some t) (ht : 10 ≤ (s.tick - t).toNat) (hp : s.partner = some p)
    (hs : s.engine.state = .ending) : retryResync s =
      mirrorReady (.resyncEnd p s.mirror.epoch false) (s.onEngine fun e => { e with retry := none }) := by
  have hs' : (s.onEngine fun e => { e with retry := none }).engine.state = .ending := hs
  have hp' : (s.onEngine fun e => { e with retry := none }).partner = some p := hp
  rw [retryResync_due h ht]
  simp only [hs', hp']
  rfl

theorem retry_copies {t : Tick} (h : s.engine.retry = some t) (ht : 10 ≤ (s.tick - t).toNat) (hs : s.engine.state = .copying) :
    retryResync s = s.onEngine fun e => { e with retry := none, ready := true } := by
  have hs' : (s.onEngine fun e => { e with retry := none }).engine.state = .copying := hs
  rw [retryResync_due h ht]
  simp only [hs']
  rfl

end

/-- Settles O46. -/
theorem resyncProceeds : Obligations.ResyncProceeds := by
  unfold Obligations.ResyncProceeds
  refine ⟨fun b s p ht hp => ?start, fun s x hr hx hw => ?sent, fun s c hr hc => ?chunk, fun s st n c t bs hr hf => ?stopped,
    fun s n t hr hp => ?retry, fun s t hr h => ?reply⟩
  case start =>
    intro t
    refine ⟨fun hrole hl ho hf hd => settle_resyncs b ht hp hrole hl ho hf hd, fun hi hn => ?_⟩
    obtain ⟨hstate, htag, hholds⟩ := settle_begins b ht hp hi hn
    exact ⟨hstate, htag, holds_message hholds⟩
  case sent =>
    intro done fell stops waits
    refine ⟨fun hn => ⟨fun d tag ep hm => ?begin, fun d ep hm => ?finish, fun d ep hm => ?rejoin, fun d tag st n c hm hc => ?write,
      fun d tag i bs c hm hc => ?piece⟩, fun hn hm => ?withdrawn⟩
    case begin =>
      have hd : x.msg.dest = some d := by rw [hm]; rfl
      have hdone := sendDone_resyncBegin hm hn
      refine ⟨fun b => does_sentTaken hr hx hw hd b (hdone _ _) rfl ⟨rfl, rfl⟩,
        does_engineWaits hr hx hw hd fun v _ => hdone _ v, fun hi => does_engineStops hr hx hw hd (fun v _ => hdone _ v) hi,
        fun p hp => ?_⟩
      exact does_sendSpoiled hr hx hw ((hdone _ _).trans (resyncBegin_spoiled (v := s.lineSpoiled x.slot) hp))
        (steady_lineSpoiled (s := s) x.slot) rfl
    case finish =>
      have hd : x.msg.dest = some d := by rw [hm]; rfl
      have hdone := sendDone_resyncEnd hm hn
      refine ⟨fun b => does_sentTaken hr hx hw hd b (hdone _ _) rfl ⟨rfl, rfl⟩,
        does_engineWaits hr hx hw hd fun v _ => hdone _ v, does_sentUnanswered hr hx hw hd (hdone _ _) rfl ⟨rfl, rfl⟩,
        fun p hp => ?_⟩
      exact does_sendSpoiled hr hx hw ((hdone _ _).trans (resyncEnd_spoiled (v := s.lineSpoiled x.slot) hp false))
        (steady_lineSpoiled (s := s) x.slot) rfl
    case rejoin =>
      have hd : x.msg.dest = some d := by rw [hm]; rfl
      have hdone := sendDone_resyncEnd hm hn
      refine ⟨fun b => does_sentTaken hr hx hw hd b (hdone _ _) rfl ⟨rfl, rfl⟩,
        does_sentBusy hr hx hw hd (hdone _ _) rfl ⟨rfl, rfl⟩, does_sentUnanswered hr hx hw hd (hdone _ _) rfl ⟨rfl, rfl⟩,
        fun p hp => ?_⟩
      exact does_sendSpoiled hr hx hw ((hdone _ _).trans (resyncEnd_spoiled (v := s.lineSpoiled x.slot) hp true))
        (steady_lineSpoiled (s := s) x.slot) rfl
    case write =>
      have hd : x.msg.dest = some d := by rw [hm]; rfl
      have hdone := sendDone_resyncWrite hm hn
      have hslot : ∀ v : State, v.engine = s.engine → _ := fun v hv =>
        resyncSlotOutcome_chunk (v := v) (i := 0) ((congrArg ResyncEngine.chunk hv).trans hc) none
      refine ⟨fun b => ?_, does_engineWaits hr hx hw hd fun v hv => (hdone _ v).trans (hslot v hv).1,
        fun hi => does_engineStops hr hx hw hd (fun v hv => (hdone _ v).trans (hslot v hv).2.2.1) hi, ?_⟩
      · exact does_sentTaken hr hx hw hd b ((hdone _ _).trans (hslot (s.lineFreed x.slot) rfl).2.2.2.1) rfl rfl
      · exact does_sendSpoiled hr hx hw ((hdone _ _).trans (hslot (s.lineSpoiled x.slot) rfl).2.1) (steady_lineSpoiled (s := s) x.slot) rfl
    case piece =>
      have hd : x.msg.dest = some d := by rw [hm]; rfl
      have hdone := sendDone_resyncData hm hn
      have hslot : ∀ v : State, v.engine = s.engine → _ := fun v hv =>
        resyncSlotOutcome_chunk (v := v) (i := i) ((congrArg ResyncEngine.chunk hv).trans hc) (some i)
      obtain ⟨-, -, -, -, hmore, hlast⟩ := hslot (s.lineFreed x.slot) rfl
      refine ⟨fun hlt b => does_sentTaken hr hx hw hd b ((hdone _ _).trans (hmore hlt)) rfl rfl,
        fun hle b => does_sentTaken hr hx hw hd b ((hdone _ _).trans (hlast hle)) rfl rfl,
        does_engineWaits hr hx hw hd fun v hv => (hdone _ v).trans (hslot v hv).1,
        fun hi => does_engineStops hr hx hw hd (fun v hv => (hdone _ v).trans (hslot v hv).2.2.1) hi, ?_⟩
      exact does_sendSpoiled hr hx hw ((hdone _ _).trans (hslot (s.lineSpoiled x.slot) rfl).2.1) (steady_lineSpoiled (s := s) x.slot) rfl
    case withdrawn =>
      have hdone := sendDone_withdrawn hn hm
      exact ⟨fun a b => does_sendOutcome hr hx hw (hdone _ _) rfl ⟨rfl, rfl⟩,
        does_sendSpoiled hr hx hw (hdone _ _) (steady_lineSpoiled (s := s) x.slot) ⟨rfl, rfl⟩⟩
  case chunk =>
    refine ⟨fun hs hd hn => ?_, fun h => idles_of takePages hr rfl (takePages_waits hc h), fun cmd t hf =>
      ⟨fun bs => does_chunkRead hr hf hc, fun n bs r hg => ?_⟩⟩
    · obtain ⟨hk, hchunk⟩ := takePages_takes hc hs hd hn
      exact does_event hr rfl rfl hk hchunk
    · intro stop hlt
      exact does_chunkReadFails hr hf hc hg hlt
  case stopped =>
    intro ends
    exact ⟨does_event hr rfl (chunkReadReply_stopped hf) rfl ⟨rfl, rfl⟩, does_event hr rfl (chunkReadReply_stopped hf) rfl ⟨rfl, rfl⟩⟩
  case retry =>
    refine ⟨fun h ht hrejoin => ⟨fun hs => ?_, fun hs => ?_, fun hs => ?_⟩, fun hn h ht => does_rejoins hr hp hn h ht,
      fun h₁ h₂ => ?_⟩
    · exact does_retries hr (retry_begins h ht hp hs) hrejoin rfl ⟨rfl, rfl⟩
    · exact does_retries hr (retry_ends h ht hp hs) hrejoin rfl ⟨rfl, rfl⟩
    · exact does_retries hr (retry_copies h ht hs) hrejoin rfl ⟨rfl, rfl⟩
    · exact idles_of (fun s => retryRejoin (retryResync s)) hr rfl
        ((congrArg retryRejoin (retryResync_waits h₁)).trans (retryRejoin_waits h₂))
  case reply =>
    refine ⟨fun ht hi => ?_, fun ht => idles_of replyWaitOver hr rfl (replyWaitOver_waits h ht)⟩
    obtain ⟨hk, hstop, -⟩ := stopResync_hold hi
    exact does_event hr rfl (replyWaitOver_due h ht) hk ⟨hstop.idle, hstop.chunk, hstop.outstanding, hstop.replyWait⟩

end Sys2Proof.Machine
